-- ==== Sys2Proof/Word.lean ====
section
/-! DEFINITION. The machine's word types: registers are 32 bits wide and little-endian (R9), the
smallest addressable unit of every byte space is the byte, and time is counted in whole nanoseconds. -/

namespace Sys2Proof

/-- A register value (R9: registers are 32 bits wide). -/
abbrev W32 := BitVec 32

/-- A byte of a Gangway target space. -/
abbrev Byte := BitVec 8

/-- A 64-bit payload of a 64b/66b block (R243), or a 64-bit time word. -/
abbrev W64 := BitVec 64

/-- A time or a duration in nanoseconds. -/
abbrev Ns := Nat

end Sys2Proof
end

