-- ==== Sys2Proof/Terms.lean ====
section
/-! DEFINITION. The named things that commands and the state share: domains, Landings, register
writes, and the records in which content from outside reaches the block. -/

namespace Sys2Proof

/-- The access domains and their codes (R408). -/
inductive Dom where
  | p0 | p1 | s | f
  deriving DecidableEq, Repr

/-- The domain's code (R408). -/
def Dom.code : Dom → Nat
  | .p0 => 0 | .p1 => 1 | .s => 2 | .f => 3

/-- The domain of a two-bit code (R408). -/
def Dom.ofCode (n : Nat) : Dom :=
  if n % 4 = 0 then .p0 else if n % 4 = 1 then .p1 else if n % 4 = 2 then .s else .f

/-- The two control islands (R15). -/
inductive Landing where
  | a | b
  deriving DecidableEq, Repr

/-- 0 for Landing A, 1 for Landing B. -/
def Landing.idx : Landing → Nat
  | .a => 0 | .b => 1

/-- The other Landing. -/
def Landing.other : Landing → Landing
  | .a => .b | .b => .a

/-- The Landing of an index. -/
def Landing.ofIdx (n : Nat) : Landing := if n % 2 = 0 then .a else .b

/-- A 4-byte register write of a domain: register address, value, byte enables (R406; 0xF is a whole
word). -/
structure RegWrite where
  dom : Dom
  addr : Nat
  value : W32
  be : Nat := 0xF
  deriving DecidableEq, Repr

/-- A request frame of the safety port as it was clocked in (R179): CMD, ADDR, LEN, PAYLOAD, CRC. -/
structure SafetyFrame where
  cmd : Nat
  addr : Nat
  len : Nat
  payload : List Byte
  crc : Nat
  deriving DecidableEq, Repr

/-- The header of a received PTP message (R73): the Ethernet port it arrived on, its transport (0
Layer 2, 1 UDP on IPv4, 2 UDP on IPv6), domain and sdoId, sourcePortIdentity and sequenceId. -/
structure PtpHdr where
  port : Nat
  transport : Nat
  domain : Nat
  majorSdo : Nat
  minorSdo : Nat
  src : Nat
  seq : Nat
  deriving DecidableEq, Repr

/-- A Sync: twoStepFlag, originTimestamp in ns, correctionField in 2^-16 ns, logMessageInterval, and
the MAC receive stamp (R76, R77). -/
structure PtpSync where
  hdr : PtpHdr
  twoStep : Bool
  t1 : Int
  corr : Int
  logInterval : Int
  stamp : Nat
  deriving DecidableEq, Repr

/-- A Follow_Up: preciseOriginTimestamp in ns, correctionField in 2^-16 ns, MAC receive stamp. -/
structure PtpFollowUp where
  hdr : PtpHdr
  t1 : Int
  corr : Int
  stamp : Nat
  deriving DecidableEq, Repr

/-- A Delay_Resp: receiveTimestamp in ns, correctionField in 2^-16 ns, logMinDelayReqInterval. -/
structure PtpDelayResp where
  hdr : PtpHdr
  t4 : Int
  corr : Int
  logMinDelayReq : Int
  deriving DecidableEq, Repr

/-- An Announce: its data set and the UTC fields (R75, R84). -/
structure PtpAnnounce where
  hdr : PtpHdr
  logInterval : Int
  gmId : Nat
  priority1 : Nat
  clockClass : Nat
  accuracy : Nat
  variance : Nat
  priority2 : Nat
  stepsRemoved : Nat
  utcOffset : Nat
  utcValid : Bool
  leap61 : Bool
  leap59 : Bool
  deriving DecidableEq, Repr

/-- A received Ethernet frame as the classifier sees it (R51): the parsed header fields and the outcomes
of its checksums. `stamp` is the MAC receive time on the Datum (R76). -/
structure EthFrame where
  port : Nat
  /-- FCS correct. -/
  fcsOk : Bool
  /-- From the destination address through the FCS. -/
  length : Nat
  /-- Destination MAC, its first byte in bits [7:0]. -/
  dmac : Nat
  /-- A PAUSE or priority flow control frame (R49). -/
  pause : Bool
  /-- The VID of a 802.1Q tag. -/
  vlan : Option Nat
  etherType : Nat
  /-- IPv4 with a correct header checksum and unfragmented, or IPv6 without extension header. -/
  ipOk : Bool
  /-- Destination address. -/
  dstIp : Nat
  dstIpMulticast : Bool
  udp : Bool
  /-- UDP checksum: 0 a zero checksum, 1 correct, 2 wrong. -/
  udpSum : Nat
  dstPort : Nat
  /-- messageType of a PTP message. -/
  ptpType : Nat
  /-- RTP SSRC or Atlas STREAM_ID. -/
  ssrc : Nat
  /-- It carries an RTCP packet (R55). -/
  rtcp : Bool
  stamp : Nat
  deriving DecidableEq, Repr

/-- A NAL unit carried, or begun, by an RTP packet: whether it is a slice segment, whether that is the
first of its picture, dependent, of an IRAP picture; its samples of decode load (R93) and its bytes. -/
structure NalD where
  slice : Bool
  firstOfPic : Bool
  dependent : Bool
  irap : Bool
  samples : Nat
  bytes : Nat
  deriving DecidableEq, Repr

/-- An RTP datagram (R55, R58 to R63). `nalType` is that of the payload header: 48 aggregation, 49
fragmentation unit, 50 PACI, below 48 a single NAL unit. -/
structure RtpPkt where
  port : Nat
  udpPort : Nat
  ssrc : Nat
  version : Nat
  pt : Nat
  seq : Nat
  ts : Nat
  marker : Bool
  nalType : Nat
  nals : List NalD
  fuStart : Bool
  fuEnd : Bool
  bytes : Nat
  stamp : Nat
  srcMac : Nat
  srcIp : Nat
  deriving DecidableEq, Repr

/-- An RTCP sender report (R55, R65). -/
structure RtcpSr where
  port : Nat
  udpPort : Nat
  ssrc : Nat
  ntpSec : Nat
  ntpFrac : Nat
  rtpTs : Nat
  stamp : Nat
  srcMac : Nat
  srcIp : Nat
  deriving DecidableEq, Repr

/-- The profiles of R90; `other` is any that the table does not list. -/
inductive HevcProfile where
  | main | main10 | main422x10 | mono12 | multiview | other
  deriving DecidableEq, Repr

/-- A parsed VPS and SPS of a context (R90 to R92, R106): cropped size, chroma_format_idc, bit depths,
views, and sps_max_dec_pic_buffering_minus1 of the highest temporal sub-layer. -/
structure ParamSet where
  profile : HevcProfile
  levelIdc : Nat
  chromaIdc : Nat
  bitLuma : Nat
  bitChroma : Nat
  width : Nat
  height : Nat
  views : Nat
  maxDpbMinus1 : Nat
  deriving DecidableEq, Repr

/-- How the decode of a slice segment ended (R108 to R110): 0 decoded, else the code of R110 (SYNTAX,
MISSING_PARAM, MISSING_REF, POISON); whether its references are tainted; its active decode time. -/
structure SliceResult where
  code : Nat
  taintedRef : Bool
  activeNs : Nat
  deriving DecidableEq, Repr

/-- The decoded samples of one view, row by row at the record's WIDTH: luma, and chroma with Cb and Cr
interleaved. `none` is a sample of a concealed CTU (R108). -/
structure ViewSamples where
  luma : List (Option Nat)
  chroma : List (Option Nat)
  deriving DecidableEq, Repr

/-- An Atlas-over-UDP datagram (R132, R133). -/
structure AtlasFrag where
  port : Nat
  udpPort : Nat
  magicOk : Bool
  version : Nat
  streamId : Nat
  sheetSeq : Nat
  fragOffset : Nat
  totalSize : Nat
  data : List Byte
  stamp : Nat
  deriving DecidableEq, Repr

/-- A sample of a PLANE or VIEWSET layer for one ray, as the layer's kernel yields it (R150, R200): layer; depth in
2^-32 mm (computed by the block for a PLANE layer); the scaled code values, each over 2^b for codes of b bits, and the
source alpha, all in 2^-24. A flattened set's sample stands under its first member, with the colour in the working
space. -/
structure RaySample where
  layer : Nat
  depth : Int
  code : List Nat
  alpha : Nat
  deriving DecidableEq, Repr

/-- What an engine's source reads and kernels bring to a segment (R195, R214, R215): the samples of its rays in
word order; layers and block columns whose reads returned poison, or were lost with a queue reset; Atlas
layers with the tiles decoded, and whether their data was poisoned; corrected local store errors. -/
structure SegData where
  rays : List (List RaySample)
  poison : List (Nat × Nat)
  lost : List (Nat × Nat)
  tiles : List (Nat × Nat × Nat × Bool)
  ecc : Nat
  deriving DecidableEq, Repr

/-- What Survey writeback brings to a picture: the samples of the ray of each pixel in raster order, and the chroma
samples, whose filter the manual does not state (R163, R164). -/
structure WbkSamples where
  rays : List (List RaySample)
  chroma : List (Option Nat)
  deriving DecidableEq, Repr

/-- What a poll of MR4 reports for a rank (R300): the rank, the raw value, and the refresh rate it stands for (0
nominal or below, 1 doubled, 2 higher, 3 beyond the device's operating limit). -/
structure Mr4Poll where
  rank : Nat
  raw : Nat
  rate : Nat
  deriving DecidableEq, Repr

/-- A STATUS of a tile (R265): its CRC is correct, STATE, LANE_LOCK, TEMP, LANE_CRC mismatches of the 16 physical
lanes, DRIVE_PEAK. -/
structure TileStatus where
  crcOk : Bool
  state : Nat
  laneLock : Nat
  temp : Nat
  laneErr : List Nat
  peak : Nat
  deriving DecidableEq, Repr

/-- What a producer pushes (R276, R278): an item by itself; the start of a packet with its largest length in
items; an item of the body of the packet at place `pkt` of the queue. -/
inductive QueuePush where
  | item (v : Nat)
  | start (most : Nat)
  | body (pkt v : Nat)
  deriving DecidableEq, Repr

/-- What ROM or firmware finds of an image beside its header (R357, R361): both public keys' hashes equal their
slots; the section whose flash read failed; both signatures verify; the firmware reports no fatal fault. -/
structure ImageFound where
  edKey : Bool
  mlKey : Bool
  readFail : Option Nat
  edSig : Bool
  mlSig : Bool
  init : Bool
  deriving DecidableEq, Repr

/-- What lets an endpoint send its MSI-X messages or stops it (R420): a vector's mask, Bus Master Enable, the return
from D3hot to D0, and the link's return to DL_Active with its speed code and width. -/
inductive MsixEvent where
  | mask (vector : Nat) (on : Bool)
  | busMaster (on : Bool)
  | d0
  | linkUp (speed width : Nat)
  deriving DecidableEq, Repr

end Sys2Proof
end

