-- ==== Sys2Proof/Syntax.lean ====
section
/-! DEFINITION. The commands of the block: one constructor per row of spec/opcode_table.json, with the
row's operands. Operands carry what reaches the block from outside it with the command. -/

namespace Sys2Proof

/-- The commands of the Nirmel, in the order of spec/opcode_table.json. -/
inductive Instr where
  /-- REGISTER_WRITE (R462): A domain writes a register that has no row of its own; range, ownership and lock checks decide whether the value is stored. -/
  | registerWrite (w : RegWrite)
  /-- RC_READ (R12): A read of an RC register returns the current value and then clears or restarts it, keeping any same-cycle event for the next read. -/
  | rcRead (d : Dom) (addr : Nat)
  /-- PAGE_UNLOCK (R434): The owner writes 0x5EA7 to PAGE_CTRL.EXPERT_UNLOCK, which unlocks the page's expert window. -/
  | pageUnlock (d : Dom) (page : Nat)
  /-- PAGE_LOCK (R434): The owner writes a lock value to PAGE_CTRL.EXPERT_UNLOCK, which locks the expert window. -/
  | pageLock (d : Dom) (page key : Nat)
  /-- SOFT_RESET (R425): PAGE_CTRL.SOFT_RESET returns the page's written values to reset, and clears its interrupt and capture registers. -/
  | softReset (d : Dom) (page : Nat)
  /-- PAGE_COMMIT (R226): PAGE_CTRL.COMMIT snapshots the page's written frame-scoped values as the pending set and sets COMMIT_PENDING. -/
  | pageCommit (d : Dom) (page : Nat)
  /-- INT_FORCE (R427): A write to INT_FORCE sets the named assigned INT_RAW bits as their events would. -/
  | intForce (d : Dom) (page : Nat) (value : W32)
  /-- INT_RAW_CLEAR (R427): A W1C write to INT_RAW clears bits, unless an event sets the same bit in the same cycle. -/
  | intRawClear (d : Dom) (page : Nat) (value : W32)
  /-- ERR_CAPTURE_CLEAR (R429): A write of 1 to ERR_CAPTURE0.VALID clears VALID and LOST and rearms capture. -/
  | errCaptureClear (d : Dom) (page : Nat)
  /-- PMAP_VALIDATE (R40): SEQ_PMAP_VALIDATE with GO starts validation of the named panel map bank and sets BUSY. -/
  | pmapValidate (d : Dom) (value : W32)
  /-- PMAP_VALIDATE_DONE (R40): Panel map validation ends: BUSY clears, ERR_CODE is written, and VALID is set if every check passed. -/
  | pmapValidateDone
  /-- MODE_REQ (R233): SEQ_MODE_REQ with GO requests a bank switch; the request is checked and becomes a hitless switch or a mode crossing. -/
  | modeReq (d : Dom) (value : W32)
  /-- PMAP_PERSIST (R42): After a bank switch takes effect, the active Landing writes the new map into both Landings' flash. -/
  | pmapPersist
  /-- ETH_RX_FRAME (R51): A frame received on an Ethernet port is timestamped and classified; frames that fail a check are dropped and counted. -/
  | ethRxFrame (f : EthFrame)
  /-- ETH_LINK_DOWN (R79): An Ethernet link drops, which raises LINK_DOWN and, on the PTP port, moves the Datum to HOLDOVER. -/
  | ethLinkDown (port : Nat)
  /-- RTP_PACKET_RX (R55): An RTP datagram of an open HEVC context is checked, reordered and reassembled into its access unit. -/
  | rtpPacketRx (p : RtpPkt)
  /-- RTCP_SR_RX (R65): An RTCP sender report for a TS_MAP 0 context sets the reference pair, or is refused if it steps too far. -/
  | rtcpSrRx (r : RtcpSr)
  /-- ASM_DEADLINE (R61): The assembly deadline of an access unit expires, and the unit is handed on as partial. -/
  | asmDeadline (ctx : Nat)
  /-- RTCP_RR_SEND (R63): The receiver report interval expires, and a receiver report is sent for the context. -/
  | rtcpRrSend (ctx : Nat)
  /-- CTX_OPEN (R56): ING_CTX_CMD OPEN checks the entry, increments GEN, opens the context and initialises its reassembly state and ring. -/
  | ctxOpen (d : Dom) (ctx : Nat)
  /-- CTX_CLOSE (R56): ING_CTX_CMD CLOSE sets the context DRAINING, or CLOSED if nothing is in flight, and retains the newest slot. -/
  | ctxClose (d : Dom) (ctx : Nat)
  /-- CTX_DRAIN_DONE (R56): The last in-flight item of a draining context retires, and STATE becomes CLOSED. -/
  | ctxDrainDone (ctx : Nat)
  /-- GROUP_CFG_WRITE (R68): A write to ING_GROUPg_CFG enables the group or disables it, which discards its open instances. -/
  | groupCfgWrite (d : Dom) (group : Nat) (value : W32)
  /-- GROUP_CLOSE_INCOMPLETE (R67): The close lag after a window's end expires, and the group instance is closed incomplete with missing views substituted. -/
  | groupCloseIncomplete (group : Nat)
  /-- SYNC_RX (R77): A PTP Sync message is received and timestamped. -/
  | syncRx (m : PtpSync)
  /-- FOLLOW_UP_RX (R77): A PTP Follow_Up is received and matched to its Sync by sequenceId. -/
  | followUpRx (m : PtpFollowUp)
  /-- FOLLOW_UP_TIMEOUT (R77): No Follow_Up arrives within 1 s of its Sync, and the Sync is discarded and counted. -/
  | followUpTimeout (seq : Nat)
  /-- DELAY_REQ_SEND (R74): The randomised Delay_Req interval expires, and a timestamped Delay_Req is sent. -/
  | delayReqSend (stamp : Nat)
  /-- DELAY_RESP_RX (R77): A Delay_Resp completes an exchange, and the device computes the mean path delay and the offset. -/
  | delayRespRx (m : PtpDelayResp)
  /-- ANNOUNCE_RX (R75): An Announce message qualifies foreign masters and feeds master selection and the UTC offset. -/
  | announceRx (m : PtpAnnounce)
  /-- ANNOUNCE_TIMEOUT (R75): No Announce arrives from the selected master within DTM_ANN_TIMEOUT intervals, and the master is lost. -/
  | announceTimeout
  /-- SYNC_TIMEOUT (R79): No Sync arrives for 4 Sync intervals, and the Datum enters HOLDOVER. -/
  | syncTimeout
  /-- PPS_IN_EDGE (R85): A rising edge on PPS_IN is timestamped, and may set the time or give a servo sample. -/
  | ppsInEdge (highNs : Nat) (err : Int)
  /-- PPS_IN_TIMEOUT (R79): With SOURCE 1, no PPS_IN edge arrives for 1.5 s, and the Datum enters HOLDOVER. -/
  | ppsInTimeout
  /-- PPS_OUT_PULSE (R86): Datum time crosses a whole second plus the offset, and PPS_OUT pulses. -/
  | ppsOutPulse
  /-- FRAME_SYNC_OUT (R87): The gate's Datum time plus DELAY_NS arrives, and FRAME_SYNC_OUT pulses for 1 µs. -/
  | frameSyncOut
  /-- STEP_APPROVE (R81): DTM_STEP_APPROVE with a matching KEY in JUMP_HELD approves the stored step, or sets APPROVE_ERR. -/
  | stepApprove (d : Dom) (value : W32)
  /-- STEP_APPROVE_TIMEOUT (R81): No gate is captured within 34 ms of an approval, and the step is applied. -/
  | stepApproveTimeout
  /-- DTM_CTRL_WRITE (R79): A write of DTM_CTRL enables or disables the Datum, or changes its master source, port, transport or domain. -/
  | dtmCtrlWrite (d : Dom) (value : W32)
  /-- TIME_SET_WRITE (R85): A write of DTM_TIME_SET_HI in FREE loads a time to be set at the next PPS_IN edge. -/
  | timeSetWrite (d : Dom) (value : W32)
  /-- TIME_LO_READ (R71): A read of DTM_TIME_LO latches DTM_TIME_HI and DTM_TIME_FRAC from the same instant. -/
  | timeLoRead (d : Dom)
  /-- PHASE_TICK (R88): Datum time reaches a phase target instant, and a tick is issued to the sequencer. -/
  | phaseTick
  /-- PHASE_PERIOD_WRITE (R88): A write of DTM_PHASE_PERIOD installs a new tick schedule, or raises PHASE_ERR if it is out of range. -/
  | phasePeriodWrite (d : Dom) (value : W32)
  /-- PHASE_OFFSET_WRITE (R88): A write of DTM_PHASE_OFFSET changes the tick schedule once it reaches the Datum. -/
  | phaseOffsetWrite (d : Dom) (value : W32)
  /-- UTC_OFFSET_CHANGE (R84): At the UTC midnight that ends an announced leap second day, DTM_UTC_OFFSET changes. -/
  | utcOffsetChange
  /-- PARAM_SET_DECODED (R92): A VPS or SPS is accepted, re-booking the context, or refused with an error. -/
  | paramSetDecoded (ctx : Nat) (p : ParamSet)
  /-- SLICE_DECODED (R94): A decoder core finishes a slice segment and takes the next waiting slice by class and age. -/
  | sliceDecoded (core : Nat) (r : SliceResult)
  /-- SLICE_PREEMPT (R97): A ready Class 0 slice preempts another class's slice at its next CTU boundary. -/
  | slicePreempt (core : Nat)
  /-- PICTURE_COMPLETE (R99): A picture's last CTU is filtered and its writes are accepted, so its slot record is written and the slot set READY. -/
  | pictureComplete (ctx : Nat) (views : List ViewSamples)
  /-- CORE_TIMEOUT (R111): A slice exceeds its watchdog multiple, and the core is reset and the slice concealed. -/
  | coreTimeout (core : Nat)
  /-- DEPTH_PAIR_TIMEOUT (R107): The paired depth picture does not complete in time, and the colour picture becomes READY with DEPTH_STALE. -/
  | depthPairTimeout (ctx : Nat)
  /-- SHEET_COMMIT (R127): ATL_SHEET_CMD COMMIT starts validation of the slot's inactive bank. -/
  | sheetCommit (d : Dom) (slot : Nat)
  /-- SHEET_CLEAR (R129): ATL_SHEET_CMD CLEAR makes the slot show no surface from its Frame Gate. -/
  | sheetClear (d : Dom) (slot : Nat)
  /-- SHEET_VALIDATE_DONE (R127): Sheet validation ends: the bank becomes VALID and PENDING and makes its layers ready, or ERR is written. -/
  | sheetValidateDone
  /-- ATLAS_FRAGMENT_RX (R133): An Atlas-over-UDP fragment is written into the slot's inactive bank, and its granule coverage is recorded. -/
  | atlasFragmentRx (f : AtlasFrag)
  /-- SHEET_ASM_TIMEOUT (R134): A sheet in assembly is not complete by ASM_TIMEOUT_MS after its first fragment. -/
  | sheetAsmTimeout (slot : Nat)
  /-- SLOT_CFG_WRITE (R136): A write to ATL_SLOTs_CFG reconfigures the slot at the next gate, or is refused for a duplicate context. -/
  | slotCfgWrite (d : Dom) (slot : Nat) (value : W32)
  /-- LAY_COMMIT (R141): LAY_COMMIT.GO commits the layers in LAY_COMMIT_MASK with the LAY page's frame-scoped registers, and starts validation. -/
  | layCommit (d : Dom) (value : W32)
  /-- LAYER_SPACE_COMMIT (R141): A mask written to COMMIT in a layer space commits the owner's named layers, and starts validation. -/
  | layerSpaceCommit (d : Dom) (layer : Nat) (mask : W32)
  /-- LAYER_VALIDATE_DONE (R141): Layer validation ends, and all named layers become PENDING together, or none does. -/
  | layerValidateDone
  /-- LAY_OWNER_WRITE (R140): A write of LAY_OWNER0 or LAY_OWNER1 changes layer owners once the layers are neither busy nor pending. -/
  | layOwnerWrite (d : Dom) (half : Nat) (value : W32)
  /-- INSET_FLATTEN_START (R161): A stable candidate set is flattened in the background if its whole allocation is free. -/
  | insetFlattenStart (layer : Nat)
  /-- INSET_FLATTEN_DONE (R161): Flattening ends, and the set is shown flattened from the next gate. -/
  | insetFlattenDone (layer : Nat) (poison : Bool)
  /-- INS_FORCE_UNFLAT (R162): A write to INS_FORCE_UNFLAT un-flattens the sets holding the named layers. -/
  | insForceUnflat (d : Dom) (value : W32)
  /-- WBK_BUFFER_COMPLETE (R165): A writeback buffer completes, WBK_STATUS and WBK_LAST_SEQ update, and FRAME_DONE is raised, or the frame is abandoned. -/
  | wbkBufferComplete (picture : WbkSamples) (inTime : Bool)
  /-- SIG_COMMIT (R166): SIG_COMMIT.GO commits the region signature settings, or is refused with BAD_REGION. -/
  | sigCommit (d : Dom) (value : W32)
  /-- PAGE_READ (R181): A safety-port PAGE_READ returns register bytes of a page owned by S. -/
  | pageRead (f : SafetyFrame)
  /-- PAGE_WRITE (R181): A safety-port PAGE_WRITE writes registers of a page owned by S as a whole. -/
  | pageWrite (f : SafetyFrame)
  /-- PANE_UPLOAD (R181): PANE_UPLOAD writes bytes to the inactive pane store bank through GWY2. -/
  | paneUpload (f : SafetyFrame)
  /-- PANE_COMMIT (R176): PANE_COMMIT starts validation of a pane store bank against STORE_CRC and GEOM_CRC. -/
  | paneCommit (f : SafetyFrame)
  /-- PANE_READ (R181): PANE_READ returns pane store bytes through GWY2. -/
  | paneRead (f : SafetyFrame) (corrected : Nat) (bad : List Nat)
  /-- HEARTBEAT (R184): A safety HEARTBEAT with the expected sequence restarts the deadline timer and returns the next sequence and CART_FAULT. -/
  | heartbeat (f : SafetyFrame)
  /-- FAULT_QUERY (R181): FAULT_QUERY returns CART_FAULT, CART_STATUS, CART_FAULT_FRAME and the miss count. -/
  | faultQuery (f : SafetyFrame)
  /-- FAULT_CLEAR (R181): FAULT_CLEAR clears the masked CART_FAULT bits as a W1C write. -/
  | faultClear (f : SafetyFrame)
  /-- SFT_ABORT (R183): SFT_CS_N rises before a request frame is complete, and the request is discarded and counted. -/
  | sftAbort
  /-- PANE_VALIDATE_DONE (R176): Pane store validation ends, and the bank becomes PENDING, or COMMIT_ERR is raised. -/
  | paneValidateDone
  /-- HB_STALE (R184): The Cartouche deadline passes without an accepted heartbeat, and HB_STALE latches and the miss is counted. -/
  | hbStale
  /-- CART_DEADLINE_WRITE (R184): A write of CART_DEADLINE takes effect at once, measured from the last timer restart. -/
  | cartDeadlineWrite (d : Dom) (value : W32)
  /-- HB_RESYNC (R184): CART_HB_RESYNC lets the next heartbeat be accepted with any sequence. -/
  | hbResync (d : Dom) (value : W32)
  /-- STORE_CHECK (R186): The per-frame CRC of the active pane bank completes and latches STORE_CRC on a difference. -/
  | storeCheck (wrong : List (Nat × Byte)) (corrected : Nat) (bad : List Nat)
  /-- PANE_PROBE (R187): The frame's pane probe CRC is compared with the reference generator's, and PROBE latches on a difference. -/
  | paneProbe (crc : W32)
  /-- GRT_REBALANCE (R193): GRT_REBALANCE computes a default or applies a staged manual column assignment at the next gate, or sets REBAL_ERR. -/
  | grtRebalance (d : Dom) (value : W32)
  /-- SLOT_START (R218): A line slot begins: the framers send the line packet, and the Graticule advances its source read issue point. -/
  | slotStart (fs : Nat) (slot : Nat) (leads : List (Nat × Nat)) (planeLead : Nat)
  /-- SEGMENT_DONE (R195): An engine finishes a segment and writes its length word to the ray queue. -/
  | segmentDone (fs : Nat) (port : Nat) (line : Nat) (seg : Nat) (data : SegData)
  /-- LINE_MISS (R199): A line's deadline passes without the line complete, and the line is not sent and is counted. -/
  | lineMiss (port : Nat)
  /-- LINE_PACKET_END (R274): A line packet's LINE_END is sent, and the lanes send 2 IDLE rows and enter DOZE or SLEEP. -/
  | linePacketEnd (port : Nat)
  /-- SEGMENT_TIMEOUT (R212): An engine does not finish a segment within 4 × tL of starting it. -/
  | segmentTimeout (col : Nat) (engine : Nat)
  /-- GCOL_RETIRE (R212): GCOLnn_RETIRE with GO retires the named engine at once. -/
  | gcolRetire (d : Dom) (col : Nat) (value : W32)
  /-- BIST_PERIOD (R211): The online BIST period expires, and a rotation is due at the next gate. -/
  | bistPeriod (col : Nat)
  /-- ENGINE_BIST_DONE (R211): An engine's BIST finishes, and the engine stays the spare or is retired. -/
  | engineBistDone (col : Nat) (pass : Bool)
  /-- GCOL_BIST_NOW (R211): GCOLnn_BIST_NOW starts a rotation at the next gate. -/
  | gcolBistNow (d : Dom) (col : Nat) (value : W32)
  /-- FRAME_LAST_LINE (R104): The last line of a frame is synthesised, and the buffers that the frame alone held are released. -/
  | frameLastLine (fs : Nat)
  /-- FRAME_GATE (R221): The sequencer fires a Frame Gate once the gating set is ready, and any required phase tick is visible, after T_early. -/
  | frameGate
  /-- FRAME_GATE_MAX (R230): T_max elapses without readiness, and the gate fires under condition 2. -/
  | frameGateMax
  /-- GATE_FORCE (R223): SEQ_GATE_FORCE.GO makes every gating layer ready for the next gate. -/
  | gateForce (d : Dom) (value : W32)
  /-- CROSSING_START (R234): An accepted crossing starts at G0, once E reaches T_early, and background work pauses. -/
  | crossingStart
  /-- CROSSING_APPLY (R234): Every port has finished its old lines, and the new map, queues, assignment and tables are applied. -/
  | crossingApply
  /-- RETRAIN_DONE (R234): A port whose lane rate changed completes retraining during a crossing. -/
  | retrainDone (port : Nat) (lock : Nat)
  /-- RETRAIN_TIMEOUT (R234): SEQ_RETRAIN_LIMIT expires, and ports not retrained stay dark and are marked failed. -/
  | retrainTimeout
  /-- ALIGN_ROW (R248): The framer's row count reaches 16,384, and it sends an ALIGN row. -/
  | alignRow (port : Nat)
  /-- LANE_WAKE (R274): Lanes leave DOZE or SLEEP early enough to send the wake preamble and ALIGN row before a needed row. -/
  | laneWake (port : Nat)
  /-- ACK_RX (R264): A tile's ACK for a line is received, and results 1 and 2 are counted. -/
  | ackRx (port : Nat) (result : Nat)
  /-- RMSG_CAP (R266): A CAP message delivers the tile's capability block for discovery checks. -/
  | rmsgCap (port : Nat) (crcOk : Bool) (block : List Byte)
  /-- RMSG_MODE_ACK (R265): A MODE_ACK from a tile reports whether the mode was accepted. -/
  | rmsgModeAck (port : Nat) (crcOk : Bool) (modeId : Nat) (accept : Bool)
  /-- RMSG_SWAP_ACK (R271): A SWAP_ACK from a tile acknowledges a lane swap. -/
  | rmsgSwapAck (port : Nat) (crcOk : Bool)
  /-- RMSG_STATUS (R265): An unsolicited tile STATUS updates lane lock, temperature, lane error and drive figures. -/
  | rmsgStatus (port : Nat) (st : TileStatus)
  /-- BK_TIMEOUT (R265): No valid STATUS arrives for 5 ms, and BK_TIMEOUT is set and raised. -/
  | bkTimeout (port : Nat)
  /-- BK_LOCK (R268): The return receiver sees 64 consecutive valid sync headers and declares lock. -/
  | bkLock (port : Nat) (bad : Nat)
  /-- BK_LOST (R268): 16 of 64 consecutive return sync headers are invalid, and lock is lost. -/
  | bkLost (port : Nat) (bad : Nat)
  /-- BK_SLIP (R268): A write to TPnn_BK_SLIP shifts the return receiver's block boundary by one bit. -/
  | bkSlip (d : Dom) (port : Nat) (value : W32)
  /-- LANE_ERR_WINDOW (R271): A lane error window ends, and lane error sums are compared with the limit. -/
  | laneErrWindow (port : Nat)
  /-- LANE_SWAP_WRITE (R271): A host write of TPnn_LANE_SWAP starts the spare sequence for the named lane. -/
  | laneSwapWrite (d : Dom) (port : Nat) (value : W32)
  /-- TLG_DISCOVER (R270): TLG_DISCOVER.GO runs discovery on every enabled port not driven. -/
  | tlgDiscover (d : Dom) (value : W32)
  /-- TRAIN_TIME_END (R269): TLG_TRAIN_TIME expires, and training succeeds or fails by the number of locked lanes. -/
  | trainTimeEnd (port : Nat)
  /-- DISC_TIMEOUT (R270): A port has not finished discovery within 30 ms, and it is left undriven and marked failed. -/
  | discTimeout (port : Nat)
  /-- REDISCOVER (R270): The TLG_REDISCOVER interval expires, and discovery is retried on one failed port. -/
  | rediscover
  /-- QUEUE_PUSH (R276): A producer pushes an item and consumes a credit. -/
  | queuePush (qid : Nat) (p : QueuePush)
  /-- QUEUE_POP (R283): A consumer pops a visible item and returns a credit. -/
  | queuePop (qid : Nat)
  /-- CREDIT_RETURN (R276): A returned credit becomes visible to the producer. -/
  | creditReturn (qid : Nat)
  /-- PACKET_LENGTH_WRITE (R278): The producer writes a packet's length word, and the packet becomes visible. -/
  | packetLengthWrite (qid : Nat) (pkt : Nat) (word : W32)
  /-- QUEUE_POINTER_MISMATCH (R280): A pointer copy mismatch or a credit excess is detected, and a queue reset begins. -/
  | queuePointerMismatch (qid : Nat)
  /-- QUEUE_RESET_DONE (R281): The reset acknowledgement reaches the producer, and credits return to N. -/
  | queueResetDone (qid : Nat)
  /-- MEM_REQUEST (R297): A memory request is accepted by its group controller and scheduled by class. -/
  | memRequest (cls : Nat) (blk : Nat) (addr : Nat) (write : Option (List Byte))
  /-- MEM_READ_RETURN (R313): A read returns, checked by inline ECC, as clean, corrected or uncorrectable. -/
  | memReadReturn (addr : Nat) (symbols : Nat)
  /-- REFRESH_DUE (R299): A rank's refresh interval elapses, and REFab is issued or postponed within the debt limit. -/
  | refreshDue (rank : Nat) (busy : Bool) (chain : Bool)
  /-- MR4_POLL (R300): The 16 ms MR4 poll updates each rank's refresh multiplier. -/
  | mr4Poll (polls : List Mr4Poll)
  /-- SR_ENTRY (R307): A group idle for DMGn_SR_IDLE with enough tolerance enters self-refresh. -/
  | srEntry (group : Nat)
  /-- SR_EXIT (R308): A request, or a fall of T_eff, wakes the group from self-refresh. -/
  | srExit (group : Nat) (polls : List Mr4Poll)
  /-- PERIODIC_TRAIN_DONE (R310): Periodic training of a rank completes, and its margin and count are written. -/
  | periodicTrainDone (rank : Nat) (margin : Nat) (trims : List (Nat × W32))
  /-- PATROL_SCRUB (R316): Patrol scrub reads the next line at its even rate, and tests the spare once per period. -/
  | patrolScrub (group : Nat) (symbols : Nat) (spare : Option Bool)
  /-- SCRUB_PERIOD_END (R317): A scrub period ends, and SCRUB_LATE is set if lines remain unvisited. -/
  | scrubPeriodEnd
  /-- MIG_CMD (R320): RAS_MIG_CMD with GO takes the named rank out of service. -/
  | migCmd (d : Dom) (value : W32)
  /-- MIG_COPY_DONE (R322): The migration copy passes the last line of the rank. -/
  | migCopyDone (group : Nat) (bad : List Nat)
  /-- MIG_MAP_SWITCH (R322): Once no payback is pending and T_eff allows, the group map switches atomically and MIG_DONE is raised. -/
  | migMapSwitch (group : Nat)
  /-- RAS_INJECT (R325): RAS_INJECT_HI with ARM makes the next write to the line store it corrupted. -/
  | rasInject (d : Dom) (high : Bool) (value : W32)
  /-- LANDING_HEARTBEAT (R330): A Landing sends its 50 µs heartbeat on the Hawser pair and to its Mooring mailbox, refreshing its lease. -/
  | landingHeartbeat (l : Landing) (haws : Bool) (reach : Bool) (read : Bool)
  /-- HB_MISS (R330): 55 µs pass on a path without a heartbeat, and a miss is counted. -/
  | hbMiss (receiver : Landing) (mail : Bool)
  /-- LEASE_EXPIRY (R328): A lease expires 200 µs after its last refresh, and a holder's expiry frees the token and gates its outputs. -/
  | leaseExpiry (l : Landing)
  /-- TOKEN_CLAIM (R329): A Landing's claim reaches the Mooring and is decided under the claim table. -/
  | tokenClaim (l : Landing)
  /-- CLAIM_WINDOW_END (R329): The 2 µs claim window ends, and the token is granted. -/
  | claimWindowEnd
  /-- CLAIM_REFUSED (R329): A pending claim still faces a fresh lease 300 µs later, and it is refused. -/
  | claimRefused (l : Landing)
  /-- PREFERRED_WAIT_END (R329): 20 ms after PWRGOOD, a held claim of the non-preferred Landing is granted. -/
  | preferredWaitEnd
  /-- LANDING_FENCE (R327): A Landing stops its heartbeats and lease refreshes on a self-check failure or a loss of rail, reference or reset. -/
  | landingFence (l : Landing)
  /-- WATCHDOG_EXPIRY (R327): A Landing's 1 ms pilot core watchdog expires, and the Landing fences itself and restarts. -/
  | watchdogExpiry (l : Landing)
  /-- COPY_VERIFIED (R332): A complete state copy with a verified CRC replaces the standby's state. -/
  | copyVerified (crcOk : Bool)
  /-- HOST_HOLD_TIMEOUT (R463): A held non-posted request has waited 500 µs, and the domain's hold ends. -/
  | hostHoldTimeout (d : Dom)
  /-- DRILL_START (R341): MOOR_DRILL.GO starts a drill, which swaps at the next eligible gate. -/
  | drillStart (d : Dom) (value : W32)
  /-- DRILL_WATCH_END (R341): The watch period ends, and the drill passes or swaps back. -/
  | drillWatchEnd
  /-- DRILL_AGE_HOUR (R342): An hour passes, AGE_H increments, and DRILL_DUE is raised at the limit. -/
  | drillAgeHour
  /-- REVERT_HOLDOFF_END (R343): The revert hold-off ends, and the preferred Landing reclaims the token by a planned swap or revert is disabled. -/
  | revertHoldoffEnd
  /-- LANDING_REBOOT (R344): LNDx_CTRL.REBOOT restarts the standby Landing, or is ignored for the holder. -/
  | landingReboot (d : Dom) (l : Landing)
  /-- PWRGOOD_RISE (R349): PWRGOOD rises; the device leaves reset and the token is FREE. -/
  | pwrgoodRise (sft3v3 : Bool)
  /-- PWRGOOD_FALL (R348): PWRGOOD falls and resets the whole device, including the shutdown latch. -/
  | pwrgoodFall
  /-- RESET_N_ASSERT (R348): RESET_N held low resets both Landings, the datapath and most pages, and frees the token. -/
  | resetNAssert
  /-- RESET_N_RELEASE (R349): RESET_N rises and starts bring-up. -/
  | resetNRelease
  /-- LANDING_RESET_ASSERT (R348): LNDx_RESET_N held low resets and fences that Landing only. -/
  | landingResetAssert (l : Landing)
  /-- LANDING_RESET_RELEASE (R348): LNDx_RESET_N rises, and that Landing starts a boot attempt. -/
  | landingResetRelease (l : Landing)
  /-- PERST_ASSERT (R348): PCIq_PERST_N resets the endpoint's link, configuration and burst in progress. -/
  | perstAssert (q : Nat)
  /-- PCIE_READY (R351): An endpoint becomes ready for configuration and stops answering with Request Retry Status. -/
  | pcieReady (q speed width : Nat)
  /-- BOOT_ATTEMPT (R361): A Landing's ROM starts an attempt: self-test, fuses, ATTEMPT record, claim and SFDP. -/
  | bootAttempt (l : Landing) (selfTest : Bool) (fuse : Bool) (sfdp : Bool) (octal : Bool)
  /-- IMAGE_VERIFIED (R357): Image load and both signature checks end, and the firmware starts, or the attempt fails. -/
  | imageVerified (l : Landing) (x : ImageFound)
  /-- BOOT_OK_TIMEOUT (R362): BOOT_OK is not set within 10 s, and the Landing resets itself. -/
  | bootOkTimeout (l : Landing)
  /-- MEM_TRAIN_WAVE_DONE (R309): A boot memory training wave ends, and the group's rank map is built. -/
  | memTrainWaveDone (failed : List Nat)
  /-- GRT_BIST_DONE (R210): Bring-up BIST ends, and each column chooses active, spare and retired engines. -/
  | grtBistDone (fails : List (Nat × Nat))
  /-- LOGBOOK_REPLAY_DONE (R378): Logbook replay finds the current bank and its valid records. -/
  | logbookReplayDone (ms : Nat)
  /-- FLASH_VERIFY (R368): BOOT_FLASH_VERIFY starts checking a Landing's flash image without booting it. -/
  | flashVerify (d : Dom) (value : W32)
  /-- VERIFY_DONE (R368): The flash image check ends, and its result is written to BOOT_FLASH_STATUS. -/
  | verifyDone (x : ImageFound)
  /-- SLIPWAY_RETRY (R366): BOOT_SLIPWAY_CMD RETRY appends CLEAR and starts a new attempt with a count of 0. -/
  | slipwayRetry (d : Dom) (l : Landing)
  /-- SLIPWAY_ENTER (R366): BOOT_SLIPWAY_CMD ENTER places a non-holding Landing in Slipway mode. -/
  | slipwayEnter (d : Dom) (l : Landing)
  /-- FLASH_PROGRAM_DONE (R367): A flash sector finishes erasing or programming, and buffer room frees. -/
  | flashProgramDone (ch : Nat) (bytes : Nat)
  /-- FUSE_REVOKE (R360): SEC_FUSE_CMD REVOKE sets a key slot's revocation bit, unless it is refused. -/
  | fuseRevoke (d : Dom) (slot : Nat)
  /-- FUSE_ADVANCE (R360): SEC_FUSE_CMD ADVANCE programs anti-rollback bits up to the target, unless it is refused. -/
  | fuseAdvance (d : Dom) (target : Nat)
  /-- FUSE_LOCK_JTAG (R360): SEC_FUSE_CMD LOCK_JTAG sets the JTAG lock bit. -/
  | fuseLockJtag (d : Dom)
  /-- FUSE_DONE (R360): A fuse operation ends, writes its result and a CONFIG_NOTE record, and raises FUSE_DONE. -/
  | fuseDone (failed : Option Nat)
  /-- HOURS_RECORD (R373): Every hour, the active Landing appends a HOURS record. -/
  | hoursRecord
  /-- LOG_MIRROR_APPEND (R375): The standby appends a mirrored record with the same SEQ. -/
  | logMirrorAppend
  /-- LOGB_COMPACT_NOW (R377): LOGB_COMPACT_NOW.GO starts a compaction. -/
  | logbCompactNow (d : Dom) (value : W32)
  /-- COMPACT_END (R377): COMPACT_END is complete in flash, the new bank becomes current, and the old bank is erased. -/
  | compactEnd
  /-- LOGB_NOTE_GO (R373): LOGB_NOTE_GO appends a host CONFIG_NOTE carrying LOGB_NOTE0 to LOGB_NOTE3. -/
  | logbNoteGo (d : Dom) (value : W32)
  /-- WEAR_DELTA_CAPTURE (R382): The delta interval expires, a WEAR_DELTA is captured and journalled, and the gains are recomputed. -/
  | wearDeltaCapture (bad : List Nat) (badJournal : List Nat)
  /-- WEAR_SNAPSHOT (R382): The snapshot interval expires, and a WEAR_SNAPSHOT is appended in place of the delta. -/
  | wearSnapshot (bad : List Nat) (badJournal : List Nat)
  /-- WEAR_RECORD_COMPLETE (R381): A wear record is complete in flash, and the journalled ledger takes the ledger's value. -/
  | wearRecordComplete
  /-- WEAR_SNAPSHOT_NOW (R384): WEAR_CMD SNAPSHOT_NOW captures a snapshot at once. -/
  | wearSnapshotNow (d : Dom)
  /-- WEAR_ADOPT (R384): WEAR_CMD ADOPT starts a zero ledger for the active map. -/
  | wearAdopt (d : Dom)
  /-- WEAR_RESET_PORT (R384): WEAR_CMD RESET_PORT zeroes the ledger entries of one port's region. -/
  | wearResetPort (d : Dom) (port : Nat)
  /-- HK_ROUND (R387): The 1 ms housekeeping round reads 64 channels and evaluates their levels. -/
  | hkRound (readings : List Int) (adcFail : List Nat)
  /-- CAL_DONE (R398): A calibration ends, and its result is applied or marked POOR. -/
  | calDone (fn : Nat) (inst : Nat) (quality : Nat) (trims : List (Nat × W32))
  /-- CAL_RETRY (R398): BMK_RETRY_S after a poor result elapses, and the instance is calibrated again. -/
  | calRetry (fn : Nat) (inst : Nat)
  /-- BMK_CMD (R396): BMK_CMD.GO requests calibration of a function instance. -/
  | bmkCmd (d : Dom) (value : W32)
  /-- HKP_MASK_WRITE (R391): A write to HKP_MASK masks channels, or is refused if a partner is broken or masked. -/
  | hkpMaskWrite (d : Dom) (high : Bool) (value : W32)
  /-- HKP_THRESHOLD_WRITE (R390): A write to a shutdown threshold above the default, or one clearing its enable, stores the default instead. -/
  | hkpThresholdWrite (d : Dom) (ch : Nat) (word1 : Bool) (value : W32)
  /-- TEL_RECORD (R401): The telemetry period ends, and a record is written to the ring and raises RECORD. -/
  | telRecord
  /-- SMB_READ_CHANNEL (R402): SMBus Read Word command 0x00 to 0x3F returns a channel reading. -/
  | smbReadChannel (addr : Nat) (command : Nat)
  /-- SMB_READ_STATUS (R402): SMBus command 0x40 returns HKP_STATUS. -/
  | smbReadStatus (addr : Nat)
  /-- SMB_READ_HOTTEST (R402): SMBus command 0x41 returns HKP_HOTTEST. -/
  | smbReadHottest (addr : Nat)
  /-- SMB_READ_THROTTLE (R402): SMBus command 0x42 returns the throttle level. -/
  | smbReadThrottle (addr : Nat)
  /-- SMB_READ_HOURS (R402): SMBus command 0x43 returns powered and output seconds. -/
  | smbReadHours (addr : Nat)
  /-- SMB_READ_SERIAL (R402): SMBus command 0x44 returns the device serial number. -/
  | smbReadSerial (addr : Nat)
  /-- SMB_ALERT_RESPONSE (R402): The device answers the Alert Response Address and releases SMB_ALERT_N. -/
  | smbAlertResponse (addr : Nat)
  /-- SMB_WRITE (R402): An SMBus write or an unknown command byte is NACKed. -/
  | smbWrite (addr : Nat) (command : Nat) (data : List Byte)
  /-- DOM_OWN_CMD (R409): DOM_OWN_CMD.GO changes or locks a page's owner, or is refused. -/
  | domOwnCmd (d : Dom) (value : W32)
  /-- DOM_LOCK_ALL (R409): DOM_LOCK_ALL.GO sets LOCK on every page until RESET_N. -/
  | domLockAll (d : Dom) (value : W32)
  /-- DRAM_WINDOW_WRITE (R411): A write of a DRAM window register changes or disables the window, ending transfers in it. -/
  | dramWindowWrite (d : Dom) (w field : Nat) (value : W32)
  /-- GANGWAY_GO (R412): GWYn_CTRL.GO checks and starts a transfer on the channel. -/
  | gangwayGo (d : Dom) (ch : Nat) (abort : Bool)
  /-- GANGWAY_ABORT (R412): GWYn_CTRL.ABORT ends the running transfer with ABORTED. -/
  | gangwayAbort (d : Dom) (ch : Nat)
  /-- GANGWAY_DATA_WRITE (R413): A write to GWYn_DATA moves data units to the internal address and advances it. -/
  | gangwayDataWrite (d : Dom) (ch : Nat) (lo : W32) (hi : Option W32)
  /-- GANGWAY_DATA_READ (R413): A read of GWYn_DATA consumes the next units of a read transfer. -/
  | gangwayDataRead (d : Dom) (ch : Nat) (wide : Bool)
  /-- APERTURE_WRITE (R414): A write TLP to the BAR2 window at the cursor moves its bytes and advances the cursor. -/
  | apertureWrite (d : Dom) (offset : Nat) (data : List Byte) (poisoned : Bool)
  /-- APERTURE_READ (R414): A read TLP to the BAR2 window at the cursor returns the next bytes and advances the cursor. -/
  | apertureRead (d : Dom) (offset len : Nat)
  /-- GANGWAY_DONE (R417): Every byte of a transfer has moved and been accepted, and DONE is raised. -/
  | gangwayDone (ch : Nat)
  /-- BAR_UNSUPPORTED (R406): A request outside every BAR is completed with Unsupported Request, or dropped and reported. -/
  | barUnsupported (q : Nat) (posted : Bool)
  /-- D3HOT_ENTRY (R407): An endpoint enters D3hot, and the transfer on its channel ends with ABORTED. -/
  | d3hotEntry (q : Nat)
  /-- FUNCTION_LEVEL_RESET (R404): A Function Level Reset acts as a PCIq_PERST_N pulse of the endpoint. -/
  | functionLevelReset (q : Nat)
  /-- PCIE_LINK_DOWN (R421): DL_ACTIVE falls, and LINK_DOWN is raised. -/
  | pcieLinkDown (q : Nat)
  /-- VEC_EOI (R420): PCIq_VEC_EOI ends servicing of a vector, and its message is resent if it is still pending. -/
  | vecEoi (d : Dom) (q vector : Nat)
  /-- MSIX_VECTOR_UNMASK (R420): A vector's mask clears, or the endpoint becomes able to send, and a still-pending vector's message is sent. -/
  | msixVectorUnmask (q : Nat) (e : MsixEvent)
  /-- LANDING_REF_LOSS (R444): A Landing reference clock stops, and that Landing fences itself. -/
  | landingRefLoss (l : Landing)
  /-- TREFCLK_LOSS (R444): A tile reference clock stops, and its 8 ports go OFF and are marked failed. -/
  | trefclkLoss (m : Nat)
  /-- EREFCLK_LOSS (R444): EREFCLK stops, Ethernet links drop, and the Datum runs from CK_HK in HOLDOVER. -/
  | erefclkLoss
  /-- EREFCLK_RETURN (R444): EREFCLK returns, and the Datum counter runs from it again. -/
  | erefclkReturn
  /-- PCIE_REFCLK_LOSS (R444): A PCIe reference clock stops, and the link goes down. -/
  | pcieRefclkLoss (q : Nat)
  /-- LANDING_RAIL_LOW (R449): A Landing rail falls below 0.74 V, and that Landing fences itself and is held in reset. -/
  | landingRailLow (l : Landing)
  /-- LANDING_RAIL_RETURN (R449): 1 ms after the Landing rail is back above 0.776 V, its reset is released. -/
  | landingRailReturn (l : Landing)
  /-- ETH_LINK_UP (R49): An Ethernet port completes link training and alignment, and ETHp_STATUS.LINK rises so that frames are received again. -/
  | ethLinkUp (port : Nat)
  /-- PERST_RELEASE (R351): PCIq_PERST_N rises, the endpoint leaves reset, and the 250 ms readiness bound starts. -/
  | perstRelease (q : Nat)
  /-- LOCAL_STORE_UE (R212): An engine's local store reports an uncorrectable error, and the engine is retired. -/
  | localStoreUe (col : Nat) (engine : Nat)
  /-- HAWSER_LINK_DOWN (R345): The Hawser copy lane goes down, HAWS_STATUS.LINK_UP reads 0, and the standby can no longer stay SYNCED. -/
  | hawserLinkDown
  /-- HAWSER_LINK_UP (R345): The Hawser copy lane comes back up, HAWS_STATUS.LINK_UP reads 1, and state copies can verify again. -/
  | hawserLinkUp
  /-- WEAR_LEDGER_RESTORED (R350): At bring-up, the Wear ledger is rebuilt from the newest snapshot and later deltas, and the wear gains are loaded, enabling the first gate. -/
  | wearLedgerRestored
  /-- SMB_CLOCK_LOW_TIMEOUT (R453): SMB_SCL is held low for 25 ms to 35 ms, and the SMBus target times out and resets its transaction. -/
  | smbClockLowTimeout (lowMs : Nat)
  /-- RANK_POWER_DOWN (R290): A rank sees 64 idle controller cycles and enters power-down. -/
  | rankPowerDown (rank : Nat)
  /-- TREFCLK_RETURN (R444): A lost TREFCLKm returns to tolerance, and its ports' PLLs can run again ahead of rediscovery. -/
  | trefclkReturn (m : Nat)
  /-- MSIX_HOLDOFF_END (R420): PCIq_VEC_HOLDOFF elapses after a vector's last message, and a message held back for the still-pending vector is sent. -/
  | msixHoldoffEnd (q v : Nat)
  deriving DecidableEq, Repr

end Sys2Proof
end

