-- ==== Sys2Proof/WellFormed.lean ====
section
/-! DEFINITION. Well-formed commands: every operand that numbers a unit of the block lies in the range the manual gives it. A
meaning is total, so that a command out of range changes nothing or acts on the unit its number wraps to. -/

namespace Sys2Proof

/-- The operands of a command with their bounds: ports (R28, R49), contexts (R53), groups (R66, R289), cores (R93), slots
(R113), layers (R137), columns and engines (R192), ranks (R290), queues (R288), pages and registers (R422), domains' channels and
endpoints (R404, R412), windows (R411), vectors (R420), channels (R387), the frame of the safety port (R179). -/
def Instr.bounds : Instr → List (Nat × Nat)
  | .registerWrite w => [(w.addr, 0x1000000), (w.be, 16)]
  | .rcRead _ addr => [(addr, 0x1000000)]
  | .pageUnlock _ page => [(page, 4096)]
  | .pageLock _ page key => [(page, 4096), (key, 65536)]
  | .softReset _ page => [(page, 4096)]
  | .pageCommit _ page => [(page, 4096)]
  | .intForce _ page _ => [(page, 4096)]
  | .intRawClear _ page _ => [(page, 4096)]
  | .errCaptureClear _ page => [(page, 4096)]
  | .pmapValidate _ _ => []
  | .pmapValidateDone => []
  | .modeReq _ _ => []
  | .pmapPersist => []
  | .ethRxFrame _ => []
  | .ethLinkDown port => [(port, 4)]
  | .rtpPacketRx _ => []
  | .rtcpSrRx _ => []
  | .asmDeadline ctx => [(ctx, 1024)]
  | .rtcpRrSend ctx => [(ctx, 1024)]
  | .ctxOpen _ ctx => [(ctx, 1024)]
  | .ctxClose _ ctx => [(ctx, 1024)]
  | .ctxDrainDone ctx => [(ctx, 1024)]
  | .groupCfgWrite _ group _ => [(group, 64)]
  | .groupCloseIncomplete group => [(group, 64)]
  | .syncRx _ => []
  | .followUpRx _ => []
  | .followUpTimeout seq => [(seq, 0x10000)]
  | .delayReqSend _ => []
  | .delayRespRx _ => []
  | .announceRx _ => []
  | .announceTimeout => []
  | .syncTimeout => []
  | .ppsInEdge _ _ => []
  | .ppsInTimeout => []
  | .ppsOutPulse => []
  | .frameSyncOut => []
  | .stepApprove _ _ => []
  | .stepApproveTimeout => []
  | .dtmCtrlWrite _ _ => []
  | .timeSetWrite _ _ => []
  | .timeLoRead _ => []
  | .phaseTick => []
  | .phasePeriodWrite _ _ => []
  | .phaseOffsetWrite _ _ => []
  | .utcOffsetChange => []
  | .paramSetDecoded ctx _ => [(ctx, 1024)]
  | .sliceDecoded core _ => [(core, 32)]
  | .slicePreempt core => [(core, 32)]
  | .pictureComplete ctx _ => [(ctx, 1024)]
  | .coreTimeout core => [(core, 32)]
  | .depthPairTimeout ctx => [(ctx, 1024)]
  | .sheetCommit _ slot => [(slot, 64)]
  | .sheetClear _ slot => [(slot, 64)]
  | .sheetValidateDone => []
  | .atlasFragmentRx _ => []
  | .sheetAsmTimeout slot => [(slot, 64)]
  | .slotCfgWrite _ slot _ => [(slot, 64)]
  | .layCommit _ _ => []
  | .layerSpaceCommit _ layer _ => [(layer, 32)]
  | .layerValidateDone => []
  | .layOwnerWrite _ half _ => [(half, 2)]
  | .insetFlattenStart layer => [(layer, 32)]
  | .insetFlattenDone layer _ => [(layer, 32)]
  | .insForceUnflat _ _ => []
  | .wbkBufferComplete _ _ => []
  | .sigCommit _ _ => []
  | .pageRead f => [(f.cmd, 0x10000), (f.addr, 0x100000000), (f.len, 0x10000), (f.crc, 0x100000000)]
  | .pageWrite f => [(f.cmd, 0x10000), (f.addr, 0x100000000), (f.len, 0x10000), (f.crc, 0x100000000)]
  | .paneUpload f => [(f.cmd, 0x10000), (f.addr, 0x100000000), (f.len, 0x10000), (f.crc, 0x100000000)]
  | .paneCommit f => [(f.cmd, 0x10000), (f.addr, 0x100000000), (f.len, 0x10000), (f.crc, 0x100000000)]
  | .paneRead f _ _ => [(f.cmd, 0x10000), (f.addr, 0x100000000), (f.len, 0x10000), (f.crc, 0x100000000)]
  | .heartbeat f => [(f.cmd, 0x10000), (f.addr, 0x100000000), (f.len, 0x10000), (f.crc, 0x100000000)]
  | .faultQuery f => [(f.cmd, 0x10000), (f.addr, 0x100000000), (f.len, 0x10000), (f.crc, 0x100000000)]
  | .faultClear f => [(f.cmd, 0x10000), (f.addr, 0x100000000), (f.len, 0x10000), (f.crc, 0x100000000)]
  | .sftAbort => []
  | .paneValidateDone => []
  | .hbStale => []
  | .cartDeadlineWrite _ _ => []
  | .hbResync _ _ => []
  | .storeCheck _ _ _ => []
  | .paneProbe _ => []
  | .grtRebalance _ _ => []
  | .slotStart _ _ _ _ => []
  | .segmentDone _ port line _ _ => [(port, 64), (line, 8192)]
  | .lineMiss port => [(port, 64)]
  | .linePacketEnd port => [(port, 64)]
  | .segmentTimeout col engine => [(col, 32), (engine, 33)]
  | .gcolRetire _ col _ => [(col, 32)]
  | .bistPeriod col => [(col, 32)]
  | .engineBistDone col _ => [(col, 32)]
  | .gcolBistNow _ col _ => [(col, 32)]
  | .frameLastLine _ => []
  | .frameGate => []
  | .frameGateMax => []
  | .gateForce _ _ => []
  | .crossingStart => []
  | .crossingApply => []
  | .retrainDone port _ => [(port, 64)]
  | .retrainTimeout => []
  | .alignRow port => [(port, 64)]
  | .laneWake port => [(port, 64)]
  | .ackRx port _ => [(port, 64)]
  | .rmsgCap port _ _ => [(port, 64)]
  | .rmsgModeAck port _ _ _ => [(port, 64)]
  | .rmsgSwapAck port _ => [(port, 64)]
  | .rmsgStatus port _ => [(port, 64)]
  | .bkTimeout port => [(port, 64)]
  | .bkLock port _ => [(port, 64)]
  | .bkLost port _ => [(port, 64)]
  | .bkSlip _ port _ => [(port, 64)]
  | .laneErrWindow port => [(port, 64)]
  | .laneSwapWrite _ port _ => [(port, 64)]
  | .tlgDiscover _ _ => []
  | .trainTimeEnd port => [(port, 64)]
  | .discTimeout port => [(port, 64)]
  | .rediscover => []
  | .queuePush qid _ => [(qid, 65536)]
  | .queuePop qid => [(qid, 65536)]
  | .creditReturn qid => [(qid, 65536)]
  | .packetLengthWrite qid _ _ => [(qid, 65536)]
  | .queuePointerMismatch qid => [(qid, 65536)]
  | .queueResetDone qid => [(qid, 65536)]
  | .memRequest cls _ addr _ => [(cls, 5), (addr, 2 ^ 40)]
  | .memReadReturn addr _ => [(addr, 2 ^ 40)]
  | .refreshDue rank _ _ => [(rank, 128)]
  | .mr4Poll _ => []
  | .srEntry group => [(group, 8)]
  | .srExit group _ => [(group, 8)]
  | .periodicTrainDone rank _ _ => [(rank, 128)]
  | .patrolScrub group _ _ => [(group, 8)]
  | .scrubPeriodEnd => []
  | .migCmd _ _ => []
  | .migCopyDone group _ => [(group, 8)]
  | .migMapSwitch group => [(group, 8)]
  | .rasInject _ _ _ => []
  | .landingHeartbeat _ _ _ _ => []
  | .hbMiss _ _ => []
  | .leaseExpiry _ => []
  | .tokenClaim _ => []
  | .claimWindowEnd => []
  | .claimRefused _ => []
  | .preferredWaitEnd => []
  | .landingFence _ => []
  | .watchdogExpiry _ => []
  | .copyVerified _ => []
  | .hostHoldTimeout _ => []
  | .drillStart _ _ => []
  | .drillWatchEnd => []
  | .drillAgeHour => []
  | .revertHoldoffEnd => []
  | .landingReboot _ _ => []
  | .pwrgoodRise _ => []
  | .pwrgoodFall => []
  | .resetNAssert => []
  | .resetNRelease => []
  | .landingResetAssert _ => []
  | .landingResetRelease _ => []
  | .perstAssert q => [(q, 2)]
  | .pcieReady q _ _ => [(q, 2)]
  | .bootAttempt _ _ _ _ _ => []
  | .imageVerified _ _ => []
  | .bootOkTimeout _ => []
  | .memTrainWaveDone _ => []
  | .grtBistDone _ => []
  | .logbookReplayDone _ => []
  | .flashVerify _ _ => []
  | .verifyDone _ => []
  | .slipwayRetry _ _ => []
  | .slipwayEnter _ _ => []
  | .flashProgramDone ch _ => [(ch, 4)]
  | .fuseRevoke _ slot => [(slot, 4)]
  | .fuseAdvance _ target => [(target, 128)]
  | .fuseLockJtag _ => []
  | .fuseDone _ => []
  | .hoursRecord => []
  | .logMirrorAppend => []
  | .logbCompactNow _ _ => []
  | .compactEnd => []
  | .logbNoteGo _ _ => []
  | .wearDeltaCapture _ _ => []
  | .wearSnapshot _ _ => []
  | .wearRecordComplete => []
  | .wearSnapshotNow _ => []
  | .wearAdopt _ => []
  | .wearResetPort _ port => [(port, 64)]
  | .hkRound _ _ => []
  | .calDone fn _ _ _ => [(fn, 4)]
  | .calRetry fn _ => [(fn, 4)]
  | .bmkCmd _ _ => []
  | .hkpMaskWrite _ _ _ => []
  | .hkpThresholdWrite _ ch _ _ => [(ch, 64)]
  | .telRecord => []
  | .smbReadChannel addr command => [(addr, 128), (command, 256)]
  | .smbReadStatus addr => [(addr, 128)]
  | .smbReadHottest addr => [(addr, 128)]
  | .smbReadThrottle addr => [(addr, 128)]
  | .smbReadHours addr => [(addr, 128)]
  | .smbReadSerial addr => [(addr, 128)]
  | .smbAlertResponse addr => [(addr, 128)]
  | .smbWrite addr command _ => [(addr, 128), (command, 256)]
  | .domOwnCmd _ _ => []
  | .domLockAll _ _ => []
  | .dramWindowWrite _ w field _ => [(w, 16), (field, 3)]
  | .gangwayGo _ ch _ => [(ch, 4)]
  | .gangwayAbort _ ch => [(ch, 4)]
  | .gangwayDataWrite _ ch _ _ => [(ch, 4)]
  | .gangwayDataRead _ ch _ => [(ch, 4)]
  | .apertureWrite _ offset _ _ => [(offset, 1048576)]
  | .apertureRead _ offset _ => [(offset, 1048576)]
  | .gangwayDone ch => [(ch, 4)]
  | .barUnsupported q _ => [(q, 2)]
  | .d3hotEntry q => [(q, 2)]
  | .functionLevelReset q => [(q, 2)]
  | .pcieLinkDown q => [(q, 2)]
  | .vecEoi _ q vector => [(q, 2), (vector, 64)]
  | .msixVectorUnmask q _ => [(q, 2)]
  | .landingRefLoss _ => []
  | .trefclkLoss m => [(m, 8)]
  | .erefclkLoss => []
  | .erefclkReturn => []
  | .pcieRefclkLoss q => [(q, 2)]
  | .landingRailLow _ => []
  | .landingRailReturn _ => []
  | .ethLinkUp port => [(port, 4)]
  | .perstRelease q => [(q, 2)]
  | .localStoreUe col engine => [(col, 32), (engine, 33)]
  | .hawserLinkDown => []
  | .hawserLinkUp => []
  | .wearLedgerRestored => []
  | .smbClockLowTimeout _ => []
  | .rankPowerDown rank => [(rank, 128)]
  | .trefclkReturn m => [(m, 8)]
  | .msixHoldoffEnd q v => [(q, 2), (v, 64)]

/-- Every operand lies below its bound. -/
def Instr.wf (i : Instr) : Bool := i.bounds.all (fun x => decide (x.1 < x.2))

end Sys2Proof
end

