-- ==== Sys2Proof/Machine/Assoc.lean ====
section
/-! DEFINITION. Sparse maps from Nat keys in ONE canonical form: keys strictly rising, and no entry
equal to what an unlisted key reads as. The byte spaces and the register file are such maps. -/

namespace Sys2Proof.Machine

/-- The value at key `k`; an unlisted key reads as `d`. -/
def aget {α : Type} (d : α) (k : Nat) : List (Nat × α) → α
  | [] => d
  | (j, v) :: m => if j = k then v else aget d k m

/-- Remove every entry whose key satisfies `p` (the keys then read as their defaults again). -/
def adrop {α : Type} (p : Nat → Bool) : List (Nat × α) → List (Nat × α)
  | [] => []
  | (j, v) :: m => if p j then adrop p m else (j, v) :: adrop p m

/-- Write `v` at key `k`, keeping the keys rising; `d` is what the key reads as when unlisted, so
writing `d` removes the entry. -/
def aset {α : Type} [DecidableEq α] (d : α) (k : Nat) (v : α) : List (Nat × α) → List (Nat × α)
  | [] => if v = d then [] else [(k, v)]
  | (j, w) :: m =>
    if j < k then (j, w) :: aset d k v m
    else if v = d then adrop (fun i => i == k) ((j, w) :: m)
    else if j = k then (k, v) :: m else (k, v) :: (j, w) :: m

/-- The canonical form: keys strictly rising from `lo`, no entry equal to its default `d key`. -/
def awfFrom {α : Type} [DecidableEq α] (d : Nat → α) (lo : Nat) : List (Nat × α) → Bool
  | [] => true
  | (j, v) :: m => decide (lo ≤ j) && decide (v ≠ d j) && awfFrom d (j + 1) m

/-- The canonical form of a map whose unlisted key `k` reads as `d k`. -/
def awf {α : Type} [DecidableEq α] (d : Nat → α) (m : List (Nat × α)) : Bool :=
  awfFrom d 0 m

/-- Change the value at key `k` by `f`. -/
def aupd {α : Type} [DecidableEq α] (d : α) (k : Nat) (f : α → α) (m : List (Nat × α)) :
    List (Nat × α) :=
  aset d k (f (aget d k m)) m

/-- Write the bytes `bs` at consecutive keys from `k`; every key reads as `d` when unlisted. -/
def asetMany {α : Type} [DecidableEq α] (d : α) (k : Nat) : List α → List (Nat × α) → List (Nat × α)
  | [], m => m
  | v :: vs, m => asetMany d (k + 1) vs (aset d k v m)

/-- The values at `n` consecutive keys from `k`. -/
def agetMany {α : Type} (d : α) (k : Nat) : Nat → List (Nat × α) → List α
  | 0, _ => []
  | n + 1, m => aget d k m :: agetMany d (k + 1) n m

/-- A little-endian number from its bytes (R9). -/
def leNat : List Byte → Nat
  | [] => 0
  | b :: bs => b.toNat + 256 * leNat bs

/-- The `n` little-endian bytes of a number (R9). -/
def leBytes : Nat → Nat → List Byte
  | 0, _ => []
  | n + 1, v => BitVec.ofNat 8 v :: leBytes n (v / 256)

/-- The `n` big-endian bytes of a number (R179). -/
def beBytes (n v : Nat) : List Byte := (leBytes n v).reverse

/-- The little-endian number of `n` bytes at `k`. -/
def agetLe (d : Byte) (k n : Nat) (m : List (Nat × Byte)) : Nat := leNat (agetMany d k n m)

/-- Write the low `n` bytes of `v`, little-endian, at `k`. -/
def asetLe (d : Byte) (k n v : Nat) (m : List (Nat × Byte)) : List (Nat × Byte) :=
  asetMany d k (leBytes n v) m

/-- `v` as a signed number of `n` bits. -/
def signedOf (n v : Nat) : Int :=
  let m := v % 2 ^ n
  if 2 * m < 2 ^ n then (m : Int) else (m : Int) - (2 ^ n : Int)

/-- The `n`-bit pattern of an integer. -/
def bitsOfInt (n : Nat) (i : Int) : Nat := (i % (2 ^ n : Int)).toNat

/-- Modulo-2^n difference of two wrapping counters, taken as a signed n-bit number (R7, R286). -/
def wrapDiff (n a b : Nat) : Int := signedOf n (a % 2 ^ n + (2 ^ n - b % 2 ^ n))

/-- Bits [hi:lo] of a number. -/
def bits (v hi lo : Nat) : Nat := (v >>> lo) % 2 ^ (hi - lo + 1)

/-- Bit `i` of a number. -/
def bit (v i : Nat) : Bool := v.testBit i

/-- A number with bit `i` set. -/
def setBit (v i : Nat) : Nat := v ||| (1 <<< i)

/-- A number with bit `i` cleared. -/
def clearBit (v i : Nat) : Nat := if v.testBit i then v - (1 <<< i) else v

/-- Ceiling division. -/
def ceilDiv (a b : Nat) : Nat := (a + b - 1) / b

/-- `a` rounded up to a multiple of `b`. -/
def roundUp (a b : Nat) : Nat := ceilDiv a b * b

end Sys2Proof.Machine
end

