-- ==== Sys2Proof/Machine/BitRead.lean ====
section
/-! DEFINITION. Reading bit fields most significant bit first (R118), and the exact values of IEEE 754
binary32 numbers as integers over a power of two. -/

namespace Sys2Proof.Machine

/-- The eight bits of a byte, bit 7 first. -/
def byteBits (b : Byte) : List Bool :=
  [b.getLsbD 7, b.getLsbD 6, b.getLsbD 5, b.getLsbD 4, b.getLsbD 3, b.getLsbD 2, b.getLsbD 1, b.getLsbD 0]

/-- The bits of a byte list in reading order. -/
def bitsOfBytes (bs : List Byte) : List Bool := bs.flatMap byteBits

/-- A number of `n` bits, most significant bit first, and what follows it. -/
def takeBits : Nat → Nat → List Bool → Option (Nat × List Bool)
  | 0, a, l => some (a, l)
  | n + 1, a, b :: l => takeBits n (2 * a + b.toNat) l
  | _ + 1, _, [] => none

/-- Zero bits up to the first 1 bit, that bit included: how many, and what follows (R122). -/
def countZeros : List Bool → Option (Nat × List Bool)
  | [] => none
  | true :: l => some (0, l)
  | false :: l => (countZeros l).map (fun x => (x.1 + 1, x.2))

/-- ue_K (R122). -/
def readUe (k : Nat) (l : List Bool) : Option (Nat × List Bool) :=
  match countZeros l with
  | none => none
  | some (n, r) => if 17 < n then none
    else (takeBits (n + k) 0 r).map (fun x => ((2 ^ n - 1) * 2 ^ k + x.1, x.2))

/-- se_K (R122). -/
def readSe (k : Nat) (l : List Bool) : Option (Int × List Bool) :=
  (readUe k l).map (fun x => (if x.1 % 2 = 1 then ((x.1 + 1) / 2 : Nat) else -((x.1 / 2 : Nat) : Int), x.2))

/-- `m` fields of `n` bits. -/
def takeMany (n : Nat) : Nat → List Bool → Option (List Nat × List Bool)
  | 0, l => some ([], l)
  | m + 1, l => match takeBits n 0 l with
    | none => none
    | some (v, r) => (takeMany n m r).map (fun x => (v :: x.1, x.2))

/-- A binary32 pattern: infinite or not a number. -/
def f32NotFinite (v : Nat) : Bool := decide (bits v 30 23 = 255)

/-- The value of a finite binary32 pattern times 2^149, an integer. -/
def f32Scaled (v : Nat) : Int :=
  let e := bits v 30 23
  let m : Nat := if e = 0 then bits v 22 0 else (2 ^ 23 + bits v 22 0) * 2 ^ (e - 1)
  if bit v 31 then -(m : Int) else m

/-- Determinant of a 3 × 3 matrix of integers. -/
def det3 (a b c d e f g h i : Int) : Int := a * (e * i - f * h) - b * (d * i - f * g) + c * (d * h - e * g)

/-- The 16 elements of a pose of binary32 values obey R115 and R148: finite, row 3 is (0, 0, 0, 1), and the
upper-left part has a determinant other than zero. The answer is the index of a failing element. -/
def poseFault (m : List Nat) : Option Nat :=
  match (List.range 16).find? (fun k => f32NotFinite (m.getD k 0)) with
  | some k => some k
  | none =>
    let x := fun k => f32Scaled (m.getD k 0)
    match [(12, (0 : Int)), (13, 0), (14, 0), (15, 2 ^ 149)].find? (fun p => !(x p.1 = p.2)) with
    | some (k, _) => some k
    | none => if det3 (x 0) (x 1) (x 2) (x 4) (x 5) (x 6) (x 8) (x 9) (x 10) = 0 then some 0 else none

end Sys2Proof.Machine
end

