-- ==== Sys2Proof/Config.lean ====
section
/-! DEFINITION. What an implementation fixes and the free values: constants without a body, so that a
claim about them holds whatever they are. -/

namespace Sys2Proof.Config

/-- A value the manual leaves open, drawn afresh: the n-th free value of a run (assumption 1). -/
opaque freeNat : Nat → Nat

/-- The requester block code that DMG0_ADDR_ERR_SRC reports for the model's k-th requester: the manual
lists no codes (assumption 1). -/
opaque requesterBlock : Nat → Nat

/-- How long an event takes to reach the sequencer: 4 ns to 20 ns (R220); the manual leaves the value in
that range open. -/
opaque seqCrossing : Nat

/-- The n-th rounding that the manual leaves open: which of the two neighbours an exact half goes to
(R202), or which binary16 number a value becomes (R156, R159), drawn for numerator and denominator. -/
opaque tieUp : Nat → Nat → Bool

/-- The binary16 number, in units of 2^-24, that the value n / d becomes in the working space; the manual
states no rounding (R159). -/
opaque roundHalf : Int → Nat → Int

/-- The code that the value n / d becomes in a picture that is written back; the manual states no rounding (R164). -/
opaque roundCode : Int → Nat → Int

/-- How far, in 2^-20 texel, a ray that passes near the edge of a patch is taken off its place: the manual leaves the
choice of the patch open within 1/256 texel (R124). It depends on the layer, the ray, the depth layer, the depth code
and the axis. -/
opaque edgeShift : List Int → Int

/-- The code that a FAULT record or a CONFIG_NOTE record carries for the model's k-th kind of event: the
manual lists kind 0xFF only (R373). -/
opaque recordCode : Nat → Nat

/-- The single-clock queues inside the fabric (R288): 0 for one that the ING page reports, n + 1 for one that
page DECn reports, none for a QID that names no queue; the manual lists their QIDs from 0x100 nowhere. -/
opaque fabricQueue : Nat → Option Nat

/-- The depth of such a queue. -/
opaque fabricDepth : Nat → Nat

/-- GWYn_STATUS.ROOM of a channel whose target is no flash, after the bytes moved: the manual states none. -/
opaque gwyRoom : Nat → Nat

end Sys2Proof.Config
end

