-- ==== Sys2Proof/Machine/Crc.lean ====
section
/-! DEFINITION. The cyclic redundancy checks of the manual: CRC-32C (R179), CRC-32 (R167) and the
16-bit lane check (R250). -/

namespace Sys2Proof.Machine

/-- One bit of a reflected CRC of polynomial `poly` (already reflected). -/
def crcBitR (poly c : Nat) : Nat :=
  if c % 2 = 1 then (c / 2) ^^^ poly else c / 2

/-- Eight bits of a reflected CRC. -/
def crcByteR (poly c : Nat) (b : Byte) : Nat :=
  let c0 := c ^^^ b.toNat
  crcBitR poly (crcBitR poly (crcBitR poly (crcBitR poly
    (crcBitR poly (crcBitR poly (crcBitR poly (crcBitR poly c0)))))))

/-- A running CRC-32C (Castagnoli, R179): the register before the final XOR. -/
def crc32cStep (c : Nat) (bs : List Byte) : Nat := bs.foldl (crcByteR 0x82F63B78) c

/-- CRC-32C of R179: polynomial 0x1EDC_6F41 reflected, initial value and final XOR all ones. -/
def crc32c (bs : List Byte) : Nat := crc32cStep 0xFFFFFFFF bs ^^^ 0xFFFFFFFF

/-- A running IEEE 802.3 CRC-32 (R167): the register before the final XOR. -/
def crc32Step (c : Nat) (bs : List Byte) : Nat := bs.foldl (crcByteR 0xEDB88320) c

/-- IEEE 802.3 CRC-32 of R167. -/
def crc32 (bs : List Byte) : Nat := crc32Step 0xFFFFFFFF bs ^^^ 0xFFFFFFFF

/-- One bit of the 16-bit CRC, most significant bit first. -/
def crc16Bit (c : Nat) : Nat :=
  if 0x8000 ≤ c then ((2 * c) % 0x10000) ^^^ 0x1021 else 2 * c

/-- Eight bits of the 16-bit CRC of the lane check. -/
def crc16Byte (c : Nat) (b : Byte) : Nat :=
  let c0 := c ^^^ (256 * b.toNat)
  crc16Bit (crc16Bit (crc16Bit (crc16Bit (crc16Bit (crc16Bit (crc16Bit (crc16Bit c0)))))))

/-- The lane CRC-16 of R250: polynomial 0x1021, initial value 0xFFFF, not reflected, no final XOR. -/
def crc16 (bs : List Byte) : Nat := bs.foldl crc16Byte 0xFFFF

end Sys2Proof.Machine
end

