-- ==== Sys2Proof/Machine/Emission.lean ====
section
/-! DEFINITION. What the block sends out: the model's own record of its outputs (assumption 2), newest
first in `State.sent`. -/

namespace Sys2Proof.Machine

/-- One thing sent to the outside of the block. -/
inductive Emission where
  /-- The value a register read of a domain returned. -/
  | readData (d : Dom) (addr : Nat) (value : W32)
  /-- An MSI-X message of endpoint `port`, vector `vector` (R420). -/
  | msix (port vector : Nat)
  /-- A Delay_Req: Ethernet port, destination (the master's identity when unicast), sequenceId (R74). -/
  | delayReq (port : Nat) (unicast : Option Nat) (seq : Nat)
  /-- A rising edge of PPS_OUT, and how many ns the pin stays high (R86). -/
  | ppsOut (highNs : Nat)
  /-- A rising edge of FRAME_SYNC_OUT (R87). -/
  | frameSync
  /-- A receiver report (R63): Ethernet port, source and destination UDP ports, destination MAC and IP,
  and the report block: SSRC, fraction lost, cumulative lost, extended highest sequence number, jitter,
  LSR, DLSR; the CNAME is the 16 ASCII bytes of the serial number. -/
  | receiverReport (port srcPort dstPort dstMac dstIp ssrc fraction lost extSeq jitter lsr dlsr : Nat)
      (cname : List Byte)
  /-- A line packet of a port (R251, R253): its ray words, row-coded or raw. -/
  | linePacket (port fs line : Nat) (rowCoded : Bool) (words : List Nat)
  /-- LINE_START with EMPTY set, and LINE_END (R258). -/
  | emptyLine (port fs line : Nat)
  /-- FRAME_MARK (R249). -/
  | frameMark (port lines fs gateTime modeId linePeriod : Nat)
  /-- RESUME, naming the FRAME_SEQ that follows, and HOLD with BLANK, REASON and the last one (R260). -/
  | resume (port fs : Nat)
  | hold (port : Nat) (blank : Bool) (reason fs : Nat)
  /-- An ALIGN row with its count, and n IDLE rows (R248, R274). -/
  | align (port count : Nat)
  | idle (port n : Nat)
  /-- n REFab commands to a rank (R299, R301). -/
  | refresh (rank n : Nat)
  /-- Training of a port (R269). -/
  | training (port : Nat)
  /-- A MGMT message (R263). -/
  | mgmt (port msg tag : Nat) (data : List Byte)
  /-- What the SMBus target returns, with its PEC (R402), and a NACK. -/
  | smbus (data : List Byte) (pec : Byte)
  | smbNack
  /-- A Landing writes a claim of the helm token to the Mooring (R331, R361). -/
  | claim (l : Landing)
  /-- What a read of a Gangway data port or aperture window returns to a domain; `ep` is the poisoned bit (R414,
  R417). -/
  | completion (d : Dom) (data : List Byte) (ep : Bool)
  /-- A completion with Unsupported Request status on endpoint `port` (R406). -/
  | unsupported (port : Nat)
  /-- A completion with Completer Abort of a non-posted request that a queue reset discarded (R288). -/
  | completerAbort (port : Nat)
  /-- What the safety port sends on SFT_MISO after its wait bytes: the start byte and the response frame (R178,
  R180). -/
  | safety (bytes : List Byte)
  /-- The item that the consumer of a queue took (R283). -/
  | popped (qid item : Nat)
  deriving DecidableEq, Repr

end Sys2Proof.Machine
end

