-- ==== Sys2Proof/Machine/TypesAtlas.lean ====
section
/-! DEFINITION. State types of the Atlas sheet store (R125 to R136). What ATL_SLOTs_STATE, ATL_SHEET_STATUS
and the counters show stands in the registers themselves. -/

namespace Sys2Proof.Machine

/-- A sheet in assembly over UDP (R133, R134). -/
structure SheetAsm where
  seq : Nat
  total : Nat
  /-- 64-byte granules covered. -/
  covered : List Nat
  deadline : Nat
  gen : Nat
  ctx : Nat
  /-- Complete and handed to validation. -/
  complete : Bool
  deriving DecidableEq, Repr

/-- What the device keeps for a slot beside its registers. -/
structure AtlasSlot where
  /-- The pending change is a CLEAR, not a commit (R129). -/
  clearPend : Bool := false
  /-- When the change was made (R127). -/
  pendAt : Nat := 0
  /-- The active bank holds a sheet. -/
  hasSheet : Bool := false
  /-- FRAME_SEQ of the last frame that reads the draining bank. -/
  drainEnd : Nat := 0
  asm : Option SheetAsm := none
  /-- SHEET_SEQ last completed. -/
  lastDone : Option Nat := none
  /-- Each SHEET_SEQ of which a fragment was dropped for a pending or draining bank: never completed (R134). -/
  dead : List Nat := []
  deriving DecidableEq, Repr

/-- The Atlas block. -/
structure Atlas where
  slots : List (Nat × AtlasSlot) := []
  /-- Slots whose inactive bank waits for validation, the one under validation first (R127). -/
  validating : List Nat := []
  /-- The bank under validation was written (code MODIFIED). -/
  modified : Bool := false
  deriving DecidableEq, Repr

end Sys2Proof.Machine
end

