-- ==== Sys2Proof/Machine/TypesCart.lean ====
section
/-! DEFINITION. State types of the Cartouche (R170 to R191). -/

namespace Sys2Proof.Machine

/-- A pane bank under validation or pending (R176): BANK, STORE_CRC, GEOM_CRC, and when it became PENDING. -/
structure PaneCommit where
  bank : Nat
  storeCrc : Nat
  geomCrc : Nat
  at_ : Nat
  /-- PENDING or BANK_ACTIVE as found when the commit arrived (R177); 0 for neither. -/
  early : Nat
  deriving DecidableEq, Repr

/-- A frame whose pane probe runs (R187). -/
structure ProbeRun where
  fs : Nat
  view : Nat
  /-- The stale pattern was shown. -/
  stale : Bool
  bank : Nat
  /-- A probed line was not synthesised. -/
  broken : Bool
  deriving DecidableEq, Repr

/-- The Cartouche. -/
structure Cartouche where
  validating : Option PaneCommit := none
  modified : Bool := false
  pend : Option PaneCommit := none
  /-- The committed GEOM_CRC. -/
  geom : Nat := 0
  /-- FRAME_SEQ of the last frame that reads the former bank (R176). -/
  drainEnd : Option Nat := none
  /-- CART_CTRL.EN in force, the value written, and when (R175). -/
  enForce : Bool := true
  enAt : Nat := 0
  /-- The next heartbeat is accepted with any sequence (R184). -/
  hbAny : Bool := true
  /-- Last restart of the deadline timer. -/
  timer : Option Nat := none
  /-- The deadline passed since then. -/
  hbLate : Bool := false
  /-- Instant of the first latch since CART_FAULT was last 0 (R185). -/
  faultAt : Nat := 0
  /-- The last store check failed (R186). -/
  storeBad : Bool := false
  /-- A frame whose store check runs: FRAME_SEQ and bank. -/
  check : Option (Nat × Nat) := none
  probes : List ProbeRun := []
  /-- Frames are emitted (R188). -/
  output : Bool := false
  deriving DecidableEq, Repr

end Sys2Proof.Machine
end

