-- ==== Sys2Proof/Machine/TypesDatum.lean ====
section
/-! DEFINITION. State types of the Datum (R70 to R89). Offsets are kept exactly, in 2^-18 ns; the
frequency adjustment in 2^-34 ppb (assumption 5). -/

namespace Sys2Proof.Machine

/-- A Sync that waits for its Follow_Up, or that is matched (R77). `base` is t2 - t1 - cS in 2^-16 ns. -/
structure SyncRec where
  seq : Nat
  src : Nat
  t2 : Int
  base : Int
  logInterval : Int
  deriving DecidableEq, Repr

/-- A Delay_Req that was sent, with the matched Sync it follows (R77). -/
structure DelayReqRec where
  seq : Nat
  t3 : Int
  sync : Option SyncRec
  deriving DecidableEq, Repr

/-- A foreign master (R75): its latest Announce and the times of its Announces. -/
structure ForeignMaster where
  src : Nat
  ann : PtpAnnounce
  times : List Nat
  deriving DecidableEq, Repr

/-- The Datum. STATE and the other status bits stand in DTM_STATUS. -/
structure Datum where
  /-- The 64-bit count of ns (R70). -/
  time : Nat := 0
  /-- The fraction in 2^-16 ns (R70). -/
  frac : Nat := 0
  /-- What the fraction leaves over, in 2^-33 ns times 10^-9. -/
  rem : Int := 0
  /-- F in 2^-34 ppb (R78). -/
  freq : Int := 0
  /-- The integrator I in 2^-34 ns (R78). -/
  integ : Int := 0
  /-- Consecutive samples below DTM_LOCK_THRESH (R79). -/
  lockRun : Nat := 0
  /-- Consecutive samples above 4 times DTM_LOCK_THRESH (R79). -/
  unlockRun : Nat := 0
  /-- F over the time in ACQUIRE or LOCKED: values with how long each applied, newest first (R83). -/
  hist : List (Int × Nat) := []
  /-- Since when the present F applies in ACQUIRE or LOCKED. -/
  histFrom : Option Nat := none
  /-- Time of entry to HOLDOVER (R83). -/
  holdFrom : Option Nat := none
  /-- U of R83 in 2^-34 ppb. -/
  holdSpread : Int := 0
  /-- Syncs that wait for their Follow_Up. -/
  syncWait : List SyncRec := []
  /-- The latest matched Sync that no exchange has used. -/
  syncDone : Option SyncRec := none
  /-- The Delay_Req that waits for its Delay_Resp. -/
  delayReq : Option DelayReqRec := none
  /-- Next Delay_Req sequenceId. -/
  delaySeq : Nat := 0
  /-- Instant of the next Delay_Req (R74). -/
  delayNext : Nat := 0
  /-- logMinDelayReqInterval of the master's latest Delay_Resp (R74). -/
  logMinDelayReq : Int := 0
  /-- D of the last exchanges in 2^-17 ns, newest first (R77). -/
  delays : List Int := []
  /-- Foreign masters (R75). -/
  foreign : List ForeignMaster := []
  /-- sourcePortIdentity of the selected master. -/
  master : Option Nat := none
  /-- Time and interval of the last Sync of the selected master (R79). -/
  lastSync : Option (Nat × Int) := none
  /-- An accepted approval that waits, with its time (R81). -/
  approved : Option Nat := none
  /-- The value loaded by DTM_TIME_SET_HI (R85). -/
  timeSet : Option Nat := none
  /-- Time of the last accepted PPS_IN edge (R85). -/
  lastEdge : Option Nat := none
  /-- Since when SOURCE is 1 with the Datum enabled (R79). -/
  ppsSince : Option Nat := none
  /-- The instant at which an announced leap second changes the offset, and the new offset (R84). -/
  leapAt : Option (Nat × Nat) := none
  /-- Whole second of the last PPS_OUT edge (R86). -/
  ppsOutLast : Option Int := none
  /-- PPS_OUT is high until this instant. -/
  ppsOutUntil : Nat := 0
  /-- The Datum instant of a FRAME_SYNC_OUT edge to come (R87). -/
  fsyncAt : Option Nat := none
  /-- FRAME_SYNC_OUT is high until this instant. -/
  fsyncUntil : Nat := 0
  /-- Index of the last phase instant passed (R88). -/
  phaseIdx : Int := 0
  /-- EREFCLK runs; the counter runs from CK_HK otherwise (R444). -/
  erefclk : Bool := true
  deriving DecidableEq, Repr

end Sys2Proof.Machine
end

