-- ==== Sys2Proof/Machine/TypesGrt.lean ====
section
/-! DEFINITION. State types of the Graticule (R192 to R216). -/

namespace Sys2Proof.Machine

/-- A Graticule column. Retired engines stand in GCOLnn_RETIRED_LO and HI. -/
structure GratCol where
  /-- The bring-up test chose its engines (R210). -/
  ready : Bool := false
  /-- Active engines in ascending order. -/
  active : List Nat := []
  spare : Option Nat := none
  /-- The spare runs BIST (R211). -/
  testing : Bool := false
  /-- A rotation is due at the next gate, since this instant. -/
  rotDue : Option Nat := none
  /-- An active engine was retired, and the spare takes its place at the next gate (R212). -/
  fill : Bool := false
  /-- When the online BIST period began that runs. -/
  bistFrom : Nat := 0
  deriving DecidableEq, Repr

/-- The Graticule. -/
structure Graticule where
  cols : List (Nat × GratCol) := []
  /-- Assignment in force: FIRST_COL + 256 × COL_COUNT by port. -/
  assign : List (Nat × Nat) := []
  /-- A rebalance that waits for its gate, and when it was accepted (R193). -/
  rebal : Option (List (Nat × Nat) × Nat) := none
  /-- Ray queue share of each port in 4 KiB units (R195). -/
  share : List (Nat × Nat) := []
  /-- T_grt of the last gate in ns, as a fraction (R207). -/
  floor : Nat × Nat := (0, 1)
  deriving DecidableEq, Repr

end Sys2Proof.Machine
end

