-- ==== Sys2Proof/Machine/TypesGwy.lean ====
section
/-! DEFINITION. State types of the Gangway channels (R412 to R419) and of the flash target spaces (R367). What GWYn registers
show stands in the registers themselves. -/

namespace Sys2Proof.Machine

/-- A channel's transfer, as its GO latched it. -/
structure GwyChan where
  target : Nat := 0
  read : Bool := false
  /-- INC 1: the address advances by STRIDE. -/
  inc : Bool := false
  stride : Nat := 4
  len : Nat := 0
  /-- Next internal address. -/
  addr : Nat := 0
  /-- GWYn_ADDR_LO or GWYn_ADDR_HI was written since GO. -/
  rewritten : Bool := false
  /-- Bytes for a flash that wait to be programmed, with their address and flash, oldest first (R416). -/
  buf : List (Nat × Nat × Byte) := []
  deriving DecidableEq, Repr

/-- The Gangway. -/
structure Gangway where
  chans : List (Nat × GwyChan) := []
  /-- Where the next write in the sector that a flash is being written in must stand (R367). -/
  nextA : Option Nat := none
  nextB : Option Nat := none
  deriving DecidableEq, Repr

end Sys2Proof.Machine
end

