-- ==== Sys2Proof/Machine/TypesHk.lean ====
section
/-! DEFINITION. State types of housekeeping, the Benchmark, telemetry and the SMBus target (R387 to R403,
R453). -/

namespace Sys2Proof.Machine

/-- Housekeeping beside its registers. Level L of channel c (0 warning, 1 throttle, 2 shutdown) has the key
3c + L. -/
structure Housekeep where
  /-- Instant from which the next round is due (R387). -/
  roundAt : Nat := 0
  /-- Levels whose last reading was at or beyond the threshold, once. -/
  once : List Nat := []
  /-- Levels asserted. -/
  asserted : List Nat := []
  /-- Instant of the last change of the throttle level, and of the last clearing of a throttle level (R393). -/
  thrChange : Option Nat := none
  thrClear : Option Nat := none
  /-- THR_MAX was raised since the throttle level reached its highest value. -/
  thrMaxDone : Bool := false
  /-- THERMTRIP_N is low. -/
  thermtrip : Bool := false
  /-- SMB_ALERT_N is low. -/
  alert : Bool := false
  deriving DecidableEq, Repr

/-- A calibrated instance (R396 to R398): quality, POOR, trigger reading in 1/16 °C, retry instant. -/
structure CalInst where
  qual : Nat := 0
  poor : Bool := false
  trig : Int := 0
  done : Bool := false
  retryAt : Option Nat := none
  deriving DecidableEq, Repr

/-- The Benchmark. Instance i of function f has the key 64f + i. -/
structure Benchmark where
  inst : List (Nat × CalInst) := []
  /-- Running instance of each function. -/
  running : List Nat := []
  /-- Waiting instances, and those among them that start even with AUTO_EN 0: at bring-up or on a host's request. -/
  waiting : List Nat := []
  asked : List Nat := []
  /-- Trims: word j of instance k has the key 16k + j. -/
  trims : List (Nat × W32) := []
  /-- Bring-up values of the trims (R399). -/
  bring : List (Nat × W32) := []
  /-- Port's return supervision is suppressed until then (R397), by port. -/
  quietUntil : List (Nat × Nat) := []
  deriving DecidableEq, Repr

/-- Telemetry (R400, R401). -/
structure Telemetry where
  /-- Latency histogram since reset, by 32 × class + bin. -/
  hist : List (Nat × Nat) := []
  /-- The same since the last record. -/
  ivHist : List (Nat × Nat) := []
  ivFrames : Nat := 0
  /-- Milliseconds at throttle levels 1 to 4 since the last record. -/
  ivThr : List (Nat × Nat) := []
  /-- Stale frames and late gates per layer since the last record. -/
  ivStale : List (Nat × Nat) := []
  ivLate : List (Nat × Nat) := []
  /-- ACKs with RESULT 1 or 2 per port. -/
  ivLineErr : List (Nat × Nat) := []
  /-- Corrected errors per group, uncorrectable lines per group. -/
  ivCe : List (Nat × Nat) := []
  ivUe : List (Nat × Nat) := []
  /-- Queue resets and overflows by QID: since reset, and since the last record. -/
  resets : List (Nat × Nat) := []
  overflows : List (Nat × Nat) := []
  ivResets : List (Nat × Nat) := []
  ivOverflows : List (Nat × Nat) := []
  /-- End of the running interval. -/
  nextAt : Nat := 0
  recSeq : Nat := 0
  /-- TEL_POWERED_S and TEL_OUTPUT_S count whole seconds of this many ns left over. -/
  powRest : Nat := 0
  outRest : Nat := 0
  /-- The command byte of an SMBus transaction under way (R402, R453). -/
  smb : Option Nat := none
  deriving DecidableEq, Repr

end Sys2Proof.Machine
end

