-- ==== Sys2Proof/Machine/RegTable.lean ====
section
/-! DEFINITION. The register map: page directory (R423), common header (R424), and one row per
register of every page, as the chapters' register tables give it: offset, instances, access type
(R12), reset value, fields with the ranges R462 checks, and whether it is frame-scoped (R226). -/

namespace Sys2Proof.Machine

/-- Access types of R12. -/
inductive Access where
  | ro | rw | w1c | w1s | wo | rc | rwl
  deriving DecidableEq, Repr

/-- The values a field may take (R462). -/
inductive FieldRule where
  /-- Every value has a meaning. -/
  | any
  /-- lo to hi, both included. -/
  | range (lo hi : Nat)
  /-- 0 (a default or a stop), or lo to hi. -/
  | zeroOr (lo hi : Nat)
  /-- A multiple of m from lo to hi. -/
  | mult (m lo hi : Nat)
  deriving DecidableEq, Repr

/-- A defined field of a register: its lowest bit, its width and its values. -/
structure RegField where
  lo : Nat
  width : Nat
  rule : FieldRule
  deriving DecidableEq, Repr

/-- A row of a chapter's register table. `n1`, `st1`, `n2`, `st2` are the instance counts and strides. -/
structure RegRow where
  off : Nat
  n1 : Nat
  st1 : Nat
  n2 : Nat
  st2 : Nat
  access : Access
  reset : Nat
  fields : List RegField
  frameScoped : Bool
  /-- Stands in instance 0 of its page family only (DEC0, DMG0). -/
  only0 : Bool
  deriving DecidableEq, Repr

/-- The page families of R423. -/
inductive PageFam where
  | glb | moor | lnd | haws | boot | logb | sec | dom | irq | gwy | pci | sft | dtm | eth | ing | dec | atl | lay | ins | wbk | cart | sig | grt | gcol | seq | tlg | tp | dmg | dch | ras | bmk | hkp | wear | tel
  deriving DecidableEq, Repr

/-- First page number of the family (R423). -/
def PageFam.base : PageFam → Nat
  | .glb => 0x000
  | .moor => 0x001
  | .lnd => 0x002
  | .haws => 0x004
  | .boot => 0x005
  | .logb => 0x006
  | .sec => 0x007
  | .dom => 0x008
  | .irq => 0x009
  | .gwy => 0x00A
  | .pci => 0x00E
  | .sft => 0x010
  | .dtm => 0x020
  | .eth => 0x021
  | .ing => 0x025
  | .dec => 0x040
  | .atl => 0x048
  | .lay => 0x060
  | .ins => 0x061
  | .wbk => 0x062
  | .cart => 0x063
  | .sig => 0x064
  | .grt => 0x080
  | .gcol => 0x081
  | .seq => 0x0C0
  | .tlg => 0x0C1
  | .tp => 0x100
  | .dmg => 0x140
  | .dch => 0x180
  | .ras => 0x1C0
  | .bmk => 0x1C1
  | .hkp => 0x1C2
  | .wear => 0x1C3
  | .tel => 0x1C4

/-- Pages of the family (R423). -/
def PageFam.count : PageFam → Nat
  | .glb => 1
  | .moor => 1
  | .lnd => 2
  | .haws => 1
  | .boot => 1
  | .logb => 1
  | .sec => 1
  | .dom => 1
  | .irq => 1
  | .gwy => 4
  | .pci => 2
  | .sft => 1
  | .dtm => 1
  | .eth => 4
  | .ing => 1
  | .dec => 8
  | .atl => 1
  | .lay => 1
  | .ins => 1
  | .wbk => 1
  | .cart => 1
  | .sig => 1
  | .grt => 1
  | .gcol => 32
  | .seq => 1
  | .tlg => 1
  | .tp => 64
  | .dmg => 8
  | .dch => 64
  | .ras => 1
  | .bmk => 1
  | .hkp => 1
  | .wear => 1
  | .tel => 1

/-- INT_SPAN: the highest INT_RAW bit below 31 that R428 assigns in the family, plus 1; `inst` is the
page's index in the family (bits given to DEC0 and DMG0 only). -/
def PageFam.intSpan (f : PageFam) (inst : Nat) : Nat :=
  match f with
  | .glb => 0
  | .moor => 10
  | .lnd => 2
  | .haws => 2
  | .boot => 4
  | .logb => 4
  | .sec => 1
  | .dom => 1
  | .irq => 0
  | .gwy => 2
  | .pci => 2
  | .sft => 1
  | .dtm => 7
  | .eth => 2
  | .ing => 4
  | .dec => 5
  | .atl => 4
  | .lay => 4
  | .ins => 1
  | .wbk => 1
  | .cart => 3
  | .sig => 1
  | .grt => 8
  | .gcol => 1
  | .seq => 7
  | .tlg => 1
  | .tp => 6
  | .dmg => if inst = 0 then 6 else 4
  | .dch => 0
  | .ras => 6
  | .bmk => 2
  | .hkp => 5
  | .wear => 4
  | .tel => 1

/-- REG_COUNT: registers of the windows (R423). -/
def PageFam.regCount (f : PageFam) (inst : Nat) : Nat :=
  match f with
  | .glb => 12
  | .moor => 16
  | .lnd => 6
  | .haws => 7
  | .boot => 12
  | .logb => 16
  | .sec => 36
  | .dom => 55
  | .irq => 3
  | .gwy => 13
  | .pci => 10
  | .sft => 5
  | .dtm => 45
  | .eth => 27
  | .ing => 153
  | .dec => if inst = 0 then 31 else 19
  | .atl => 207
  | .lay => 41
  | .ins => 9
  | .wbk => 18
  | .cart => 18
  | .sig => 182
  | .grt => 82
  | .gcol => 9
  | .seq => 33
  | .tlg => 12
  | .tp => 37
  | .dmg => if inst = 0 then 24 else 15
  | .dch => 37
  | .ras => 28
  | .bmk => 25
  | .hkp => 210
  | .wear => 11
  | .tel => 12

/-- PAGE_CAPS.COMMIT (R426). -/
def PageFam.hasCommit : PageFam → Bool
  | .moor | .lay | .wbk | .sig | .grt | .seq => true
  | .glb | .lnd | .haws | .boot | .logb | .sec | .dom | .irq | .gwy | .pci | .sft | .dtm | .eth | .ing | .dec | .atl | .ins | .cart | .gcol | .tlg | .tp | .dmg | .dch | .ras | .bmk | .hkp | .wear | .tel => false

/-- Every page family, in page order. -/
def allPageFams : List PageFam :=
  [.glb, .moor, .lnd, .haws, .boot, .logb, .sec, .dom, .irq, .gwy, .pci, .sft, .dtm, .eth, .ing, .dec, .atl, .lay, .ins, .wbk, .cart, .sig, .grt, .gcol, .seq, .tlg, .tp, .dmg, .dch, .ras, .bmk, .hkp, .wear, .tel]

/-- The window registers of the GLB page. -/
def rowsGlb : List RegRow := [
  ⟨0x040, 1, 0x0, 1, 0x0, .ro, 0x5E101024, [], false, false⟩,
  ⟨0x044, 1, 0x0, 1, 0x0, .ro, 0xB0, [], false, false⟩,
  ⟨0x048, 1, 0x0, 1, 0x0, .ro, 0x100, [], false, false⟩,
  ⟨0x04C, 1, 0x0, 1, 0x0, .ro, 0x0, [], false, false⟩,
  ⟨0x050, 1, 0x0, 1, 0x0, .ro, 0x0, [], false, false⟩,
  ⟨0x054, 4, 0x4, 1, 0x0, .ro, 0x0, [], false, false⟩,
  ⟨0x064, 1, 0x0, 1, 0x0, .ro, 0x0, [], false, false⟩,
  ⟨0x068, 1, 0x0, 1, 0x0, .ro, 0x0, [], false, false⟩,
  ⟨0x06C, 1, 0x0, 1, 0x0, .ro, 0xD5, [], false, false⟩
]

/-- The window registers of the MOOR page. -/
def rowsMoor : List RegRow := [
  ⟨0x040, 1, 0x0, 1, 0x0, .ro, 0x2, [], false, false⟩,
  ⟨0x044, 1, 0x0, 1, 0x0, .rw, 0x0, [⟨0, 1, .any⟩], false, false⟩,
  ⟨0x048, 1, 0x0, 1, 0x0, .rw, 0x0, [⟨0, 2, .range 0 2⟩], true, false⟩,
  ⟨0x04C, 1, 0x0, 1, 0x0, .rw, 0x3C0002, [⟨0, 1, .any⟩, ⟨1, 1, .any⟩, ⟨16, 16, .range 1 3600⟩], false, false⟩,
  ⟨0x050, 1, 0x0, 1, 0x0, .ro, 0x0, [], false, false⟩,
  ⟨0x054, 1, 0x0, 1, 0x0, .rw, 0x1, [⟨0, 1, .any⟩], false, false⟩,
  ⟨0x058, 1, 0x0, 1, 0x0, .ro, 0x0, [], false, false⟩,
  ⟨0x05C, 1, 0x0, 1, 0x0, .ro, 0x0, [], false, false⟩,
  ⟨0x060, 1, 0x0, 1, 0x0, .ro, 0x0, [], false, false⟩,
  ⟨0x064, 1, 0x0, 1, 0x0, .ro, 0x0, [], false, false⟩,
  ⟨0x068, 1, 0x0, 1, 0x0, .ro, 0x0, [], false, false⟩,
  ⟨0x06C, 1, 0x0, 1, 0x0, .ro, 0x0, [], false, false⟩,
  ⟨0x070, 1, 0x0, 1, 0x0, .ro, 0x0, [], false, false⟩,
  ⟨0x400, 1, 0x0, 1, 0x0, .rwl, 0xA, [⟨0, 12, .range 1 3600⟩], false, false⟩,
  ⟨0x404, 1, 0x0, 1, 0x0, .rwl, 0xA8, [⟨0, 10, .range 24 1000⟩], false, false⟩,
  ⟨0x408, 1, 0x0, 1, 0x0, .rwl, 0x0, [⟨0, 2, .range 0 2⟩], false, false⟩
]

/-- The window registers of the LND pages. -/
def rowsLnd : List RegRow := [
  ⟨0x040, 1, 0x0, 1, 0x0, .ro, 0x0, [], false, false⟩,
  ⟨0x044, 1, 0x0, 1, 0x0, .wo, 0x0, [⟨0, 1, .any⟩], false, false⟩,
  ⟨0x048, 1, 0x0, 1, 0x0, .ro, 0x0, [], false, false⟩,
  ⟨0x04C, 1, 0x0, 1, 0x0, .ro, 0x0, [], false, false⟩,
  ⟨0x050, 1, 0x0, 1, 0x0, .ro, 0x0, [], false, false⟩,
  ⟨0x054, 1, 0x0, 1, 0x0, .ro, 0x0, [], false, false⟩
]

/-- The window registers of the HAWS page. -/
def rowsHaws : List RegRow := [
  ⟨0x040, 1, 0x0, 1, 0x0, .ro, 0x0, [], false, false⟩,
  ⟨0x044, 1, 0x0, 1, 0x0, .ro, 0x0, [], false, false⟩,
  ⟨0x048, 1, 0x0, 1, 0x0, .ro, 0x0, [], false, false⟩,
  ⟨0x04C, 1, 0x0, 1, 0x0, .rc, 0x0, [], false, false⟩,
  ⟨0x050, 1, 0x0, 1, 0x0, .ro, 0x0, [], false, false⟩,
  ⟨0x054, 1, 0x0, 1, 0x0, .ro, 0x0, [], false, false⟩,
  ⟨0x400, 1, 0x0, 1, 0x0, .rwl, 0x0, [⟨0, 1, .any⟩, ⟨4, 4, .any⟩, ⟨8, 8, .any⟩], false, false⟩
]

/-- The window registers of the BOOT page. -/
def rowsBoot : List RegRow := [
  ⟨0x040, 1, 0x0, 1, 0x0, .ro, 0x0, [], false, false⟩,
  ⟨0x044, 1, 0x0, 1, 0x0, .ro, 0x0, [], false, false⟩,
  ⟨0x048, 1, 0x0, 1, 0x0, .ro, 0x0, [], false, false⟩,
  ⟨0x04C, 1, 0x0, 1, 0x0, .ro, 0x0, [], false, false⟩,
  ⟨0x050, 1, 0x0, 1, 0x0, .ro, 0x0, [], false, false⟩,
  ⟨0x054, 1, 0x0, 1, 0x0, .ro, 0x0, [], false, false⟩,
  ⟨0x058, 1, 0x0, 1, 0x0, .ro, 0x0, [], false, false⟩,
  ⟨0x05C, 1, 0x0, 1, 0x0, .ro, 0x0, [], false, false⟩,
  ⟨0x060, 1, 0x0, 1, 0x0, .ro, 0x0, [], false, false⟩,
  ⟨0x064, 1, 0x0, 1, 0x0, .wo, 0x0, [⟨0, 1, .any⟩, ⟨31, 1, .any⟩], false, false⟩,
  ⟨0x068, 1, 0x0, 1, 0x0, .ro, 0x0, [], false, false⟩,
  ⟨0x400, 1, 0x0, 1, 0x0, .rwl, 0x0, [⟨0, 1, .any⟩, ⟨8, 2, .range 1 2⟩], false, false⟩
]

/-- The window registers of the LOGB page. -/
def rowsLogb : List RegRow := [
  ⟨0x040, 1, 0x0, 1, 0x0, .ro, 0x0, [], false, false⟩,
  ⟨0x044, 1, 0x0, 1, 0x0, .ro, 0x0, [], false, false⟩,
  ⟨0x048, 1, 0x0, 1, 0x0, .ro, 0x0, [], false, false⟩,
  ⟨0x04C, 1, 0x0, 1, 0x0, .ro, 0x0, [], false, false⟩,
  ⟨0x050, 1, 0x0, 1, 0x0, .ro, 0x0, [], false, false⟩,
  ⟨0x054, 1, 0x0, 1, 0x0, .ro, 0x0, [], false, false⟩,
  ⟨0x058, 1, 0x0, 1, 0x0, .ro, 0x0, [], false, false⟩,
  ⟨0x05C, 1, 0x0, 1, 0x0, .rw, 0x0, [⟨0, 1, .any⟩, ⟨1, 1, .any⟩], false, false⟩,
  ⟨0x060, 1, 0x0, 1, 0x0, .ro, 0x0, [], false, false⟩,
  ⟨0x070, 4, 0x4, 1, 0x0, .rw, 0x0, [⟨0, 32, .any⟩], false, false⟩,
  ⟨0x080, 1, 0x0, 1, 0x0, .wo, 0x0, [⟨0, 1, .any⟩], false, false⟩,
  ⟨0x400, 1, 0x0, 1, 0x0, .rwl, 0xC0, [⟨0, 9, .range 128 224⟩], false, false⟩,
  ⟨0x404, 1, 0x0, 1, 0x0, .wo, 0x0, [⟨0, 1, .any⟩], false, false⟩
]

/-- The window registers of the SEC page. -/
def rowsSec : List RegRow := [
  ⟨0x040, 1, 0x0, 1, 0x0, .ro, 0x0, [], false, false⟩,
  ⟨0x044, 1, 0x0, 1, 0x0, .ro, 0x0, [], false, false⟩,
  ⟨0x080, 4, 0x20, 8, 0x4, .ro, 0x0, [], false, false⟩,
  ⟨0x400, 1, 0x0, 1, 0x0, .rwl, 0x0, [⟨0, 4, .range 1 3⟩, ⟨8, 7, .any⟩, ⟨31, 1, .any⟩], false, false⟩,
  ⟨0x404, 1, 0x0, 1, 0x0, .ro, 0x0, [], false, false⟩
]

/-- The window registers of the DOM page. -/
def rowsDom : List RegRow := [
  ⟨0x040, 1, 0x0, 1, 0x0, .wo, 0x0, [⟨0, 12, .any⟩, ⟨12, 2, .any⟩, ⟨14, 1, .any⟩, ⟨31, 1, .any⟩], false, false⟩,
  ⟨0x044, 1, 0x0, 1, 0x0, .ro, 0x0, [], false, false⟩,
  ⟨0x048, 1, 0x0, 1, 0x0, .rw, 0xF, [⟨0, 4, .any⟩], false, false⟩,
  ⟨0x04C, 1, 0x0, 1, 0x0, .ro, 0x0, [], false, false⟩,
  ⟨0x050, 1, 0x0, 1, 0x0, .ro, 0x0, [], false, false⟩,
  ⟨0x054, 1, 0x0, 1, 0x0, .ro, 0x0, [], false, false⟩,
  ⟨0x100, 16, 0x10, 1, 0x0, .rw, 0x0, [⟨0, 20, .any⟩], false, false⟩,
  ⟨0x104, 16, 0x10, 1, 0x0, .rw, 0x0, [⟨0, 20, .any⟩], false, false⟩,
  ⟨0x108, 16, 0x10, 1, 0x0, .rw, 0x0, [⟨0, 2, .any⟩], false, false⟩,
  ⟨0x400, 1, 0x0, 1, 0x0, .rwl, 0x0, [⟨0, 1, .any⟩], false, false⟩
]

/-- The window registers of the IRQ page. -/
def rowsIrq : List RegRow := [
  ⟨0x040, 1, 0x0, 1, 0x0, .ro, 0x80000000, [], false, false⟩,
  ⟨0x044, 1, 0x0, 1, 0x0, .ro, 0x0, [], false, false⟩,
  ⟨0x048, 1, 0x0, 1, 0x0, .ro, 0x0, [], false, false⟩
]

/-- The window registers of the GWY pages. -/
def rowsGwy : List RegRow := [
  ⟨0x040, 1, 0x0, 1, 0x0, .wo, 0x0, [⟨0, 1, .any⟩, ⟨1, 1, .any⟩], false, false⟩,
  ⟨0x044, 1, 0x0, 1, 0x0, .rw, 0x0, [⟨0, 8, .any⟩, ⟨8, 1, .any⟩, ⟨9, 1, .any⟩], false, false⟩,
  ⟨0x048, 1, 0x0, 1, 0x0, .rw, 0x0, [⟨0, 32, .any⟩], false, false⟩,
  ⟨0x04C, 1, 0x0, 1, 0x0, .rw, 0x0, [⟨0, 32, .any⟩], false, false⟩,
  ⟨0x050, 1, 0x0, 1, 0x0, .rw, 0x0, [⟨0, 32, .any⟩], false, false⟩,
  ⟨0x054, 1, 0x0, 1, 0x0, .rw, 0x4, [⟨0, 16, .mult 4 4 65532⟩], false, false⟩,
  ⟨0x058, 1, 0x0, 1, 0x0, .ro, 0x0, [], false, false⟩,
  ⟨0x05C, 1, 0x0, 1, 0x0, .ro, 0x0, [], false, false⟩,
  ⟨0x060, 1, 0x0, 1, 0x0, .rw, 0x0, [⟨0, 32, .any⟩], false, false⟩,
  ⟨0x064, 1, 0x0, 1, 0x0, .rw, 0x0, [⟨0, 32, .any⟩], false, false⟩,
  ⟨0x068, 1, 0x0, 1, 0x0, .ro, 0x0, [], false, false⟩,
  ⟨0x06C, 1, 0x0, 1, 0x0, .ro, 0x0, [], false, false⟩,
  ⟨0x400, 1, 0x0, 1, 0x0, .rwl, 0x200, [⟨0, 10, .mult 64 64 512⟩], false, false⟩
]

/-- The window registers of the PCI pages. -/
def rowsPci : List RegRow := [
  ⟨0x040, 1, 0x0, 1, 0x0, .ro, 0x0, [], false, false⟩,
  ⟨0x044, 1, 0x0, 1, 0x0, .ro, 0x5E102D5A, [], false, false⟩,
  ⟨0x048, 1, 0x0, 1, 0x0, .ro, 0x0, [], false, false⟩,
  ⟨0x04C, 1, 0x0, 1, 0x0, .rw, 0x0, [⟨0, 12, .any⟩], false, false⟩,
  ⟨0x050, 1, 0x0, 1, 0x0, .rw, 0x0, [⟨0, 6, .any⟩], false, false⟩,
  ⟨0x054, 1, 0x0, 1, 0x0, .wo, 0x0, [⟨0, 6, .any⟩, ⟨31, 1, .any⟩], false, false⟩,
  ⟨0x058, 1, 0x0, 1, 0x0, .ro, 0x0, [], false, false⟩,
  ⟨0x05C, 1, 0x0, 1, 0x0, .ro, 0x0, [], false, false⟩,
  ⟨0x400, 1, 0x0, 1, 0x0, .rwl, 0x0, [⟨0, 10, .range 0 1000⟩], false, false⟩,
  ⟨0x404, 1, 0x0, 1, 0x0, .rwl, 0x0, [⟨0, 1, .any⟩, ⟨4, 4, .any⟩, ⟨8, 8, .any⟩], false, false⟩
]

/-- The window registers of the SFT page. -/
def rowsSft : List RegRow := [
  ⟨0x040, 1, 0x0, 1, 0x0, .ro, 0x0, [], false, false⟩,
  ⟨0x044, 1, 0x0, 1, 0x0, .ro, 0x0, [], false, false⟩,
  ⟨0x048, 1, 0x0, 1, 0x0, .ro, 0x0, [], false, false⟩,
  ⟨0x04C, 1, 0x0, 1, 0x0, .ro, 0x0, [], false, false⟩,
  ⟨0x400, 1, 0x0, 1, 0x0, .rwl, 0x1, [⟨0, 2, .any⟩], false, false⟩
]

/-- The window registers of the DTM page. -/
def rowsDtm : List RegRow := [
  ⟨0x040, 1, 0x0, 1, 0x0, .rw, 0x0, [⟨0, 1, .any⟩, ⟨1, 2, .any⟩, ⟨3, 2, .range 0 2⟩, ⟨5, 1, .any⟩, ⟨6, 1, .any⟩, ⟨7, 2, .range 0 2⟩, ⟨16, 8, .range 0 127⟩], false, false⟩,
  ⟨0x044, 1, 0x0, 1, 0x0, .rw, 0x0, [⟨0, 4, .any⟩, ⟨4, 8, .any⟩], false, false⟩,
  ⟨0x048, 1, 0x0, 1, 0x0, .ro, 0x0, [], false, false⟩,
  ⟨0x04C, 1, 0x0, 1, 0x0, .ro, 0x0, [], false, false⟩,
  ⟨0x050, 1, 0x0, 1, 0x0, .ro, 0x0, [], false, false⟩,
  ⟨0x054, 1, 0x0, 1, 0x0, .ro, 0x0, [], false, false⟩,
  ⟨0x058, 1, 0x0, 1, 0x0, .ro, 0x0, [], false, false⟩,
  ⟨0x05C, 1, 0x0, 1, 0x0, .ro, 0x0, [], false, false⟩,
  ⟨0x060, 1, 0x0, 1, 0x0, .ro, 0x0, [], false, false⟩,
  ⟨0x064, 1, 0x0, 1, 0x0, .rw, 0x3E8, [⟨0, 32, .range 100 1000000000⟩], false, false⟩,
  ⟨0x068, 1, 0x0, 1, 0x0, .ro, 0x0, [], false, false⟩,
  ⟨0x06C, 1, 0x0, 1, 0x0, .ro, 0x0, [], false, false⟩,
  ⟨0x070, 1, 0x0, 1, 0x0, .wo, 0x0, [⟨0, 1, .any⟩, ⟨16, 16, .any⟩], false, false⟩,
  ⟨0x074, 1, 0x0, 1, 0x0, .rw, 0x25, [⟨0, 16, .any⟩, ⟨31, 1, .any⟩], false, false⟩,
  ⟨0x078, 1, 0x0, 1, 0x0, .ro, 0x0, [], false, false⟩,
  ⟨0x07C, 1, 0x0, 1, 0x0, .ro, 0x0, [], false, false⟩,
  ⟨0x080, 1, 0x0, 1, 0x0, .ro, 0x0, [], false, false⟩,
  ⟨0x084, 1, 0x0, 1, 0x0, .ro, 0x0, [], false, false⟩,
  ⟨0x088, 4, 0x8, 1, 0x0, .rw, 0x0, [⟨0, 16, .any⟩], false, false⟩,
  ⟨0x08C, 4, 0x8, 1, 0x0, .rw, 0x0, [⟨0, 16, .any⟩], false, false⟩,
  ⟨0x0A8, 1, 0x0, 1, 0x0, .rw, 0x0, [⟨0, 32, .any⟩], false, false⟩,
  ⟨0x0AC, 1, 0x0, 1, 0x0, .rw, 0x0, [⟨0, 1, .any⟩, ⟨12, 20, .range 0 500000⟩], false, false⟩,
  ⟨0x0B0, 1, 0x0, 1, 0x0, .rw, 0x0, [⟨0, 32, .range 0 999999999⟩], false, false⟩,
  ⟨0x0B4, 1, 0x0, 1, 0x0, .ro, 0x0, [], false, false⟩,
  ⟨0x0B8, 1, 0x0, 1, 0x0, .ro, 0x0, [], false, false⟩,
  ⟨0x0BC, 1, 0x0, 1, 0x0, .rw, 0x0, [⟨0, 32, .any⟩], false, false⟩,
  ⟨0x0C0, 1, 0x0, 1, 0x0, .rw, 0x0, [⟨0, 32, .any⟩], false, false⟩,
  ⟨0x0C4, 1, 0x0, 1, 0x0, .rw, 0x80000064, [⟨0, 20, .range 100 1000000⟩, ⟨31, 1, .any⟩], false, false⟩,
  ⟨0x0C8, 1, 0x0, 1, 0x0, .wo, 0x0, [⟨0, 32, .any⟩], false, false⟩,
  ⟨0x0CC, 1, 0x0, 1, 0x0, .wo, 0x0, [⟨0, 32, .any⟩], false, false⟩,
  ⟨0x0D0, 1, 0x0, 1, 0x0, .ro, 0x0, [], false, false⟩,
  ⟨0x400, 1, 0x0, 1, 0x0, .rwl, 0xB333, [⟨0, 32, .any⟩], false, false⟩,
  ⟨0x404, 1, 0x0, 1, 0x0, .rwl, 0x4CCD, [⟨0, 32, .any⟩], false, false⟩,
  ⟨0x408, 1, 0x0, 1, 0x0, .rwl, 0x64, [⟨0, 32, .range 10 10000⟩], false, false⟩,
  ⟨0x40C, 1, 0x0, 1, 0x0, .rwl, 0x40, [⟨0, 32, .range 8 3600⟩], false, false⟩,
  ⟨0x410, 1, 0x0, 1, 0x0, .rwl, 0x0, [⟨0, 32, .any⟩], false, false⟩,
  ⟨0x414, 1, 0x0, 1, 0x0, .rwl, 0x3, [⟨0, 32, .range 2 10⟩], false, false⟩,
  ⟨0x418, 1, 0x0, 1, 0x0, .rwl, 0x8, [⟨0, 32, .range 1 32⟩], false, false⟩,
  ⟨0x41C, 1, 0x0, 1, 0x0, .rwl, 0x0, [⟨0, 31, .any⟩, ⟨31, 1, .any⟩], false, false⟩
]

/-- The window registers of the ETH pages. -/
def rowsEth : List RegRow := [
  ⟨0x040, 1, 0x0, 1, 0x0, .rw, 0x0, [⟨0, 1, .any⟩, ⟨1, 2, .range 0 2⟩, ⟨3, 1, .any⟩], false, false⟩,
  ⟨0x044, 1, 0x0, 1, 0x0, .ro, 0x0, [], false, false⟩,
  ⟨0x048, 1, 0x0, 1, 0x0, .rw, 0x0, [⟨0, 32, .any⟩], false, false⟩,
  ⟨0x04C, 1, 0x0, 1, 0x0, .rw, 0x0, [⟨0, 16, .any⟩], false, false⟩,
  ⟨0x050, 1, 0x0, 1, 0x0, .rw, 0x0, [⟨0, 32, .any⟩], false, false⟩,
  ⟨0x054, 4, 0x4, 1, 0x0, .rw, 0x0, [⟨0, 32, .any⟩], false, false⟩,
  ⟨0x064, 1, 0x0, 1, 0x0, .rw, 0x0, [⟨0, 12, .any⟩, ⟨31, 1, .any⟩], false, false⟩,
  ⟨0x068, 1, 0x0, 1, 0x0, .rw, 0x2400, [⟨0, 32, .range 64 9216⟩], false, false⟩,
  ⟨0x070, 8, 0x4, 1, 0x0, .rw, 0x0, [⟨0, 32, .any⟩], false, false⟩,
  ⟨0x090, 1, 0x0, 1, 0x0, .ro, 0x0, [], false, false⟩,
  ⟨0x094, 1, 0x0, 1, 0x0, .ro, 0x0, [], false, false⟩,
  ⟨0x098, 1, 0x0, 1, 0x0, .ro, 0x0, [], false, false⟩,
  ⟨0x09C, 1, 0x0, 1, 0x0, .ro, 0x0, [], false, false⟩,
  ⟨0x0A0, 1, 0x0, 1, 0x0, .ro, 0x0, [], false, false⟩,
  ⟨0x0A4, 1, 0x0, 1, 0x0, .ro, 0x0, [], false, false⟩,
  ⟨0x400, 1, 0x0, 1, 0x0, .rwl, 0xE4E4, [⟨0, 8, .any⟩, ⟨8, 8, .any⟩, ⟨16, 4, .any⟩, ⟨20, 4, .any⟩], false, false⟩,
  ⟨0x404, 1, 0x0, 1, 0x0, .rwl, 0x0, [⟨0, 1, .any⟩, ⟨4, 4, .any⟩, ⟨8, 8, .any⟩], false, false⟩
]

/-- The window registers of the ING page. -/
def rowsIng : List RegRow := [
  ⟨0x040, 1, 0x0, 1, 0x0, .rw, 0x0, [⟨0, 1, .any⟩], false, false⟩,
  ⟨0x044, 1, 0x0, 1, 0x0, .wo, 0x0, [⟨0, 10, .any⟩, ⟨16, 2, .any⟩], false, false⟩,
  ⟨0x048, 1, 0x0, 1, 0x0, .ro, 0x0, [], false, false⟩,
  ⟨0x04C, 1, 0x0, 1, 0x0, .ro, 0x0, [], false, false⟩,
  ⟨0x050, 1, 0x0, 1, 0x0, .rw, 0x3E8, [⟨0, 32, .range 100 10000⟩], false, false⟩,
  ⟨0x054, 1, 0x0, 1, 0x0, .rw, 0x61A8, [⟨0, 32, .range 1000 1000000⟩], false, false⟩,
  ⟨0x060, 1, 0x0, 1, 0x0, .ro, 0x0, [], false, false⟩,
  ⟨0x064, 1, 0x0, 1, 0x0, .ro, 0x0, [], false, false⟩,
  ⟨0x068, 1, 0x0, 1, 0x0, .ro, 0x0, [], false, false⟩,
  ⟨0x06C, 1, 0x0, 1, 0x0, .ro, 0x0, [], false, false⟩,
  ⟨0x070, 1, 0x0, 1, 0x0, .ro, 0x0, [], false, false⟩,
  ⟨0x074, 1, 0x0, 1, 0x0, .ro, 0x0, [], false, false⟩,
  ⟨0x078, 1, 0x0, 1, 0x0, .ro, 0x0, [], false, false⟩,
  ⟨0x07C, 1, 0x0, 1, 0x0, .ro, 0x0, [], false, false⟩,
  ⟨0x080, 1, 0x0, 1, 0x0, .ro, 0x0, [], false, false⟩,
  ⟨0x084, 4, 0x4, 1, 0x0, .ro, 0x0, [], false, false⟩,
  ⟨0x094, 1, 0x0, 1, 0x0, .ro, 0x0, [], false, false⟩,
  ⟨0x098, 1, 0x0, 1, 0x0, .ro, 0x0, [], false, false⟩,
  ⟨0x09C, 1, 0x0, 1, 0x0, .ro, 0x0, [], false, false⟩,
  ⟨0x200, 64, 0x8, 1, 0x0, .rw, 0x3E8, [⟨0, 20, .range 100 100000⟩, ⟨31, 1, .any⟩], false, false⟩,
  ⟨0x204, 64, 0x8, 1, 0x0, .rw, 0x0, [⟨0, 32, .any⟩], false, false⟩,
  ⟨0x400, 1, 0x0, 1, 0x0, .rwl, 0x40, [⟨0, 32, .range 0 128⟩], false, false⟩,
  ⟨0x404, 1, 0x0, 1, 0x0, .rwl, 0x40, [⟨0, 32, .range 8 1024⟩], false, false⟩,
  ⟨0x408, 1, 0x0, 1, 0x0, .rwl, 0x186A0, [⟨0, 32, .range 1000 10000000⟩], false, false⟩
]

/-- The window registers of the DEC pages. -/
def rowsDec : List RegRow := [
  ⟨0x040, 1, 0x0, 1, 0x0, .rw, 0xF, [⟨0, 4, .any⟩], false, false⟩,
  ⟨0x044, 1, 0x0, 1, 0x0, .ro, 0x0, [], false, false⟩,
  ⟨0x050, 4, 0x10, 1, 0x0, .ro, 0x0, [], false, false⟩,
  ⟨0x054, 4, 0x10, 1, 0x0, .ro, 0x0, [], false, false⟩,
  ⟨0x058, 4, 0x10, 1, 0x0, .ro, 0x0, [], false, false⟩,
  ⟨0x05C, 4, 0x10, 1, 0x0, .ro, 0x0, [], false, false⟩,
  ⟨0x100, 1, 0x0, 1, 0x0, .rw, 0x0, [⟨0, 1, .any⟩], false, true⟩,
  ⟨0x104, 1, 0x0, 1, 0x0, .ro, 0x0, [], false, true⟩,
  ⟨0x108, 1, 0x0, 1, 0x0, .ro, 0x0, [], false, true⟩,
  ⟨0x10C, 1, 0x0, 1, 0x0, .ro, 0x0, [], false, true⟩,
  ⟨0x110, 1, 0x0, 1, 0x0, .ro, 0x0, [], false, true⟩,
  ⟨0x114, 1, 0x0, 1, 0x0, .ro, 0x0, [], false, true⟩,
  ⟨0x118, 1, 0x0, 1, 0x0, .ro, 0x0, [], false, true⟩,
  ⟨0x11C, 1, 0x0, 1, 0x0, .ro, 0x0, [], false, true⟩,
  ⟨0x400, 1, 0x0, 1, 0x0, .rwl, 0xFFFF, [⟨0, 16, .any⟩], false, false⟩,
  ⟨0x480, 1, 0x0, 1, 0x0, .rwl, 0x17BCF2, [⟨0, 24, .any⟩], false, true⟩,
  ⟨0x484, 1, 0x0, 1, 0x0, .rwl, 0x4, [⟨0, 32, .range 2 16⟩], false, true⟩,
  ⟨0x488, 1, 0x0, 1, 0x0, .rwl, 0x2000200, [⟨0, 10, .any⟩, ⟨16, 10, .any⟩], false, true⟩,
  ⟨0x48C, 1, 0x0, 1, 0x0, .rwl, 0x0, [⟨0, 12, .any⟩], false, true⟩
]

/-- The window registers of the ATL page. -/
def rowsAtl : List RegRow := [
  ⟨0x040, 1, 0x0, 1, 0x0, .rw, 0x0, [⟨0, 1, .any⟩], false, false⟩,
  ⟨0x044, 1, 0x0, 1, 0x0, .rw, 0x0, [⟨16, 16, .any⟩], false, false⟩,
  ⟨0x048, 1, 0x0, 1, 0x0, .rw, 0x0, [⟨0, 8, .any⟩], false, false⟩,
  ⟨0x04C, 1, 0x0, 1, 0x0, .rw, 0x4, [⟨0, 7, .range 1 64⟩], false, false⟩,
  ⟨0x050, 1, 0x0, 1, 0x0, .wo, 0x0, [⟨0, 6, .any⟩, ⟨8, 2, .any⟩], false, false⟩,
  ⟨0x054, 1, 0x0, 1, 0x0, .ro, 0x0, [], false, false⟩,
  ⟨0x058, 1, 0x0, 1, 0x0, .ro, 0x0, [], false, false⟩,
  ⟨0x05C, 1, 0x0, 1, 0x0, .ro, 0x0, [], false, false⟩,
  ⟨0x060, 1, 0x0, 1, 0x0, .ro, 0x0, [], false, false⟩,
  ⟨0x064, 1, 0x0, 1, 0x0, .ro, 0x0, [], false, false⟩,
  ⟨0x068, 1, 0x0, 1, 0x0, .ro, 0x0, [], false, false⟩,
  ⟨0x06C, 1, 0x0, 1, 0x0, .ro, 0x0, [], false, false⟩,
  ⟨0x070, 1, 0x0, 1, 0x0, .ro, 0x0, [], false, false⟩,
  ⟨0x100, 64, 0x4, 1, 0x0, .rw, 0x0, [⟨0, 1, .any⟩, ⟨1, 1, .any⟩, ⟨16, 10, .any⟩], false, false⟩,
  ⟨0x200, 64, 0x4, 1, 0x0, .ro, 0x0, [], false, false⟩,
  ⟨0x300, 64, 0x4, 1, 0x0, .ro, 0x0, [], false, false⟩,
  ⟨0x400, 1, 0x0, 1, 0x0, .rwl, 0x0, [⟨0, 1, .any⟩], false, false⟩,
  ⟨0x404, 1, 0x0, 1, 0x0, .rwl, 0x2000, [⟨0, 32, .range 64 8192⟩], false, false⟩
]

/-- The window registers of the LAY page. -/
def rowsLay : List RegRow := [
  ⟨0x040, 1, 0x0, 1, 0x0, .wo, 0x0, [⟨0, 1, .any⟩], false, false⟩,
  ⟨0x044, 1, 0x0, 1, 0x0, .rw, 0x0, [⟨0, 32, .any⟩], false, false⟩,
  ⟨0x048, 1, 0x0, 1, 0x0, .ro, 0x0, [], false, false⟩,
  ⟨0x04C, 1, 0x0, 1, 0x0, .ro, 0x0, [], false, false⟩,
  ⟨0x050, 1, 0x0, 1, 0x0, .rw, 0x0, [⟨0, 32, .any⟩], false, false⟩,
  ⟨0x054, 1, 0x0, 1, 0x0, .rw, 0x0, [⟨0, 32, .any⟩], false, false⟩,
  ⟨0x058, 1, 0x0, 1, 0x0, .ro, 0x0, [], false, false⟩,
  ⟨0x05C, 1, 0x0, 1, 0x0, .ro, 0x0, [], false, false⟩,
  ⟨0x060, 1, 0x0, 1, 0x0, .ro, 0x0, [], false, false⟩,
  ⟨0x064, 1, 0x0, 1, 0x0, .ro, 0x0, [], false, false⟩,
  ⟨0x068, 1, 0x0, 1, 0x0, .ro, 0x0, [], false, false⟩,
  ⟨0x06C, 1, 0x0, 1, 0x0, .ro, 0x0, [], false, false⟩,
  ⟨0x070, 1, 0x0, 1, 0x0, .ro, 0x0, [], false, false⟩,
  ⟨0x074, 1, 0x0, 1, 0x0, .rw, 0x0, [⟨0, 10, .any⟩, ⟨10, 10, .any⟩, ⟨20, 10, .any⟩], true, false⟩,
  ⟨0x078, 1, 0x0, 1, 0x0, .rw, 0xCB, [⟨0, 14, .range 80 10000⟩], true, false⟩,
  ⟨0x07C, 1, 0x0, 1, 0x0, .ro, 0x0, [], false, false⟩,
  ⟨0x400, 1, 0x0, 1, 0x0, .rwl, 0x0, [⟨0, 1, .any⟩], false, false⟩,
  ⟨0x410, 4, 0x20, 6, 0x4, .rwl, 0x0, [⟨0, 16, .any⟩, ⟨16, 16, .any⟩], true, false⟩
]

/-- The window registers of the INS page. -/
def rowsIns : List RegRow := [
  ⟨0x040, 1, 0x0, 1, 0x0, .rw, 0x1, [⟨0, 1, .any⟩], false, false⟩,
  ⟨0x044, 1, 0x0, 1, 0x0, .rw, 0x4, [⟨0, 8, .range 1 255⟩], false, false⟩,
  ⟨0x048, 1, 0x0, 1, 0x0, .ro, 0x0, [], false, false⟩,
  ⟨0x04C, 1, 0x0, 1, 0x0, .ro, 0x0, [], false, false⟩,
  ⟨0x050, 1, 0x0, 1, 0x0, .ro, 0x0, [], false, false⟩,
  ⟨0x054, 1, 0x0, 1, 0x0, .ro, 0x0, [], false, false⟩,
  ⟨0x058, 1, 0x0, 1, 0x0, .ro, 0x0, [], false, false⟩,
  ⟨0x400, 1, 0x0, 1, 0x0, .rwl, 0x7D0, [⟨0, 32, .range 100 20000⟩], false, false⟩,
  ⟨0x404, 1, 0x0, 1, 0x0, .wo, 0x0, [⟨0, 32, .any⟩], false, false⟩
]

/-- The window registers of the WBK page. -/
def rowsWbk : List RegRow := [
  ⟨0x040, 1, 0x0, 1, 0x0, .rw, 0x0, [⟨0, 1, .any⟩, ⟨1, 1, .any⟩, ⟨2, 2, .range 0 2⟩], true, false⟩,
  ⟨0x044, 1, 0x0, 1, 0x0, .rw, 0x8700F00, [⟨0, 13, .mult 2 64 3840⟩, ⟨16, 13, .mult 2 64 2160⟩], true, false⟩,
  ⟨0x048, 1, 0x0, 1, 0x0, .rw, 0x0, [⟨0, 12, .any⟩, ⟨16, 12, .any⟩], true, false⟩,
  ⟨0x04C, 1, 0x0, 1, 0x0, .rw, 0x411B, [⟨0, 32, .range 16667 1000000⟩], true, false⟩,
  ⟨0x050, 1, 0x0, 1, 0x0, .rw, 0x0, [⟨0, 32, .mult 256 0 4294967295⟩], true, false⟩,
  ⟨0x054, 1, 0x0, 1, 0x0, .rw, 0x0, [⟨0, 32, .mult 4096 0 4294967295⟩], true, false⟩,
  ⟨0x058, 3, 0x8, 1, 0x0, .rw, 0x0, [⟨0, 32, .mult 4096 0 4294967295⟩], true, false⟩,
  ⟨0x05C, 3, 0x8, 1, 0x0, .rw, 0x0, [⟨0, 8, .any⟩], true, false⟩,
  ⟨0x070, 1, 0x0, 1, 0x0, .rw, 0x0, [⟨0, 3, .any⟩], true, false⟩,
  ⟨0x074, 1, 0x0, 1, 0x0, .ro, 0x0, [], false, false⟩,
  ⟨0x078, 1, 0x0, 1, 0x0, .ro, 0x0, [], false, false⟩,
  ⟨0x07C, 1, 0x0, 1, 0x0, .ro, 0x0, [], false, false⟩,
  ⟨0x400, 1, 0x0, 1, 0x0, .rwl, 0x0, [⟨0, 13, .any⟩, ⟨16, 13, .any⟩], true, false⟩,
  ⟨0x404, 1, 0x0, 1, 0x0, .rwl, 0x1FFF1FFF, [⟨0, 13, .any⟩, ⟨16, 13, .any⟩], true, false⟩
]

/-- The window registers of the CART page. -/
def rowsCart : List RegRow := [
  ⟨0x040, 1, 0x0, 1, 0x0, .rw, 0x1, [⟨0, 1, .any⟩], false, false⟩,
  ⟨0x044, 1, 0x0, 1, 0x0, .ro, 0x0, [], false, false⟩,
  ⟨0x048, 1, 0x0, 1, 0x0, .rw, 0x64, [⟨0, 32, .range 10 1000⟩], false, false⟩,
  ⟨0x04C, 1, 0x0, 1, 0x0, .w1c, 0x0, [⟨0, 6, .any⟩], false, false⟩,
  ⟨0x050, 1, 0x0, 1, 0x0, .rw, 0x3F, [⟨0, 6, .any⟩], false, false⟩,
  ⟨0x054, 1, 0x0, 1, 0x0, .ro, 0x0, [], false, false⟩,
  ⟨0x058, 1, 0x0, 1, 0x0, .ro, 0x0, [], false, false⟩,
  ⟨0x05C, 1, 0x0, 1, 0x0, .ro, 0x0, [], false, false⟩,
  ⟨0x060, 1, 0x0, 1, 0x0, .ro, 0x0, [], false, false⟩,
  ⟨0x064, 1, 0x0, 1, 0x0, .ro, 0x0, [], false, false⟩,
  ⟨0x068, 1, 0x0, 1, 0x0, .ro, 0x0, [], false, false⟩,
  ⟨0x06C, 1, 0x0, 1, 0x0, .ro, 0x0, [], false, false⟩,
  ⟨0x070, 1, 0x0, 1, 0x0, .ro, 0x0, [], false, false⟩,
  ⟨0x074, 1, 0x0, 1, 0x0, .rw, 0x1000, [⟨0, 16, .any⟩], false, false⟩,
  ⟨0x078, 1, 0x0, 1, 0x0, .ro, 0x0, [], false, false⟩,
  ⟨0x07C, 1, 0x0, 1, 0x0, .ro, 0x0, [], false, false⟩,
  ⟨0x400, 1, 0x0, 1, 0x0, .rwl, 0x1, [⟨0, 1, .any⟩, ⟨1, 1, .any⟩, ⟨16, 8, .any⟩], false, false⟩,
  ⟨0x404, 1, 0x0, 1, 0x0, .wo, 0x0, [⟨0, 1, .any⟩], false, false⟩
]

/-- The window registers of the SIG page. -/
def rowsSig : List RegRow := [
  ⟨0x040, 1, 0x0, 1, 0x0, .rw, 0x0, [⟨0, 1, .any⟩], false, false⟩,
  ⟨0x044, 1, 0x0, 1, 0x0, .wo, 0x0, [⟨0, 1, .any⟩], false, false⟩,
  ⟨0x048, 1, 0x0, 1, 0x0, .ro, 0x0, [], false, false⟩,
  ⟨0x04C, 1, 0x0, 1, 0x0, .ro, 0x0, [], false, false⟩,
  ⟨0x050, 1, 0x0, 1, 0x0, .ro, 0x0, [], false, false⟩,
  ⟨0x0C0, 16, 0x30, 1, 0x0, .rw, 0x0, [⟨0, 1, .any⟩, ⟨1, 1, .any⟩], true, false⟩,
  ⟨0x0C4, 16, 0x30, 1, 0x0, .rw, 0x0, [⟨0, 13, .any⟩, ⟨16, 13, .any⟩], true, false⟩,
  ⟨0x0C8, 16, 0x30, 1, 0x0, .rw, 0x0, [⟨0, 13, .any⟩, ⟨16, 13, .any⟩], true, false⟩,
  ⟨0x0CC, 16, 0x30, 1, 0x0, .rw, 0x0, [⟨0, 4, .any⟩, ⟨8, 4, .any⟩, ⟨16, 4, .any⟩, ⟨24, 4, .any⟩], true, false⟩,
  ⟨0x0D0, 16, 0x30, 4, 0x4, .rw, 0x0, [⟨0, 32, .any⟩], true, false⟩,
  ⟨0x0E0, 16, 0x30, 1, 0x0, .ro, 0x0, [], false, false⟩,
  ⟨0x0E4, 16, 0x30, 1, 0x0, .ro, 0x0, [], false, false⟩,
  ⟨0x0E8, 16, 0x30, 1, 0x0, .ro, 0x0, [], false, false⟩,
  ⟨0x400, 1, 0x0, 1, 0x0, .rwl, 0x0, [⟨0, 16, .any⟩], true, false⟩
]

/-- The window registers of the GRT page. -/
def rowsGrt : List RegRow := [
  ⟨0x040, 1, 0x0, 1, 0x0, .rw, 0x3, [⟨0, 1, .any⟩, ⟨1, 1, .any⟩, ⟨2, 1, .any⟩], true, false⟩,
  ⟨0x044, 1, 0x0, 1, 0x0, .ro, 0x0, [], false, false⟩,
  ⟨0x048, 1, 0x0, 1, 0x0, .ro, 0x640, [], false, false⟩,
  ⟨0x04C, 1, 0x0, 1, 0x0, .ro, 0x0, [], false, false⟩,
  ⟨0x050, 1, 0x0, 1, 0x0, .ro, 0x0, [], false, false⟩,
  ⟨0x054, 1, 0x0, 1, 0x0, .rc, 0x1F, [], false, false⟩,
  ⟨0x058, 1, 0x0, 1, 0x0, .ro, 0x0, [], false, false⟩,
  ⟨0x05C, 1, 0x0, 1, 0x0, .ro, 0x0, [], false, false⟩,
  ⟨0x060, 1, 0x0, 1, 0x0, .ro, 0x0, [], false, false⟩,
  ⟨0x064, 1, 0x0, 1, 0x0, .ro, 0x0, [], false, false⟩,
  ⟨0x068, 1, 0x0, 1, 0x0, .ro, 0x0, [], false, false⟩,
  ⟨0x06C, 1, 0x0, 1, 0x0, .ro, 0x0, [], false, false⟩,
  ⟨0x070, 1, 0x0, 1, 0x0, .rw, 0x122, [⟨0, 9, .range 40 400⟩], true, false⟩,
  ⟨0x074, 1, 0x0, 1, 0x0, .rw, 0xA, [⟨0, 11, .zeroOr 1 1440⟩], false, false⟩,
  ⟨0x078, 1, 0x0, 1, 0x0, .ro, 0x0, [], false, false⟩,
  ⟨0x400, 1, 0x0, 1, 0x0, .rwl, 0xA10, [⟨0, 5, .range 8 24⟩, ⟨8, 5, .range 8 24⟩], false, false⟩,
  ⟨0x404, 1, 0x0, 1, 0x0, .rwl, 0x5A, [⟨0, 7, .range 50 95⟩], false, false⟩,
  ⟨0x408, 1, 0x0, 1, 0x0, .rwl, 0x0, [⟨0, 1, .any⟩, ⟨1, 1, .any⟩], false, false⟩,
  ⟨0x410, 64, 0x4, 1, 0x0, .rwl, 0x0, [⟨0, 5, .any⟩, ⟨8, 6, .any⟩], false, false⟩
]

/-- The window registers of the GCOL pages. -/
def rowsGcol : List RegRow := [
  ⟨0x040, 1, 0x0, 1, 0x0, .ro, 0x0, [], false, false⟩,
  ⟨0x044, 1, 0x0, 1, 0x0, .ro, 0x0, [], false, false⟩,
  ⟨0x048, 1, 0x0, 1, 0x0, .ro, 0x0, [], false, false⟩,
  ⟨0x04C, 1, 0x0, 1, 0x0, .ro, 0x0, [], false, false⟩,
  ⟨0x050, 1, 0x0, 1, 0x0, .ro, 0x0, [], false, false⟩,
  ⟨0x054, 1, 0x0, 1, 0x0, .ro, 0x0, [], false, false⟩,
  ⟨0x058, 1, 0x0, 1, 0x0, .ro, 0x0, [], false, false⟩,
  ⟨0x400, 1, 0x0, 1, 0x0, .rwl, 0x0, [⟨0, 6, .range 0 32⟩, ⟨31, 1, .any⟩], false, false⟩,
  ⟨0x404, 1, 0x0, 1, 0x0, .rwl, 0x0, [⟨0, 1, .any⟩], false, false⟩
]

/-- The window registers of the SEQ page. -/
def rowsSeq : List RegRow := [
  ⟨0x300, 1, 0x0, 1, 0x0, .wo, 0x0, [⟨0, 1, .any⟩, ⟨31, 1, .any⟩], false, false⟩,
  ⟨0x304, 1, 0x0, 1, 0x0, .ro, 0x0, [], false, false⟩,
  ⟨0x308, 1, 0x0, 1, 0x0, .ro, 0x0, [], false, false⟩,
  ⟨0x30C, 1, 0x0, 1, 0x0, .ro, 0x0, [], false, false⟩,
  ⟨0x310, 1, 0x0, 1, 0x0, .ro, 0x0, [], false, false⟩,
  ⟨0x314, 1, 0x0, 1, 0x0, .ro, 0x0, [], false, false⟩,
  ⟨0x318, 1, 0x0, 1, 0x0, .ro, 0x0, [], false, false⟩,
  ⟨0x31C, 1, 0x0, 1, 0x0, .ro, 0x0, [], false, false⟩,
  ⟨0x320, 1, 0x0, 1, 0x0, .ro, 0x0, [], false, false⟩,
  ⟨0x324, 1, 0x0, 1, 0x0, .ro, 0x0, [], false, false⟩,
  ⟨0x400, 1, 0x0, 1, 0x0, .rwl, 0x0, [⟨0, 32, .any⟩], false, false⟩,
  ⟨0x404, 1, 0x0, 1, 0x0, .rwl, 0x0, [⟨0, 32, .any⟩], false, false⟩,
  ⟨0x040, 1, 0x0, 1, 0x0, .rw, 0x8235208D, [⟨0, 16, .any⟩, ⟨16, 16, .any⟩], true, false⟩,
  ⟨0x044, 1, 0x0, 1, 0x0, .rw, 0x0, [⟨0, 1, .any⟩], true, false⟩,
  ⟨0x048, 1, 0x0, 1, 0x0, .ro, 0x0, [], false, false⟩,
  ⟨0x04C, 1, 0x0, 1, 0x0, .ro, 0x0, [], false, false⟩,
  ⟨0x050, 1, 0x0, 1, 0x0, .ro, 0x0, [], false, false⟩,
  ⟨0x054, 1, 0x0, 1, 0x0, .ro, 0x0, [], false, false⟩,
  ⟨0x058, 1, 0x0, 1, 0x0, .ro, 0x0, [], false, false⟩,
  ⟨0x05C, 1, 0x0, 1, 0x0, .ro, 0x0, [], false, false⟩,
  ⟨0x060, 1, 0x0, 1, 0x0, .ro, 0x0, [], false, false⟩,
  ⟨0x064, 1, 0x0, 1, 0x0, .ro, 0x0, [], false, false⟩,
  ⟨0x068, 1, 0x0, 1, 0x0, .ro, 0x0, [], false, false⟩,
  ⟨0x06C, 1, 0x0, 1, 0x0, .wo, 0x0, [⟨0, 1, .any⟩, ⟨31, 1, .any⟩], false, false⟩,
  ⟨0x070, 1, 0x0, 1, 0x0, .ro, 0x0, [], false, false⟩,
  ⟨0x074, 1, 0x0, 1, 0x0, .ro, 0x0, [], false, false⟩,
  ⟨0x078, 1, 0x0, 1, 0x0, .ro, 0x0, [], false, false⟩,
  ⟨0x07C, 1, 0x0, 1, 0x0, .ro, 0x0, [], false, false⟩,
  ⟨0x080, 1, 0x0, 1, 0x0, .rc, 0x0, [], false, false⟩,
  ⟨0x084, 1, 0x0, 1, 0x0, .ro, 0x0, [], false, false⟩,
  ⟨0x440, 1, 0x0, 1, 0x0, .rwl, 0x0, [⟨0, 32, .any⟩], true, false⟩,
  ⟨0x444, 1, 0x0, 1, 0x0, .rwl, 0x0, [⟨0, 1, .any⟩], false, false⟩,
  ⟨0x448, 1, 0x0, 1, 0x0, .rwl, 0x6, [⟨0, 5, .range 2 20⟩], false, false⟩
]

/-- The window registers of the TLG page. -/
def rowsTlg : List RegRow := [
  ⟨0x040, 1, 0x0, 1, 0x0, .ro, 0x0, [], false, false⟩,
  ⟨0x044, 1, 0x0, 1, 0x0, .wo, 0x0, [⟨0, 1, .any⟩], false, false⟩,
  ⟨0x048, 1, 0x0, 1, 0x0, .ro, 0x0, [], false, false⟩,
  ⟨0x04C, 1, 0x0, 1, 0x0, .ro, 0x0, [], false, false⟩,
  ⟨0x050, 1, 0x0, 1, 0x0, .ro, 0x0, [], false, false⟩,
  ⟨0x054, 1, 0x0, 1, 0x0, .ro, 0x0, [], false, false⟩,
  ⟨0x058, 1, 0x0, 1, 0x0, .ro, 0x0, [], false, false⟩,
  ⟨0x05C, 1, 0x0, 1, 0x0, .ro, 0x0, [], false, false⟩,
  ⟨0x400, 1, 0x0, 1, 0x0, .rwl, 0x5, [⟨0, 5, .range 1 20⟩], false, false⟩,
  ⟨0x404, 1, 0x0, 1, 0x0, .rwl, 0x3E8, [⟨0, 16, .range 400 10000⟩], false, false⟩,
  ⟨0x408, 1, 0x0, 1, 0x0, .rwl, 0x14, [⟨0, 16, .range 10 10000⟩], false, false⟩,
  ⟨0x40C, 1, 0x0, 1, 0x0, .rwl, 0xA, [⟨0, 16, .zeroOr 1 3600⟩], false, false⟩
]

/-- The window registers of the TP pages. -/
def rowsTp : List RegRow := [
  ⟨0x040, 1, 0x0, 1, 0x0, .rw, 0x0, [⟨0, 1, .any⟩, ⟨1, 1, .any⟩], false, false⟩,
  ⟨0x044, 1, 0x0, 1, 0x0, .ro, 0x0, [], false, false⟩,
  ⟨0x048, 1, 0x0, 1, 0x0, .ro, 0x76543210, [], false, false⟩,
  ⟨0x04C, 1, 0x0, 1, 0x0, .ro, 0xFEDCBA98, [], false, false⟩,
  ⟨0x050, 1, 0x0, 1, 0x0, .rw, 0x3E80008, [⟨0, 16, .range 1 65535⟩, ⟨16, 16, .range 10 60000⟩], false, false⟩,
  ⟨0x054, 1, 0x0, 1, 0x0, .ro, 0x0, [], false, false⟩,
  ⟨0x058, 1, 0x0, 1, 0x0, .ro, 0x0, [], false, false⟩,
  ⟨0x05C, 1, 0x0, 1, 0x0, .ro, 0x0, [], false, false⟩,
  ⟨0x060, 8, 0x4, 1, 0x0, .ro, 0x0, [], false, false⟩,
  ⟨0x080, 1, 0x0, 1, 0x0, .ro, 0x0, [], false, false⟩,
  ⟨0x084, 1, 0x0, 1, 0x0, .wo, 0x0, [⟨0, 1, .any⟩], false, false⟩,
  ⟨0x088, 1, 0x0, 1, 0x0, .ro, 0x0, [], false, false⟩,
  ⟨0x0C0, 16, 0x4, 1, 0x0, .ro, 0x0, [], false, false⟩,
  ⟨0x400, 1, 0x0, 1, 0x0, .rwl, 0x5, [⟨0, 4, .range 0 10⟩], false, false⟩,
  ⟨0x404, 1, 0x0, 1, 0x0, .rwl, 0x0, [⟨0, 4, .any⟩, ⟨31, 1, .any⟩], false, false⟩
]

/-- The window registers of the DMG pages. -/
def rowsDmg : List RegRow := [
  ⟨0x040, 1, 0x0, 1, 0x0, .ro, 0x0, [], false, false⟩,
  ⟨0x044, 1, 0x0, 1, 0x0, .ro, 0xB3A29180, [], false, false⟩,
  ⟨0x048, 1, 0x0, 1, 0x0, .ro, 0xF7E6D5C4, [], false, false⟩,
  ⟨0x04C, 1, 0x0, 1, 0x0, .rw, 0x32, [⟨0, 32, .range 10 10000⟩], false, false⟩,
  ⟨0x050, 1, 0x0, 1, 0x0, .ro, 0x0, [], false, false⟩,
  ⟨0x054, 1, 0x0, 1, 0x0, .ro, 0x0, [], false, false⟩,
  ⟨0x058, 1, 0x0, 1, 0x0, .ro, 0x0, [], false, false⟩,
  ⟨0x05C, 1, 0x0, 1, 0x0, .rc, 0x0, [], false, false⟩,
  ⟨0x060, 1, 0x0, 1, 0x0, .ro, 0x0, [], false, false⟩,
  ⟨0x064, 1, 0x0, 1, 0x0, .ro, 0x0, [], false, false⟩,
  ⟨0x100, 1, 0x0, 1, 0x0, .ro, 0x14, [], false, true⟩,
  ⟨0x104, 1, 0x0, 1, 0x0, .ro, 0x0, [], false, true⟩,
  ⟨0x108, 1, 0x0, 1, 0x0, .ro, 0x0, [], false, true⟩,
  ⟨0x10C, 1, 0x0, 1, 0x0, .ro, 0x0, [], false, true⟩,
  ⟨0x110, 1, 0x0, 1, 0x0, .ro, 0x0, [], false, true⟩,
  ⟨0x114, 1, 0x0, 1, 0x0, .ro, 0x0, [], false, true⟩,
  ⟨0x118, 1, 0x0, 1, 0x0, .ro, 0x0, [], false, true⟩,
  ⟨0x11C, 1, 0x0, 1, 0x0, .ro, 0x0, [], false, true⟩,
  ⟨0x120, 1, 0x0, 1, 0x0, .ro, 0x0, [], false, true⟩,
  ⟨0x400, 1, 0x0, 1, 0x0, .rwl, 0x11248, [⟨0, 4, .range 1 15⟩, ⟨4, 4, .range 1 15⟩, ⟨8, 4, .range 1 15⟩, ⟨12, 4, .range 1 15⟩, ⟨16, 4, .range 1 15⟩], false, false⟩,
  ⟨0x404, 1, 0x0, 1, 0x0, .rwl, 0x14, [⟨0, 32, .range 5 200⟩], false, false⟩,
  ⟨0x408, 1, 0x0, 1, 0x0, .rwl, 0x8, [⟨0, 32, .range 2 100⟩], false, false⟩,
  ⟨0x40C, 1, 0x0, 1, 0x0, .rwl, 0x0, [⟨0, 1, .any⟩], false, false⟩,
  ⟨0x410, 1, 0x0, 1, 0x0, .rwl, 0x8, [⟨0, 4, .range 1 8⟩], false, false⟩
]

/-- The window registers of the DCH pages. -/
def rowsDch : List RegRow := [
  ⟨0x040, 1, 0x0, 1, 0x0, .ro, 0x0, [], false, false⟩,
  ⟨0x044, 1, 0x0, 1, 0x0, .ro, 0x0, [], false, false⟩,
  ⟨0x048, 1, 0x0, 1, 0x0, .ro, 0x0, [], false, false⟩,
  ⟨0x04C, 1, 0x0, 1, 0x0, .ro, 0x0, [], false, false⟩,
  ⟨0x050, 1, 0x0, 1, 0x0, .ro, 0x0, [], false, false⟩,
  ⟨0x400, 32, 0x4, 1, 0x0, .rwl, 0x0, [⟨0, 32, .any⟩], false, false⟩
]

/-- The window registers of the RAS page. -/
def rowsRas : List RegRow := [
  ⟨0x040, 1, 0x0, 1, 0x0, .rw, 0x1, [⟨0, 1, .any⟩, ⟨1, 1, .any⟩], false, false⟩,
  ⟨0x044, 1, 0x0, 1, 0x0, .rw, 0x18, [⟨0, 8, .range 1 168⟩], false, false⟩,
  ⟨0x048, 1, 0x0, 1, 0x0, .ro, 0x0, [], false, false⟩,
  ⟨0x04C, 1, 0x0, 1, 0x0, .ro, 0x0, [], false, false⟩,
  ⟨0x050, 1, 0x0, 1, 0x0, .ro, 0x0, [], false, false⟩,
  ⟨0x054, 1, 0x0, 1, 0x0, .ro, 0x0, [], false, false⟩,
  ⟨0x058, 1, 0x0, 1, 0x0, .ro, 0x0, [], false, false⟩,
  ⟨0x05C, 1, 0x0, 1, 0x0, .ro, 0x0, [], false, false⟩,
  ⟨0x060, 1, 0x0, 1, 0x0, .ro, 0x0, [], false, false⟩,
  ⟨0x064, 1, 0x0, 1, 0x0, .ro, 0x0, [], false, false⟩,
  ⟨0x068, 1, 0x0, 1, 0x0, .ro, 0x0, [], false, false⟩,
  ⟨0x080, 8, 0x4, 1, 0x0, .ro, 0x0, [], false, false⟩,
  ⟨0x0A0, 1, 0x0, 1, 0x0, .rw, 0x0, [⟨0, 7, .any⟩], false, false⟩,
  ⟨0x0A4, 1, 0x0, 1, 0x0, .ro, 0x0, [], false, false⟩,
  ⟨0x0A8, 1, 0x0, 1, 0x0, .ro, 0x0, [], false, false⟩,
  ⟨0x400, 1, 0x0, 1, 0x0, .rwl, 0x100, [⟨0, 16, .range 1 65535⟩], false, false⟩,
  ⟨0x404, 1, 0x0, 1, 0x0, .rwl, 0x18, [⟨0, 8, .range 1 168⟩], false, false⟩,
  ⟨0x408, 1, 0x0, 1, 0x0, .rwl, 0x3E8, [⟨0, 13, .range 200 4000⟩], false, false⟩,
  ⟨0x40C, 1, 0x0, 1, 0x0, .rwl, 0x0, [⟨0, 7, .any⟩, ⟨31, 1, .any⟩], false, false⟩,
  ⟨0x410, 1, 0x0, 1, 0x0, .rwl, 0x0, [⟨6, 26, .any⟩], false, false⟩,
  ⟨0x414, 1, 0x0, 1, 0x0, .rwl, 0x0, [⟨0, 8, .any⟩, ⟨28, 2, .range 1 2⟩, ⟨31, 1, .any⟩], false, false⟩
]

/-- The window registers of the BMK page. -/
def rowsBmk : List RegRow := [
  ⟨0x040, 1, 0x0, 1, 0x0, .rw, 0x1, [⟨0, 1, .any⟩], false, false⟩,
  ⟨0x044, 1, 0x0, 1, 0x0, .rw, 0x8, [⟨0, 5, .range 2 32⟩], false, false⟩,
  ⟨0x048, 1, 0x0, 1, 0x0, .wo, 0x0, [⟨0, 2, .any⟩, ⟨8, 7, .any⟩, ⟨31, 1, .any⟩], false, false⟩,
  ⟨0x04C, 1, 0x0, 1, 0x0, .ro, 0x0, [], false, false⟩,
  ⟨0x050, 1, 0x0, 1, 0x0, .rw, 0x0, [⟨0, 2, .any⟩, ⟨8, 6, .any⟩], false, false⟩,
  ⟨0x054, 1, 0x0, 1, 0x0, .ro, 0x0, [], false, false⟩,
  ⟨0x058, 1, 0x0, 1, 0x0, .ro, 0x0, [], false, false⟩,
  ⟨0x400, 1, 0x0, 1, 0x0, .rwl, 0x3C, [⟨0, 32, .range 10 3600⟩], false, false⟩,
  ⟨0x404, 1, 0x0, 1, 0x0, .rwl, 0x14021002, [⟨0, 8, .any⟩, ⟨8, 8, .any⟩, ⟨16, 8, .any⟩, ⟨24, 8, .any⟩], false, false⟩,
  ⟨0x410, 16, 0x4, 1, 0x0, .rwl, 0x0, [⟨0, 32, .any⟩], false, false⟩
]

/-- The window registers of the HKP page. -/
def rowsHkp : List RegRow := [
  ⟨0x040, 1, 0x0, 1, 0x0, .ro, 0x0, [], false, false⟩,
  ⟨0x044, 1, 0x0, 1, 0x0, .ro, 0x0, [], false, false⟩,
  ⟨0x048, 1, 0x0, 1, 0x0, .ro, 0x0, [], false, false⟩,
  ⟨0x04C, 1, 0x0, 1, 0x0, .ro, 0x0, [], false, false⟩,
  ⟨0x050, 1, 0x0, 1, 0x0, .ro, 0x0, [], false, false⟩,
  ⟨0x054, 1, 0x0, 1, 0x0, .ro, 0x0, [], false, false⟩,
  ⟨0x058, 1, 0x0, 1, 0x0, .ro, 0x0, [], false, false⟩,
  ⟨0x05C, 1, 0x0, 1, 0x0, .ro, 0x0, [], false, false⟩,
  ⟨0x060, 1, 0x0, 1, 0x0, .ro, 0x0, [], false, false⟩,
  ⟨0x064, 1, 0x0, 1, 0x0, .ro, 0x0, [], false, false⟩,
  ⟨0x068, 1, 0x0, 1, 0x0, .ro, 0x0, [], false, false⟩,
  ⟨0x06C, 1, 0x0, 1, 0x0, .ro, 0x0, [], false, false⟩,
  ⟨0x070, 1, 0x0, 1, 0x0, .ro, 0x0, [], false, false⟩,
  ⟨0x100, 64, 0x4, 1, 0x0, .ro, 0x0, [], false, false⟩,
  ⟨0x400, 1, 0x0, 1, 0x0, .rwl, 0x64, [⟨0, 32, .range 10 10000⟩], false, false⟩,
  ⟨0x404, 1, 0x0, 1, 0x0, .rwl, 0x3E8, [⟨0, 32, .range 100 60000⟩], false, false⟩,
  ⟨0x408, 1, 0x0, 1, 0x0, .rwl, 0x4, [⟨0, 3, .range 1 4⟩], false, false⟩,
  ⟨0x40C, 1, 0x0, 1, 0x0, .rwl, 0x0, [⟨0, 32, .any⟩], false, false⟩,
  ⟨0x410, 1, 0x0, 1, 0x0, .rwl, 0x0, [⟨0, 32, .any⟩], false, false⟩,
  ⟨0x500, 64, 0x8, 1, 0x0, .rwl, 0x0, [⟨0, 16, .any⟩, ⟨16, 16, .any⟩], false, false⟩,
  ⟨0x504, 64, 0x8, 1, 0x0, .rwl, 0x0, [⟨0, 16, .any⟩, ⟨16, 8, .any⟩, ⟨24, 3, .any⟩, ⟨27, 1, .any⟩], false, false⟩
]

/-- The window registers of the WEAR page. -/
def rowsWear : List RegRow := [
  ⟨0x040, 1, 0x0, 1, 0x0, .rw, 0x1, [⟨0, 1, .any⟩, ⟨1, 1, .any⟩], false, false⟩,
  ⟨0x044, 1, 0x0, 1, 0x0, .ro, 0x0, [], false, false⟩,
  ⟨0x048, 1, 0x0, 1, 0x0, .ro, 0x0, [], false, false⟩,
  ⟨0x04C, 1, 0x0, 1, 0x0, .ro, 0x0, [], false, false⟩,
  ⟨0x050, 1, 0x0, 1, 0x0, .ro, 0x0, [], false, false⟩,
  ⟨0x054, 1, 0x0, 1, 0x0, .ro, 0x0, [], false, false⟩,
  ⟨0x058, 1, 0x0, 1, 0x0, .ro, 0x0, [], false, false⟩,
  ⟨0x05C, 1, 0x0, 1, 0x0, .wo, 0x0, [⟨0, 2, .any⟩, ⟨8, 6, .any⟩, ⟨31, 1, .any⟩], false, false⟩,
  ⟨0x060, 1, 0x0, 1, 0x0, .ro, 0x0, [], false, false⟩,
  ⟨0x400, 1, 0x0, 1, 0x0, .rwl, 0x24E, [⟨0, 10, .range 60 590⟩], false, false⟩,
  ⟨0x404, 1, 0x0, 1, 0x0, .rwl, 0x8, [⟨0, 5, .range 1 24⟩], false, false⟩
]

/-- The window registers of the TEL page. -/
def rowsTel : List RegRow := [
  ⟨0x040, 1, 0x0, 1, 0x0, .rw, 0x0, [⟨0, 1, .any⟩], false, false⟩,
  ⟨0x044, 1, 0x0, 1, 0x0, .rw, 0x3E8, [⟨0, 32, .range 100 60000⟩], false, false⟩,
  ⟨0x048, 1, 0x0, 1, 0x0, .rw, 0x0, [⟨0, 32, .mult 1048576 0 4294967295⟩], false, false⟩,
  ⟨0x04C, 1, 0x0, 1, 0x0, .rw, 0x0, [⟨0, 8, .any⟩], false, false⟩,
  ⟨0x050, 1, 0x0, 1, 0x0, .ro, 0x0, [], false, false⟩,
  ⟨0x054, 1, 0x0, 1, 0x0, .ro, 0x0, [], false, false⟩,
  ⟨0x058, 1, 0x0, 1, 0x0, .ro, 0x0, [], false, false⟩,
  ⟨0x05C, 1, 0x0, 1, 0x0, .rw, 0x0, [⟨0, 5, .any⟩, ⟨8, 2, .any⟩], false, false⟩,
  ⟨0x060, 1, 0x0, 1, 0x0, .ro, 0x0, [], false, false⟩,
  ⟨0x064, 1, 0x0, 1, 0x0, .rw, 0x0, [⟨0, 16, .any⟩], false, false⟩,
  ⟨0x068, 1, 0x0, 1, 0x0, .ro, 0x0, [], false, false⟩,
  ⟨0x06C, 1, 0x0, 1, 0x0, .rw, 0x3A, [⟨0, 7, .range 8 119⟩], false, false⟩
]

/-- The window registers of a family. -/
def PageFam.rows : PageFam → List RegRow
  | .glb => rowsGlb
  | .moor => rowsMoor
  | .lnd => rowsLnd
  | .haws => rowsHaws
  | .boot => rowsBoot
  | .logb => rowsLogb
  | .sec => rowsSec
  | .dom => rowsDom
  | .irq => rowsIrq
  | .gwy => rowsGwy
  | .pci => rowsPci
  | .sft => rowsSft
  | .dtm => rowsDtm
  | .eth => rowsEth
  | .ing => rowsIng
  | .dec => rowsDec
  | .atl => rowsAtl
  | .lay => rowsLay
  | .ins => rowsIns
  | .wbk => rowsWbk
  | .cart => rowsCart
  | .sig => rowsSig
  | .grt => rowsGrt
  | .gcol => rowsGcol
  | .seq => rowsSeq
  | .tlg => rowsTlg
  | .tp => rowsTp
  | .dmg => rowsDmg
  | .dch => rowsDch
  | .ras => rowsRas
  | .bmk => rowsBmk
  | .hkp => rowsHkp
  | .wear => rowsWear
  | .tel => rowsTel

end Sys2Proof.Machine
end

