-- ==== Sys2Proof/Machine/RegNames.lean ====
section
/-! DEFINITION. The register addresses by the manual's names (R10): a name without its instance digits
is a function of the page instance and of the register's own index. Addresses are register addresses
(page number times 0x1000 plus offset, R422). -/

namespace Sys2Proof.Machine.Reg

def PAGE_ID (page : Nat) : Nat := 0x1000 * page + 0x000
def PAGE_CAPS (page : Nat) : Nat := 0x1000 * page + 0x004
def PAGE_CTRL (page : Nat) : Nat := 0x1000 * page + 0x008
def PAGE_STATUS (page : Nat) : Nat := 0x1000 * page + 0x00C
def INT_RAW (page : Nat) : Nat := 0x1000 * page + 0x010
def INT_ENABLE (page : Nat) : Nat := 0x1000 * page + 0x014
def INT_PENDING (page : Nat) : Nat := 0x1000 * page + 0x018
def INT_FORCE (page : Nat) : Nat := 0x1000 * page + 0x01C
def ERR_CAPTURE0 (page : Nat) : Nat := 0x1000 * page + 0x020
def ERR_CAPTURE1 (page : Nat) : Nat := 0x1000 * page + 0x024
def ERR_CAPTURE2 (page : Nat) : Nat := 0x1000 * page + 0x028
def ERR_CAPTURE3 (page : Nat) : Nat := 0x1000 * page + 0x02C
def PAGE_OWNER (page : Nat) : Nat := 0x1000 * page + 0x030
def COMMIT_SEQ (page : Nat) : Nat := 0x1000 * page + 0x034
def COMMIT_PENDING (page : Nat) : Nat := 0x1000 * page + 0x038

def ETH_CTRL (i : Nat) : Nat := 0x21040 + 0x1000 * i
def ETH_STATUS (i : Nat) : Nat := 0x21044 + 0x1000 * i
def ETH_MAC_LO (i : Nat) : Nat := 0x21048 + 0x1000 * i
def ETH_MAC_HI (i : Nat) : Nat := 0x2104C + 0x1000 * i
def ETH_IPV4 (i : Nat) : Nat := 0x21050 + 0x1000 * i
def ETH_IPV6 (i j : Nat) : Nat := 0x21054 + 0x1000 * i + 0x4 * j
def ETH_VLAN (i : Nat) : Nat := 0x21064 + 0x1000 * i
def ETH_MAX_FRAME (i : Nat) : Nat := 0x21068 + 0x1000 * i
def ETH_MC_HASH (i j : Nat) : Nat := 0x21070 + 0x1000 * i + 0x4 * j
def ETH_RX_FRAMES (i : Nat) : Nat := 0x21090 + 0x1000 * i
def ETH_RX_ERR (i : Nat) : Nat := 0x21094 + 0x1000 * i
def ETH_RX_FILTERED (i : Nat) : Nat := 0x21098 + 0x1000 * i
def ETH_RX_PAUSE (i : Nat) : Nat := 0x2109C + 0x1000 * i
def ETH_FEC_CORR (i : Nat) : Nat := 0x210A0 + 0x1000 * i
def ETH_FEC_UNCORR (i : Nat) : Nat := 0x210A4 + 0x1000 * i
def ETH_LANE_MAP (i : Nat) : Nat := 0x21400 + 0x1000 * i
def ETH_EQ_OVR (i : Nat) : Nat := 0x21404 + 0x1000 * i
def ING_CTRL : Nat := 0x25040
def ING_CTX_CMD : Nat := 0x25044
def ING_CTX_STATUS : Nat := 0x25048
def ING_CLASS0_OPEN : Nat := 0x2504C
def ING_RTCP_INTERVAL : Nat := 0x25050
def ING_GROUP_CLOSE_LAG : Nat := 0x25054
def ING_UNMATCHED_COUNT : Nat := 0x25060
def ING_UNMATCHED_LAST : Nat := 0x25064
def ING_UNMATCHED_SSRC : Nat := 0x25068
def ING_STALE_GEN_COUNT : Nat := 0x2506C
def ING_BAD_RTP_COUNT : Nat := 0x25070
def ING_UNSUP_NAL_COUNT : Nat := 0x25074
def ING_DUP_PKT_COUNT : Nat := 0x25078
def ING_LATE_PKT_COUNT : Nat := 0x2507C
def ING_ASM_PARTIAL_COUNT : Nat := 0x25080
def ING_BUF_DROP_COUNT (j : Nat) : Nat := 0x25084 + 0x4 * j
def ING_SR_REFUSED_COUNT : Nat := 0x25094
def ING_GROUP_DUP_COUNT : Nat := 0x25098
def ING_GROUP_LATE_COUNT : Nat := 0x2509C
def ING_GROUP_CFG (j : Nat) : Nat := 0x25200 + 0x8 * j
def ING_GROUP_PHASE (j : Nat) : Nat := 0x25204 + 0x8 * j
def ING_BUF_RES0 : Nat := 0x25400
def ING_REORDER_WIN : Nat := 0x25404
def ING_SR_MAX_STEP : Nat := 0x25408
def DTM_CTRL : Nat := 0x20040
def DTM_SDO : Nat := 0x20044
def DTM_STATUS : Nat := 0x20048
def DTM_TIME_LO : Nat := 0x2004C
def DTM_TIME_HI : Nat := 0x20050
def DTM_TIME_FRAC : Nat := 0x20054
def DTM_OFFSET : Nat := 0x20058
def DTM_PATH_DELAY : Nat := 0x2005C
def DTM_FREQ_ADJ : Nat := 0x20060
def DTM_JUMP_LIMIT : Nat := 0x20064
def DTM_JUMP_PEND_LO : Nat := 0x20068
def DTM_JUMP_PEND_HI : Nat := 0x2006C
def DTM_STEP_APPROVE : Nat := 0x20070
def DTM_UTC_OFFSET : Nat := 0x20074
def DTM_GM_ID_LO : Nat := 0x20078
def DTM_GM_ID_HI : Nat := 0x2007C
def DTM_HOLD_TIME : Nat := 0x20080
def DTM_HOLD_DRIFT : Nat := 0x20084
def DTM_EXT_RX_LAT (j : Nat) : Nat := 0x20088 + 0x8 * j
def DTM_EXT_TX_LAT (j : Nat) : Nat := 0x2008C + 0x8 * j
def DTM_ASYM : Nat := 0x200A8
def DTM_PPS_OUT_CFG : Nat := 0x200AC
def DTM_PPS_OUT_OFFSET : Nat := 0x200B0
def DTM_PPS_IN_TS_LO : Nat := 0x200B4
def DTM_PPS_IN_TS_HI : Nat := 0x200B8
def DTM_PHASE_PERIOD : Nat := 0x200BC
def DTM_PHASE_OFFSET : Nat := 0x200C0
def DTM_FSYNC_CFG : Nat := 0x200C4
def DTM_TIME_SET_LO : Nat := 0x200C8
def DTM_TIME_SET_HI : Nat := 0x200CC
def DTM_MSG_DROP : Nat := 0x200D0
def DTM_KP : Nat := 0x20400
def DTM_KI : Nat := 0x20404
def DTM_LOCK_THRESH : Nat := 0x20408
def DTM_HOLD_AVG : Nat := 0x2040C
def DTM_HOLD_AGING : Nat := 0x20410
def DTM_ANN_TIMEOUT : Nat := 0x20414
def DTM_DELAY_FILT : Nat := 0x20418
def DTM_FREQ_FORCE : Nat := 0x2041C
def DEC_CTRL (i : Nat) : Nat := 0x40040 + 0x1000 * i
def DEC_STATUS (i : Nat) : Nat := 0x40044 + 0x1000 * i
def DEC_CORE_UTIL (i j : Nat) : Nat := 0x40050 + 0x1000 * i + 0x10 * j
def DEC_CORE_C0_BOOKED (i j : Nat) : Nat := 0x40054 + 0x1000 * i + 0x10 * j
def DEC_CORE_PICS (i j : Nat) : Nat := 0x40058 + 0x1000 * i + 0x10 * j
def DEC_CORE_ERRS (i j : Nat) : Nat := 0x4005C + 0x1000 * i + 0x10 * j
def DEC0_CFG : Nat := 0x40100
def DEC0_AGG_UTIL : Nat := 0x40104
def DEC0_C0_OVERBOOK : Nat := 0x40108
def DEC0_LAST_ERR : Nat := 0x4010C
def DEC0_CONCEAL_COUNT : Nat := 0x40110
def DEC0_SKIP_COUNT : Nat := 0x40114
def DEC0_RING_WAIT_COUNT : Nat := 0x40118
def DEC0_DROP_COUNT : Nat := 0x4011C
def DEC_CLASS_PERMIT (i : Nat) : Nat := 0x40400 + 0x1000 * i
def DEC0_C0_BUDGET : Nat := 0x40480
def DEC0_CORE_TIMEOUT : Nat := 0x40484
def DEC0_FILL : Nat := 0x40488
def DEC0_DEPTH_FILL : Nat := 0x4048C
def ATL_CTRL : Nat := 0x48040
def ATL_STORE_BASE_LO : Nat := 0x48044
def ATL_STORE_BASE_HI : Nat := 0x48048
def ATL_SLOT_SIZE : Nat := 0x4804C
def ATL_SHEET_CMD : Nat := 0x48050
def ATL_SHEET_STATUS : Nat := 0x48054
def ATL_ERR_OFFSET : Nat := 0x48058
def ATL_ERR_TILE : Nat := 0x4805C
def ATL_UDP_DONE_COUNT : Nat := 0x48060
def ATL_UDP_ABANDON_COUNT : Nat := 0x48064
def ATL_UDP_DROP_COUNT : Nat := 0x48068
def ATL_TILE_ERR_COUNT : Nat := 0x4806C
def ATL_TILE_ERR_LAST : Nat := 0x48070
def ATL_SLOT_CFG (j : Nat) : Nat := 0x48100 + 0x4 * j
def ATL_SLOT_STATE (j : Nat) : Nat := 0x48200 + 0x4 * j
def ATL_SLOT_COMMIT_SEQ (j : Nat) : Nat := 0x48300 + 0x4 * j
def ATL_CFG : Nat := 0x48400
def ATL_UDP_MAX_FRAG : Nat := 0x48404
def LAY_COMMIT : Nat := 0x60040
def LAY_COMMIT_MASK : Nat := 0x60044
def LAY_STATUS : Nat := 0x60048
def LAY_ERR : Nat := 0x6004C
def LAY_OWNER0 : Nat := 0x60050
def LAY_OWNER1 : Nat := 0x60054
def LAY_ACTIVE_BANK : Nat := 0x60058
def LAY_READY : Nat := 0x6005C
def LAY_FRAME_SEQ : Nat := 0x60060
def LAY_FRAME_STALE : Nat := 0x60064
def LAY_FRAME_PARTIAL : Nat := 0x60068
def LAY_FRAME_POISON : Nat := 0x6006C
def LAY_TAPS_REDUCED : Nat := 0x60070
def LAY_BACKGROUND : Nat := 0x60074
def LAY_REF_WHITE : Nat := 0x60078
def LAY_SAMPLE_OVF_COUNT : Nat := 0x6007C
def LAY_AUTO_TAPS : Nat := 0x60400
def LAY_CSC (j k : Nat) : Nat := 0x60410 + 0x20 * j + 0x4 * k
def INS_CTRL : Nat := 0x61040
def INS_STABLE_FRAMES : Nat := 0x61044
def INS_FLAT_MASK : Nat := 0x61048
def INS_USED : Nat := 0x6104C
def INS_FLATTEN_COUNT : Nat := 0x61050
def INS_UNFLATTEN_COUNT : Nat := 0x61054
def INS_NOROOM_COUNT : Nat := 0x61058
def INS_FETCH_LIMIT : Nat := 0x61400
def INS_FORCE_UNFLAT : Nat := 0x61404
def WBK_CTRL : Nat := 0x62040
def WBK_SIZE : Nat := 0x62044
def WBK_VIEW : Nat := 0x62048
def WBK_MIN_PERIOD : Nat := 0x6204C
def WBK_STRIDE : Nat := 0x62050
def WBK_CHROMA_OFFSET : Nat := 0x62054
def WBK_BUF_LO (j : Nat) : Nat := 0x62058 + 0x8 * j
def WBK_BUF_HI (j : Nat) : Nat := 0x6205C + 0x8 * j
def WBK_HOLD : Nat := 0x62070
def WBK_STATUS : Nat := 0x62074
def WBK_LAST_SEQ : Nat := 0x62078
def WBK_SKIP_COUNT : Nat := 0x6207C
def WBK_AREA_LO : Nat := 0x62400
def WBK_AREA_HI : Nat := 0x62404
def SIG_CTRL : Nat := 0x64040
def SIG_COMMIT : Nat := 0x64044
def SIG_STATUS : Nat := 0x64048
def SIG_MISMATCH_MASK : Nat := 0x6404C
def SIG_SKIP_COUNT : Nat := 0x64050
def SIGR_CFG (j : Nat) : Nat := 0x640C0 + 0x30 * j
def SIGR_RECT_LO (j : Nat) : Nat := 0x640C4 + 0x30 * j
def SIGR_RECT_HI (j : Nat) : Nat := 0x640C8 + 0x30 * j
def SIGR_VIEWS (j : Nat) : Nat := 0x640CC + 0x30 * j
def SIGR_EXPECT (j k : Nat) : Nat := 0x640D0 + 0x30 * j + 0x4 * k
def SIGR_VALUE (j : Nat) : Nat := 0x640E0 + 0x30 * j
def SIGR_FRAME (j : Nat) : Nat := 0x640E4 + 0x30 * j
def SIGR_MISMATCH_COUNT (j : Nat) : Nat := 0x640E8 + 0x30 * j
def SIG_TAP : Nat := 0x64400
def CART_CTRL : Nat := 0x63040
def CART_STATUS : Nat := 0x63044
def CART_DEADLINE : Nat := 0x63048
def CART_FAULT : Nat := 0x6304C
def CART_FAULT_PIN_EN : Nat := 0x63050
def CART_STORE_CRC : Nat := 0x63054
def CART_STORE_LAST : Nat := 0x63058
def CART_PROBE_LAST : Nat := 0x6305C
def CART_PROBE_VIEW : Nat := 0x63060
def CART_COMMIT_SEQ : Nat := 0x63064
def CART_HB_SEQ : Nat := 0x63068
def CART_HB_MISS_COUNT : Nat := 0x6306C
def CART_FAULT_FRAME : Nat := 0x63070
def CART_WHITE_GAIN : Nat := 0x63074
def CART_PROBE_SKIP_COUNT : Nat := 0x63078
def CART_STORE_ECC_COUNT : Nat := 0x6307C
def CART_PROBE_CFG : Nat := 0x63400
def CART_HB_RESYNC : Nat := 0x63404
def SFT_STATUS : Nat := 0x10040
def SFT_CRC_ERR_COUNT : Nat := 0x10044
def SFT_ABORT_COUNT : Nat := 0x10048
def SFT_REFUSED_COUNT : Nat := 0x1004C
def SFT_MISO_DRIVE : Nat := 0x10400
def SEQ_PMAP_VALIDATE : Nat := 0xC0300
def SEQ_PMAP_STATUS : Nat := 0xC0304
def SEQ_PMAP_ACTIVE_ID : Nat := 0xC0308
def SEQ_PMAP_ACTIVE_REV : Nat := 0xC030C
def SEQ_PMAP_ERR_OFFSET : Nat := 0xC0310
def SEQ_PMAP_GEOM_CRC : Nat := 0xC0314
def SEQ_PMAP_POS_FAULT_LO : Nat := 0xC0318
def SEQ_PMAP_POS_FAULT_HI : Nat := 0xC031C
def SEQ_PMAP_CLASS_L_LO : Nat := 0xC0320
def SEQ_PMAP_CLASS_L_HI : Nat := 0xC0324
def SEQ_PMAP_POS_OVR_LO : Nat := 0xC0400
def SEQ_PMAP_POS_OVR_HI : Nat := 0xC0404
def GRT_CTRL : Nat := 0x80040
def GRT_STATUS : Nat := 0x80044
def GRT_CLOCK_MHZ : Nat := 0x80048
def GRT_FLOOR_US : Nat := 0x8004C
def GRT_PLAN_COST_MAX : Nat := 0x80050
def GRT_LEAD_MIN : Nat := 0x80054
def GRT_LAT_TOL : Nat := 0x80058
def GRT_LINE_LATE_COUNT : Nat := 0x8005C
def GRT_LINE_MISS_COUNT : Nat := 0x80060
def GRT_LINE_MISS_LAST : Nat := 0x80064
def GRT_RETIRED_COUNT : Nat := 0x80068
def GRT_SHED_MASK : Nat := 0x8006C
def GRT_LEAD_IN : Nat := 0x80070
def GRT_BIST_PERIOD : Nat := 0x80074
def GRT_KERNEL_VER : Nat := 0x80078
def GRT_LEAD_CFG : Nat := 0x80400
def GRT_PLAN_EFF : Nat := 0x80404
def GRT_REBALANCE : Nat := 0x80408
def GRT_PORT_MAP (j : Nat) : Nat := 0x80410 + 0x4 * j
def GCOL_STATUS (i : Nat) : Nat := 0x81040 + 0x1000 * i
def GCOL_RETIRED_LO (i : Nat) : Nat := 0x81044 + 0x1000 * i
def GCOL_RETIRED_HI (i : Nat) : Nat := 0x81048 + 0x1000 * i
def GCOL_BIST_STATUS (i : Nat) : Nat := 0x8104C + 0x1000 * i
def GCOL_GANGS (i : Nat) : Nat := 0x81050 + 0x1000 * i
def GCOL_UTIL (i : Nat) : Nat := 0x81054 + 0x1000 * i
def GCOL_LS_ECC_COUNT (i : Nat) : Nat := 0x81058 + 0x1000 * i
def GCOL_RETIRE (i : Nat) : Nat := 0x81400 + 0x1000 * i
def GCOL_BIST_NOW (i : Nat) : Nat := 0x81404 + 0x1000 * i
def SEQ_FRAME_WINDOW : Nat := 0xC0040
def SEQ_GATE_CFG : Nat := 0xC0044
def SEQ_FRAME_SEQ : Nat := 0xC0048
def SEQ_GATE_TIME_LO : Nat := 0xC004C
def SEQ_GATE_TIME_HI : Nat := 0xC0050
def SEQ_GATE_CAUSE : Nat := 0xC0054
def SEQ_PERIOD_FLOOR : Nat := 0xC0058
def SEQ_LINE_PERIOD : Nat := 0xC005C
def SEQ_LAST_PERIOD : Nat := 0xC0060
def SEQ_LATE_MASK : Nat := 0xC0064
def SEQ_LATE_COUNT : Nat := 0xC0068
def SEQ_MODE_REQ : Nat := 0xC006C
def SEQ_MODE_STATUS : Nat := 0xC0070
def SEQ_CROSS_GAP : Nat := 0xC0074
def SEQ_CROSS_FAIL_LO : Nat := 0xC0078
def SEQ_CROSS_FAIL_HI : Nat := 0xC007C
def SEQ_C0_LAT_MAX : Nat := 0xC0080
def SEQ_C0_OVER_COUNT : Nat := 0xC0084
def SEQ_GATING_IGNORE : Nat := 0xC0440
def SEQ_GATE_FORCE : Nat := 0xC0444
def SEQ_RETRAIN_LIMIT : Nat := 0xC0448
def TLG_DISC_STATUS : Nat := 0xC1040
def TLG_DISCOVER : Nat := 0xC1044
def TLG_DRIVEN_LO : Nat := 0xC1048
def TLG_DRIVEN_HI : Nat := 0xC104C
def TLG_CAP_FAULT_LO : Nat := 0xC1050
def TLG_CAP_FAULT_HI : Nat := 0xC1054
def TLG_DISC_FAIL_LO : Nat := 0xC1058
def TLG_DISC_FAIL_HI : Nat := 0xC105C
def TLG_TRAIN_TIME : Nat := 0xC1400
def TLG_DOZE_MIN : Nat := 0xC1404
def TLG_SLEEP_MIN : Nat := 0xC1408
def TLG_REDISCOVER : Nat := 0xC140C
def TP_CTRL (i : Nat) : Nat := 0x100040 + 0x1000 * i
def TP_STATUS (i : Nat) : Nat := 0x100044 + 0x1000 * i
def TP_LANE_MAP (i : Nat) : Nat := 0x100048 + 0x1000 * i
def TP_LANE_MAP_HI (i : Nat) : Nat := 0x10004C + 0x1000 * i
def TP_LANE_ERR_LIMIT (i : Nat) : Nat := 0x100050 + 0x1000 * i
def TP_LINE_ERR_COUNT (i : Nat) : Nat := 0x100054 + 0x1000 * i
def TP_TILE_TEMP (i : Nat) : Nat := 0x100058 + 0x1000 * i
def TP_TILE_DRIVE (i : Nat) : Nat := 0x10005C + 0x1000 * i
def TP_LANE_ERR (i j : Nat) : Nat := 0x100060 + 0x1000 * i + 0x4 * j
def TP_BK_STATUS (i : Nat) : Nat := 0x100080 + 0x1000 * i
def TP_BK_SLIP (i : Nat) : Nat := 0x100084 + 0x1000 * i
def TP_MODE_ACK (i : Nat) : Nat := 0x100088 + 0x1000 * i
def TP_CAP (i j : Nat) : Nat := 0x1000C0 + 0x1000 * i + 0x4 * j
def TP_TX_FFE (i : Nat) : Nat := 0x100400 + 0x1000 * i
def TP_LANE_SWAP (i : Nat) : Nat := 0x100404 + 0x1000 * i
def DMG_STATUS (i : Nat) : Nat := 0x140040 + 0x1000 * i
def DMG_RANK_MAP_LO (i : Nat) : Nat := 0x140044 + 0x1000 * i
def DMG_RANK_MAP_HI (i : Nat) : Nat := 0x140048 + 0x1000 * i
def DMG_SR_IDLE (i : Nat) : Nat := 0x14004C + 0x1000 * i
def DMG_SR_COUNT (i : Nat) : Nat := 0x140050 + 0x1000 * i
def DMG_BW_RT (i : Nat) : Nat := 0x140054 + 0x1000 * i
def DMG_BW_NRT (i : Nat) : Nat := 0x140058 + 0x1000 * i
def DMG_RT_LAT_MAX (i : Nat) : Nat := 0x14005C + 0x1000 * i
def DMG_PAYBACK_COUNT (i : Nat) : Nat := 0x140060 + 0x1000 * i
def DMG_CHAIN_SPLIT_COUNT (i : Nat) : Nat := 0x140064 + 0x1000 * i
def DMG0_MAP_CFG : Nat := 0x140100
def DMG0_CAPACITY : Nat := 0x140104
def DMG0_DATA_RATE : Nat := 0x140108
def DMG0_LAT_TOL : Nat := 0x14010C
def DMG0_LAT_TOL_PLANE : Nat := 0x140110
def DMG0_ADDR_ERR_COUNT : Nat := 0x140114
def DMG0_ADDR_ERR_LAST : Nat := 0x140118
def DMG0_ADDR_ERR_SRC : Nat := 0x14011C
def DMG0_TRAIN_STATUS : Nat := 0x140120
def DMG_ARB_WEIGHTS (i : Nat) : Nat := 0x140400 + 0x1000 * i
def DMG_RT_URGENT (i : Nat) : Nat := 0x140404 + 0x1000 * i
def DMG_SR_MARGIN (i : Nat) : Nat := 0x140408 + 0x1000 * i
def DMG_SR_DISABLE (i : Nat) : Nat := 0x14040C + 0x1000 * i
def DMG_POSTPONE_MAX (i : Nat) : Nat := 0x140410 + 0x1000 * i
def DCH_STATUS (i : Nat) : Nat := 0x180040 + 0x1000 * i
def DCH_REFRESH (i : Nat) : Nat := 0x180044 + 0x1000 * i
def DCH_MR4 (i : Nat) : Nat := 0x180048 + 0x1000 * i
def DCH_TRAIN_MARGIN (i : Nat) : Nat := 0x18004C + 0x1000 * i
def DCH_TRAIN_COUNT (i : Nat) : Nat := 0x180050 + 0x1000 * i
def DCH_TRIM (i j : Nat) : Nat := 0x180400 + 0x1000 * i + 0x4 * j
def RAS_CTRL : Nat := 0x1C0040
def RAS_SCRUB_PERIOD : Nat := 0x1C0044
def RAS_STATUS : Nat := 0x1C0048
def RAS_CE_COUNT : Nat := 0x1C004C
def RAS_UE_COUNT : Nat := 0x1C0050
def RAS_POISON_READS : Nat := 0x1C0054
def RAS_UE_ADDR_LO : Nat := 0x1C0058
def RAS_UE_ADDR_HI : Nat := 0x1C005C
def RAS_UE_FRAME : Nat := 0x1C0060
def RAS_SCRUB_PROGRESS : Nat := 0x1C0064
def RAS_SCRUB_PASSES : Nat := 0x1C0068
def RAS_GRP_STATE (j : Nat) : Nat := 0x1C0080 + 0x4 * j
def RAS_RANK_SEL : Nat := 0x1C00A0
def RAS_RANK_CE : Nat := 0x1C00A4
def RAS_RANK_UE : Nat := 0x1C00A8
def RAS_CE_LIMIT : Nat := 0x1C0400
def RAS_CE_WINDOW : Nat := 0x1C0404
def RAS_MIG_RATE : Nat := 0x1C0408
def RAS_MIG_CMD : Nat := 0x1C040C
def RAS_INJECT_LO : Nat := 0x1C0410
def RAS_INJECT_HI : Nat := 0x1C0414
def MOOR_STATUS : Nat := 0x1040
def MOOR_PREFERRED : Nat := 0x1044
def MOOR_GAP_MODE : Nat := 0x1048
def MOOR_DRILL : Nat := 0x104C
def MOOR_DRILL_STATUS : Nat := 0x1050
def MOOR_REVERT : Nat := 0x1054
def MOOR_REVERT_COUNT : Nat := 0x1058
def MOOR_TAKEOVER_SEQ : Nat := 0x105C
def MOOR_TAKEOVER_INFO : Nat := 0x1060
def MOOR_LAST_COPY_SEQ : Nat := 0x1064
def MOOR_TAKEOVER_COUNT : Nat := 0x1068
def MOOR_SWAP_COUNT : Nat := 0x106C
def MOOR_PATH_FAULT_COUNT : Nat := 0x1070
def MOOR_REVERT_HOLDOFF : Nat := 0x1400
def MOOR_DRILL_DUE_H : Nat := 0x1404
def MOOR_HB_TEST : Nat := 0x1408
def LND_STATUS (i : Nat) : Nat := 0x2040 + 0x1000 * i
def LND_CTRL (i : Nat) : Nat := 0x2044 + 0x1000 * i
def LND_FW_VER (i : Nat) : Nat := 0x2048 + 0x1000 * i
def LND_COPY_FMT (i : Nat) : Nat := 0x204C + 0x1000 * i
def LND_HB_MISS (i : Nat) : Nat := 0x2050 + 0x1000 * i
def LND_RESTARTS (i : Nat) : Nat := 0x2054 + 0x1000 * i
def HAWS_STATUS : Nat := 0x4040
def HAWS_COPY_BYTES : Nat := 0x4044
def HAWS_COPY_TIME : Nat := 0x4048
def HAWS_COPY_MAX : Nat := 0x404C
def HAWS_COPY_ABORT_COUNT : Nat := 0x4050
def HAWS_CRC_ERR_COUNT : Nat := 0x4054
def HAWS_EQ_OVR : Nat := 0x4400
def BOOT_STATUS : Nat := 0x5040
def BOOT_A_STATE : Nat := 0x5044
def BOOT_B_STATE : Nat := 0x5048
def BOOT_A_REASON : Nat := 0x504C
def BOOT_B_REASON : Nat := 0x5050
def BOOT_A_IMAGE : Nat := 0x5054
def BOOT_B_IMAGE : Nat := 0x5058
def BOOT_FIRST_LIGHT_US : Nat := 0x505C
def BOOT_PCIE_READY_US : Nat := 0x5060
def BOOT_FLASH_VERIFY : Nat := 0x5064
def BOOT_FLASH_STATUS : Nat := 0x5068
def BOOT_SLIPWAY_CMD : Nat := 0x5400
def SEC_STATUS : Nat := 0x7040
def SEC_ROLLBACK : Nat := 0x7044
def SEC_KEYHASH (j k : Nat) : Nat := 0x7080 + 0x20 * j + 0x4 * k
def SEC_FUSE_CMD : Nat := 0x7400
def SEC_FUSE_RESULT : Nat := 0x7404
def LOGB_STATUS : Nat := 0x6040
def LOGB_SEQ : Nat := 0x6044
def LOGB_BANK_GEN : Nat := 0x6048
def LOGB_COMPACT_COUNT : Nat := 0x604C
def LOGB_ERASE_MIN : Nat := 0x6050
def LOGB_ERASE_MAX : Nat := 0x6054
def LOGB_REPLAY : Nat := 0x6058
def LOGB_READ_SEL : Nat := 0x605C
def LOGB_DROP_COUNT : Nat := 0x6060
def LOGB_NOTE (j : Nat) : Nat := 0x6070 + 0x4 * j
def LOGB_NOTE_GO : Nat := 0x6080
def LOGB_COMPACT_AT : Nat := 0x6400
def LOGB_COMPACT_NOW : Nat := 0x6404
def WEAR_CTRL : Nat := 0x1C3040
def WEAR_STATUS : Nat := 0x1C3044
def WEAR_GAIN_SEQ : Nat := 0x1C3048
def WEAR_LAST_SEQ : Nat := 0x1C304C
def WEAR_MAX_DRIVE : Nat := 0x1C3050
def WEAR_MAX_BLOCK : Nat := 0x1C3054
def WEAR_GAIN_MAX : Nat := 0x1C3058
def WEAR_CMD : Nat := 0x1C305C
def WEAR_CMD_STATUS : Nat := 0x1C3060
def WEAR_DELTA_S : Nat := 0x1C3400
def WEAR_SNAP_H : Nat := 0x1C3404
def HKP_STATUS : Nat := 0x1C2040
def HKP_HOTTEST : Nat := 0x1C2044
def HKP_ROUND_COUNT : Nat := 0x1C2048
def HKP_SHUT_CAUSE : Nat := 0x1C204C
def HKP_WARN_LO : Nat := 0x1C2050
def HKP_WARN_HI : Nat := 0x1C2054
def HKP_THROT_LO : Nat := 0x1C2058
def HKP_THROT_HI : Nat := 0x1C205C
def HKP_BROKEN_LO : Nat := 0x1C2060
def HKP_BROKEN_HI : Nat := 0x1C2064
def HKP_STALE_LO : Nat := 0x1C2068
def HKP_STALE_HI : Nat := 0x1C206C
def HKP_THR_TIME : Nat := 0x1C2070
def HKP_CH_READING (j : Nat) : Nat := 0x1C2100 + 0x4 * j
def HKP_THR_STEP_MS : Nat := 0x1C2400
def HKP_THR_RELAX_MS : Nat := 0x1C2404
def HKP_THR_MAX_LEVEL : Nat := 0x1C2408
def HKP_MASK_LO : Nat := 0x1C240C
def HKP_MASK_HI : Nat := 0x1C2410
def HKP_CH_THR0 (j : Nat) : Nat := 0x1C2500 + 0x8 * j
def HKP_CH_THR1 (j : Nat) : Nat := 0x1C2504 + 0x8 * j
def BMK_CTRL : Nat := 0x1C1040
def BMK_DELTA_T : Nat := 0x1C1044
def BMK_CMD : Nat := 0x1C1048
def BMK_STATUS : Nat := 0x1C104C
def BMK_SEL : Nat := 0x1C1050
def BMK_QUAL : Nat := 0x1C1054
def BMK_CAL_COUNT : Nat := 0x1C1058
def BMK_RETRY_S : Nat := 0x1C1400
def BMK_FLOOR : Nat := 0x1C1404
def BMK_TRIM (j : Nat) : Nat := 0x1C1410 + 0x4 * j
def TEL_CTRL : Nat := 0x1C4040
def TEL_PERIOD_MS : Nat := 0x1C4044
def TEL_RING_BASE_LO : Nat := 0x1C4048
def TEL_RING_BASE_HI : Nat := 0x1C404C
def TEL_RING_HEAD : Nat := 0x1C4050
def TEL_POWERED_S : Nat := 0x1C4054
def TEL_OUTPUT_S : Nat := 0x1C4058
def TEL_HIST_SEL : Nat := 0x1C405C
def TEL_HIST_DATA : Nat := 0x1C4060
def TEL_QID_SEL : Nat := 0x1C4064
def TEL_QID_COUNT : Nat := 0x1C4068
def TEL_SMB_ADDR : Nat := 0x1C406C
def PCI_LINK_STATUS (i : Nat) : Nat := 0xE040 + 0x1000 * i
def PCI_ID (i : Nat) : Nat := 0xE044 + 0x1000 * i
def PCI_AER_COUNT (i : Nat) : Nat := 0xE048 + 0x1000 * i
def PCI_VEC_SEL (i : Nat) : Nat := 0xE04C + 0x1000 * i
def PCI_VEC_MAP (i : Nat) : Nat := 0xE050 + 0x1000 * i
def PCI_VEC_EOI (i : Nat) : Nat := 0xE054 + 0x1000 * i
def PCI_VEC_PEND_LO (i : Nat) : Nat := 0xE058 + 0x1000 * i
def PCI_VEC_PEND_HI (i : Nat) : Nat := 0xE05C + 0x1000 * i
def PCI_VEC_HOLDOFF (i : Nat) : Nat := 0xE400 + 0x1000 * i
def PCI_EQ_OVR (i : Nat) : Nat := 0xE404 + 0x1000 * i
def DOM_OWN_CMD : Nat := 0x8040
def DOM_OWN_STATUS : Nat := 0x8044
def DOM_READ_SHARE : Nat := 0x8048
def DOM_DENY_COUNT : Nat := 0x804C
def DOM_DENY_LAST : Nat := 0x8050
def DOM_DRAM_F_BASE : Nat := 0x8054
def DOM_DRAM_WIN_BASE (j : Nat) : Nat := 0x8100 + 0x10 * j
def DOM_DRAM_WIN_SIZE (j : Nat) : Nat := 0x8104 + 0x10 * j
def DOM_DRAM_WIN_OWNER (j : Nat) : Nat := 0x8108 + 0x10 * j
def DOM_LOCK_ALL : Nat := 0x8400
def GWY_CTRL (i : Nat) : Nat := 0xA040 + 0x1000 * i
def GWY_CFG (i : Nat) : Nat := 0xA044 + 0x1000 * i
def GWY_ADDR_LO (i : Nat) : Nat := 0xA048 + 0x1000 * i
def GWY_ADDR_HI (i : Nat) : Nat := 0xA04C + 0x1000 * i
def GWY_LEN (i : Nat) : Nat := 0xA050 + 0x1000 * i
def GWY_STRIDE (i : Nat) : Nat := 0xA054 + 0x1000 * i
def GWY_STATUS (i : Nat) : Nat := 0xA058 + 0x1000 * i
def GWY_MOVED (i : Nat) : Nat := 0xA05C + 0x1000 * i
def GWY_DATA (i : Nat) : Nat := 0xA060 + 0x1000 * i
def GWY_DATA_HI (i : Nat) : Nat := 0xA064 + 0x1000 * i
def GWY_ERR_ADDR_LO (i : Nat) : Nat := 0xA068 + 0x1000 * i
def GWY_ERR_ADDR_HI (i : Nat) : Nat := 0xA06C + 0x1000 * i
def GWY_PREFETCH (i : Nat) : Nat := 0xA400 + 0x1000 * i
def IRQ_NEXT : Nat := 0x9040
def IRQ_PEND_COUNT : Nat := 0x9044
def IRQ_S_PIN : Nat := 0x9048
def GLB_CHIP_ID : Nat := 0x40
def GLB_REV : Nat := 0x44
def GLB_MAP_VERSION : Nat := 0x48
def GLB_SERIAL_LO : Nat := 0x4C
def GLB_SERIAL_HI : Nat := 0x50
def GLB_SERIAL_ASCII (j : Nat) : Nat := 0x54 + 0x4 * j
def GLB_WHOAMI : Nat := 0x64
def GLB_UPTIME_S : Nat := 0x68
def GLB_PAGE_COUNT : Nat := 0x6C

end Sys2Proof.Machine.Reg

namespace Sys2Proof.Machine.Page

def GLB : Nat := 0x000
def MOOR : Nat := 0x001
def LND (i : Nat) : Nat := 0x002 + i
def HAWS : Nat := 0x004
def BOOT : Nat := 0x005
def LOGB : Nat := 0x006
def SEC : Nat := 0x007
def DOM : Nat := 0x008
def IRQ : Nat := 0x009
def GWY (i : Nat) : Nat := 0x00A + i
def PCI (i : Nat) : Nat := 0x00E + i
def SFT : Nat := 0x010
def DTM : Nat := 0x020
def ETH (i : Nat) : Nat := 0x021 + i
def ING : Nat := 0x025
def DEC (i : Nat) : Nat := 0x040 + i
def ATL : Nat := 0x048
def LAY : Nat := 0x060
def INS : Nat := 0x061
def WBK : Nat := 0x062
def CART : Nat := 0x063
def SIG : Nat := 0x064
def GRT : Nat := 0x080
def GCOL (i : Nat) : Nat := 0x081 + i
def SEQ : Nat := 0x0C0
def TLG : Nat := 0x0C1
def TP (i : Nat) : Nat := 0x100 + i
def DMG (i : Nat) : Nat := 0x140 + i
def DCH (i : Nat) : Nat := 0x180 + i
def RAS : Nat := 0x1C0
def BMK : Nat := 0x1C1
def HKP : Nat := 0x1C2
def WEAR : Nat := 0x1C3
def TEL : Nat := 0x1C4

end Sys2Proof.Machine.Page
end

