-- ==== Sys2Proof/Machine/RegReset.lean ====
section
/-! DEFINITION. Which register stands at an address, its access type and its reset value (R12, R422 to
R424), with the resets that depend on the device: GLB_REV, the serial number, the housekeeping
thresholds (R1, R389, R436). -/

namespace Sys2Proof.Machine

/-- What differs from device to device: the grade fuse, the serial number (R436), and the VDDIO_SFT
level sensed when PWRGOOD rises (R445; true for 3.3 V). -/
structure Device where
  xb : Bool
  serial : Nat
  sft3v3 : Bool
  deriving DecidableEq, Repr

/-- The page family and the page's index in it (R423). -/
def famOfPage (page : Nat) : Option (PageFam × Nat) :=
  match allPageFams.find? (fun f => f.base ≤ page && page < f.base + f.count) with
  | some f => some (f, page - f.base)
  | none => none

/-- Whether the page is one of the 213 populated pages (R423). -/
def populated (page : Nat) : Bool := (famOfPage page).isSome

/-- Whether a row of a register table covers a page offset. -/
def RegRow.covers (r : RegRow) (off : Nat) : Bool :=
  if off < r.off then false
  else
    let d := off - r.off
    let i := if r.st1 = 0 then 0 else d / r.st1
    let rem := if r.st1 = 0 then d else d % r.st1
    let j := if r.st2 = 0 then 0 else rem / r.st2
    let rem2 := if r.st2 = 0 then rem else rem % r.st2
    decide (i < r.n1) && decide (j < r.n2) && decide (rem2 = 0)

/-- The table row of a window register, if there is one at the address. -/
def rowAt (a : Nat) : Option RegRow :=
  match famOfPage (a / 0x1000) with
  | none => none
  | some (f, i) => f.rows.find? (fun r => r.covers (a % 0x1000) && (!r.only0 || i = 0))

/-- An upper-case hexadecimal digit in ASCII. -/
def hexAscii (d : Nat) : Nat := if d < 10 then 0x30 + d else 0x37 + d

/-- Register j of GLB_SERIAL_ASCII0 to 3: digits 4j to 4j + 3, most significant digit first (R436). -/
def serialAscii (serial j : Nat) : Nat :=
  let dig := fun k => hexAscii ((serial >>> (4 * (15 - k))) % 16)
  dig (4 * j) + dig (4 * j + 1) * 0x100 + dig (4 * j + 2) * 0x10000 + dig (4 * j + 3) * 0x1000000

/-- The default warning and throttle thresholds of channel c, in the channel's unit (R389). -/
def hkpThr0 (d : Device) (c : Nat) : Nat :=
  let t (w th : Nat) : Nat := w + th * 0x10000
  if c ≤ 47 then (if d.xb then t 0x0690 0x0700 else t 0x05F0 0x0670)
  else match c with
    | 48 => t 713 0 | 49 => t 760 0 | 50 => t 760 0 | 51 => t 760 0 | 52 => t 475 0
    | 53 => t 998 0 | 54 => t 855 0 | 55 => t 1140 0 | 56 => t 1710 0
    | 57 => t (if d.sft3v3 then 3135 else 1710) 0 | 58 => t 1140 0
    | 59 => t 10000 10500 | 60 => t 10000 0 | 61 => t 4500 0 | 62 => t 3000 0
    | 63 => t 2450 2500 | _ => 0

/-- The default shutdown threshold, hysteresis, enables and direction of channel c (R389). -/
def hkpThr1 (d : Device) (c : Nat) : Nat :=
  let t (sh hy en dir : Nat) : Nat := sh + hy * 0x10000 + en * 0x1000000 + dir * 0x8000000
  if c ≤ 47 then (if d.xb then t 0x07A0 0x30 7 0 else t 0x0730 0x30 7 0)
  else if c ≤ 58 then t 0 10 1 1
  else match c with
    | 59 => t 0 200 3 0 | 60 => t 0 200 1 0 | 61 => t 0 200 1 0 | 62 => t 0 200 1 0
    | 63 => t 0 50 3 0 | _ => 0

/-- The reset value of the register at an address; the header's registers that hold a state reset to 0
(R424), SEC_STATUS.GRADE shows the grade fuse, and an address without a register reads 0 (R406). -/
def regReset (d : Device) (a : Nat) : W32 :=
  if a = Reg.GLB_REV then (if d.xb then 0x1B0 else 0xB0)
  else if a = Reg.SEC_STATUS then (if d.xb then 0x40 else 0)
  else if a = Reg.GLB_SERIAL_LO then BitVec.ofNat 32 d.serial
  else if a = Reg.GLB_SERIAL_HI then BitVec.ofNat 32 (d.serial / 2 ^ 32)
  else if Reg.GLB_SERIAL_ASCII 0 ≤ a ∧ a ≤ Reg.GLB_SERIAL_ASCII 3 then
    BitVec.ofNat 32 (serialAscii d.serial ((a - Reg.GLB_SERIAL_ASCII 0) / 4))
  else if Reg.HKP_CH_THR0 0 ≤ a ∧ a < Reg.HKP_CH_THR0 64 then
    let o := a - Reg.HKP_CH_THR0 0
    BitVec.ofNat 32 (if o % 8 = 0 then hkpThr0 d (o / 8) else if o % 8 = 4 then hkpThr1 d (o / 8) else 0)
  else match rowAt a with
    | some r => BitVec.ofNat 32 r.reset
    | none => 0

/-- The defined bits of a register: the union of its fields, with reserved bits clear (R13). -/
def fieldMask (fs : List RegField) : Nat :=
  fs.foldl (fun m f => m ||| ((2 ^ f.width - 1) <<< f.lo)) 0

/-- Whether a field's value is one the manual gives a meaning (R462). -/
def FieldRule.admits (r : FieldRule) (v : Nat) : Bool :=
  match r with
  | .any => true
  | .range lo hi => decide (lo ≤ v) && decide (v ≤ hi)
  | .zeroOr lo hi => decide (v = 0) || (decide (lo ≤ v) && decide (v ≤ hi))
  | .mult m lo hi => decide (v % m = 0) && decide (lo ≤ v) && decide (v ≤ hi)

/-- Whether every field of a written value is in range (R462). -/
def fieldsAdmit (fs : List RegField) (v : Nat) : Bool :=
  fs.all (fun f => f.rule.admits (bits v (f.lo + f.width - 1) f.lo))

/-- INT_RAW bits below 31 that R428 assigns in a page. -/
def intMask (page : Nat) : Nat :=
  match famOfPage page with
  | some (f, i) => 2 ^ f.intSpan i - 1 + 2 ^ 31
  | none => 0

/-- Default owner of a page (R423): CART and SFT to S, GWYn and PCIq to their domains, others to P0. -/
def defaultOwner (page : Nat) : Dom :=
  if page = Page.CART ∨ page = Page.SFT then .s
  else if Page.GWY 0 ≤ page ∧ page < Page.GWY 4 then Dom.ofCode (page - Page.GWY 0)
  else if page = Page.PCI 1 then .p1 else .p0

/-- Pages whose OWNER cannot change (R408). -/
def fixedPage (page : Nat) : Bool :=
  decide (page = Page.CART) || (decide (Page.GWY 0 ≤ page) && decide (page < Page.GWY 4)) ||
  decide (page = Page.PCI 0) || decide (page = Page.PCI 1)

/-- The default MSI-X vector of a page (R420). -/
def defaultVector (page : Nat) : Nat :=
  match famOfPage page with
  | none => 0
  | some (f, _) => match f with
    | .glb | .boot | .sec | .logb | .dom | .irq => 0
    | .moor | .lnd | .haws => 1
    | .gwy => 2
    | .pci => 3
    | .dtm => 4
    | .eth => 5
    | .ing => 6
    | .dec => 7
    | .atl => 8
    | .lay => 9
    | .ins | .wbk | .sig => 10
    | .cart | .sft => 11
    | .grt | .gcol => 12
    | .seq => 13
    | .tlg | .tp => 14
    | .dmg | .dch => 15
    | .ras => 16
    | .hkp | .bmk => 17
    | .wear | .tel => 18

end Sys2Proof.Machine
end

