-- ==== Sys2Proof/Machine/TypesHost.lean ====
section
/-! DEFINITION. State types of the pages' header and the PCIe endpoints (R404 to R420, R424 to R435). -/

namespace Sys2Proof.Machine

/-- What a page's header holds beside its registers: the lock of the expert window (R434), the LOST
mark (R429), the owner and the LOCK of the ownership table (R408, R409). -/
structure PageState where
  unlocked : Bool
  lost : Bool
  owner : Dom
  lock : Bool
  deriving DecidableEq, Repr

/-- The header state of a page after RESET_N (R408, R434). -/
def pageReset (page : Nat) : PageState :=
  { unlocked := false, lost := false, owner := defaultOwner page, lock := false }

/-- One PCIe endpoint (R404 to R407, R420). The link's speed, width, DL_ACTIVE and D3HOT stand in
PCIq_LINK_STATUS. -/
structure Endpoint where
  /-- Pages whose vector was written, with the vector (PCIq_VEC_MAP); the others read their default. -/
  vecMap : List (Nat × Nat) := []
  /-- Vectors whose MSI-X mask is clear. -/
  unmasked : List Nat := []
  /-- The Pending Bit Array. -/
  pba : List Nat := []
  /-- Time of each vector's last message. -/
  lastMsg : List (Nat × Nat) := []
  /-- Vectors whose message is held back by PCIq_VEC_HOLDOFF. -/
  heldBack : List Nat := []
  /-- Pending vectors that the endpoint has acted on: sent, set in the Pending Bit Array, or held back (R420). -/
  told : List Nat := []
  /-- Bus Master Enable (R407). -/
  busMaster : Bool := false
  /-- Ready for configuration (R351). -/
  ready : Bool := false
  /-- PCIq_PERST_N is held low (R348). -/
  perst : Bool := false
  /-- Instant by which the endpoint is ready after PERST_N rose (R349, R351). -/
  readyBy : Option Nat := none
  deriving DecidableEq, Repr

end Sys2Proof.Machine
end

