-- ==== Sys2Proof/Machine/TypesIngest.lean ====
section
/-! DEFINITION. State types of network ingest, alignment groups and the decoder (R49 to R112). The
stream context table itself is bytes; what the device keeps beside it stands here. -/

namespace Sys2Proof.Machine

/-- A received RTP packet of an access unit in assembly (R59). -/
structure RxPkt where
  seq : Nat
  marker : Bool
  nalType : Nat
  nals : List NalD
  fuStart : Bool
  fuEnd : Bool
  bytes : Nat
  /-- Its NAL units went to the decoder. -/
  taken : Bool
  deriving DecidableEq, Repr

/-- An access unit in assembly (R59 to R61). -/
structure AccessUnit where
  ts : Nat
  /-- MAC receive time of its first-arrived packet. -/
  first : Nat
  /-- Its assembly deadline, Datum time. -/
  deadline : Nat
  /-- Its packets in ascending sequence order. -/
  pkts : List RxPkt
  gen : Nat
  /-- MAC receive time of its last packet so far. -/
  last : Nat := 0
  deriving DecidableEq, Repr

/-- A slice segment that waits or is being decoded: arrival order, samples, bytes of bitstream, active
decode time so far. -/
structure SliceD where
  arrival : Nat
  samples : Nat
  bytes : Nat
  activeNs : Nat
  deriving DecidableEq, Repr

/-- A picture's decode job (R94 to R99). -/
structure DecJob where
  ts : Nat
  gen : Nat
  irap : Bool
  slices : List SliceD
  /-- Core it is placed on. -/
  core : Option Nat
  /-- Its output ring slot. -/
  slot : Option Nat
  /-- It waits for a ring slot (R103). -/
  ringWait : Bool
  /-- A slice of it has begun. -/
  begun : Bool
  /-- MAC receive time of its access unit's first packet. -/
  firstRx : Nat
  /-- Its access unit was handed on, with its capture time (R61, R65). -/
  handed : Option Nat
  /-- CTUs are concealed (R108). -/
  partialPic : Bool
  taint : Bool
  poison : Bool
  /-- Dropped without output, with the code of R110; 0 for none. -/
  drop : Nat
  /-- MAC receive time of its access unit's last packet (R237). -/
  lastRx : Nat := 0
  deriving DecidableEq, Repr

/-- An accepted SPS (R92). -/
structure SpsRec where
  width : Nat
  height : Nat
  chromaIdc : Nat
  bits : Nat
  views : Nat
  format : Nat
  deriving DecidableEq, Repr

/-- An output ring slot as the device keeps it (R101 to R105). -/
structure RingSlot where
  /-- 0 FREE, 1 DECODING, 2 READY, 3 HELD. -/
  st : Nat := 0
  /-- DRAM address of its buffer. -/
  base : Nat := 0
  ts : Nat := 0
  capture : Nat := 0
  doneAt : Nat := 0
  gen : Nat := 0
  partialPic : Bool := false
  taint : Bool := false
  depthStale : Bool := false
  poison : Bool := false
  width : Nat := 0
  height : Nat := 0
  format : Nat := 0
  views : Nat := 0
  bits : Nat := 0
  depthSlot : Nat := 0xFF
  picSeq : Nat := 0
  /-- When it became READY (R223), and the MAC receive time of its last packet (R237). -/
  readyAt : Nat := 0
  lastRx : Nat := 0
  /-- FRAME_SEQ of the frames that use it. -/
  holders : List Nat := []
  /-- Retained at CLOSE until the next generation's first READY picture (R105). -/
  retained : Bool := false
  deriving DecidableEq, Repr

/-- A colour picture that is complete and waits for its depth picture (R107). -/
structure PairWait where
  slot : Nat
  ts : Nat
  deadline : Nat
  deriving DecidableEq, Repr

/-- What the device keeps for one stream context beside its table entry. -/
structure CtxRun where
  aus : List AccessUnit := []
  jobs : List DecJob := []
  /-- Newest sequence number received. -/
  newest : Option Nat := none
  /-- Sequence numbers received of late, for the repeat test (R60). -/
  recent : List Nat := []
  /-- RTP timestamp of the newest access unit handed on. -/
  handedTs : Option Nat := none
  /-- The sequence number that begins the next access unit, when the marker before it was seen. -/
  nextFirst : Option Nat := none
  /-- RFC 3550 counts: first sequence number, extended highest, packets received, and the two priors of
  the last receiver report. -/
  baseSeq : Nat := 0
  extSeq : Nat := 0
  received : Nat := 0
  expectedPrior : Nat := 0
  receivedPrior : Nat := 0
  /-- Interarrival jitter times 16, in TS_RATE_HZ units. -/
  jitter16 : Nat := 0
  /-- Arrival (in timestamp units) and timestamp of the latest packet. -/
  lastTransit : Option Int := none
  /-- Port, source MAC and IP of the latest datagram (R63). -/
  src : Option (Nat × Nat × Nat) := none
  /-- Middle 32 bits of the last sender report's NTP time, and when it came. -/
  lastSr : Option (Nat × Nat) := none
  /-- When the next receiver report is due. -/
  rrAt : Nat := 0
  /-- A mapping set by an accepted sender report is in place (R65). -/
  srMapped : Bool := false
  sps : Option SpsRec := none
  /-- The last SPS was refused; pictures are dropped with this code (R92); 0 for none. -/
  refused : Nat := 0
  resync : Bool := false
  home : Option Nat := none
  rc : Nat := 0
  overbooked : Bool := false
  rebook : Bool := false
  ring : List RingSlot := [{}, {}, {}]
  bufBase : List Nat := [0, 0, 0]
  bufSize : Nat := 0
  dpbSize : Nat := 0
  picSeq : Nat := 0
  pairWait : List PairWait := []
  deriving DecidableEq, Repr

/-- One member's picture in a group instance (R66, R67): context, ring slot and its picture number. -/
structure GroupPic where
  ctx : Nat
  slot : Nat
  picSeq : Nat
  /-- Taken from an earlier window because its own was missing. -/
  missing : Bool
  deriving DecidableEq, Repr

/-- A group instance (R66, R67): window [start, stop) and its close deadline, Datum time. -/
structure GroupInst where
  start : Int
  stop : Int
  deadline : Int
  pics : List GroupPic
  partialInst : Bool
  /-- Serial number of the instance among those complete or closed. -/
  serial : Nat
  /-- When it completed or closed (R223). -/
  doneAt : Nat := 0
  deriving DecidableEq, Repr

/-- An alignment group (R66 to R68). -/
structure GroupSt where
  opens : List GroupInst := []
  /-- The newest complete or closed instance, which layers take. -/
  latest : Option GroupInst := none
  /-- The record of the newest instance's window start, for lateness (R67, R82). -/
  newest : Option Int := none
  /-- Window and phase that hold for windows that begin at or after `from_` (R69). -/
  width : Nat := 1000000
  phase : Nat := 0
  from_ : Nat := 0
  /-- Windows that begin before this instant form no instance: EN was set then (R68). -/
  enFrom : Nat := 0
  /-- Window and phase before that. -/
  oldWidth : Nat := 1000000
  oldPhase : Nat := 0
  serial : Nat := 0
  deriving DecidableEq, Repr

/-- What the classifier made of the latest received frame (R51). -/
inductive RxClass where
  | none | dropped | ptp | scene (ctx : Nat)
  deriving DecidableEq, Repr

/-- A decoder core (R94 to R97, R111). -/
structure CoreSt where
  /-- Context whose picture's first waiting slice runs. -/
  run : Option Nat := none
  /-- When it began to run. -/
  since : Nat := 0
  /-- CORE_EN as it took effect at the last picture boundary (R111). -/
  enabled : Bool := true
  /-- It is being reset until this instant (R111). -/
  resetUntil : Nat := 0
  /-- Finished runs of the last second: end and length. -/
  recent : List (Nat × Nat) := []
  deriving DecidableEq, Repr

/-- Ingest and decode. -/
structure Ingest where
  ctxs : List (Nat × CtxRun) := []
  groups : List (Nat × GroupSt) := []
  cores : List (Nat × CoreSt) := []
  /-- Arrival order of slices. -/
  arrivals : Nat := 0
  lastRx : RxClass := .none
  deriving DecidableEq, Repr

end Sys2Proof.Machine
end

