-- ==== Sys2Proof/Machine/TypesLand.lean ====
section
/-! DEFINITION. State types of the Landings, the Mooring and boot (R15 to R27, R326 to R369, R463). What
LNDx, MOOR, HAWS, BOOT and SEC registers show stands in the registers themselves. -/

namespace Sys2Proof.Machine

/-- A firmware image as its Landing runs it (R355): FW_VERSION, COPY_FMT, SVN, key slots. -/
structure RunImage where
  fw : Nat
  copyFmt : Nat
  svn : Nat
  edSlot : Nat
  mlSlot : Nat
  deriving DecidableEq, Repr

/-- A state copy over the Hawser (R17, R332): the gate's FRAME_SEQ and gate time, the written frame-scoped
values, the pending commits with their values, the layers and Atlas slots whose commit is pending, and the
descriptor banks. -/
structure StateCopy where
  fs : Nat
  sentAt : Nat
  fmt : Nat
  written : List (Nat × W32)
  pend : List (Nat × W32)
  commits : List (Nat × Nat)
  layers : List (Nat × Nat)
  slots : List Nat
  layd : List Host.Cell
  /-- Count of writes of R334 when the copy was made. -/
  writes : Nat
  deriving DecidableEq, Repr

/-- One Landing. -/
structure LandingSt where
  /-- Last refresh of its lease; none while the lease is expired (R328). -/
  lease : Option Nat := none
  /-- It stopped its heartbeats (R327), by itself. -/
  fenced : Bool := false
  /-- Time of the last heartbeat of the peer, or of the last miss, on the Hawser pair and the mailbox. -/
  hbHaws : Nat := 0
  hbMail : Nat := 0
  /-- Consecutive misses on each path (R330). -/
  missHaws : Nat := 0
  missMail : Nat := 0
  /-- Heartbeats in a row on each path, for the clearing of a path fault. -/
  okHaws : Nat := 0
  okMail : Nat := 0
  /-- It sees a path fault on the Hawser pair, on the mailbox (R330). -/
  pathHaws : Bool := false
  pathMail : Bool := false
  /-- It declared its peer failed. -/
  peerFailed : Bool := false
  /-- No further claim after a dual path fault (R331). -/
  noClaim : Bool := false
  /-- Instant of its last reset (R345). -/
  resetAt : Nat := 0
  /-- LNDx_RESET_N is low. -/
  resetLow : Bool := false
  /-- Its rail is low (R449). -/
  railLow : Bool := false
  /-- Its reference is lost (R444). -/
  refLost : Bool := false
  /-- Start of the boot attempt that runs. -/
  attemptAt : Option Nat := none
  image : Option RunImage := none
  /-- The copy of the panel map area written last in its flash (R354). -/
  mapCopy : Nat := 1
  /-- Its newest complete copy. -/
  copy : Option StateCopy := none
  deriving DecidableEq, Repr

/-- A request of a domain on its port (R463): a register write or read, an access to a Gangway data port (8 bytes
where `hi` is there or `wide` is set), a TLP to the BAR2 window at an offset, or a safety port request. -/
inductive HostReq where
  | write (w : RegWrite)
  | read (d : Dom) (addr : Nat)
  | data (d : Dom) (ch : Nat) (lo : W32) (hi : Option W32)
  | dataRead (d : Dom) (ch : Nat) (wide : Bool)
  | apWrite (d : Dom) (offset : Nat) (bytes : List Byte) (poisoned : Bool)
  | apRead (d : Dom) (offset len : Nat)
  | safety (f : SafetyFrame)
  deriving DecidableEq, Repr

/-- The Mooring, the Hawser and boot. -/
structure Mooring where
  a : LandingSt := {}
  b : LandingSt := {}
  /-- Rise of PWRGOOD; none while it is low. -/
  pwrgoodAt : Option Nat := none
  /-- RESET_N is low. -/
  resetLow : Bool := false
  /-- t0 of R349. -/
  t0 : Nat := 0
  /-- A claim seen and still kept (R329): by A, by B. -/
  claimA : Option Nat := none
  claimB : Option Nat := none
  /-- The token was granted to no Landing since PWRGOOD rose (R329). -/
  powerFree : Bool := true
  /-- The claim window that runs, and its end (R329). -/
  window : Option (Landing × Nat) := none
  /-- A claim held for the preferred Landing (R329). -/
  heldClaim : Option Landing := none
  /-- The former holder, and its last lease refresh, from its lease expiry to the grant (R335). -/
  lastHolder : Option (Landing × Nat) := none
  /-- The former holder had fenced itself when it lost the token (R342). -/
  lastFenced : Bool := false
  /-- The copy under way to the standby. -/
  sending : Option StateCopy := none
  /-- Frame-scoped writes and commits delivered to the active Landing (R334). -/
  writes : Nat := 0
  /-- A planned swap at the gate whose copy is under way (R340). -/
  swapAtGate : Bool := false
  /-- A swap is wanted: 0 none, 1 drill, 2 drill return, 3 revert. -/
  swapWant : Nat := 0
  /-- A drill in progress: its original Landing, RETURN, WATCH_S (R341). -/
  drill : Option (Landing × Bool × Nat) := none
  /-- End of the drill's watch period. -/
  watchEnd : Option Nat := none
  /-- Since when AGE_H counts. -/
  ageFrom : Nat := 0
  /-- Since when the conditions of R343 hold. -/
  revertFrom : Option Nat := none
  /-- Completion times of reverts. -/
  reverts : List Nat := []
  /-- A planned swap was made after which no gate's copy is complete (R345). -/
  afterSwap : Bool := false
  /-- From when host requests bound for a Landing are held: lease expiry, or the gate of a swap (R463). -/
  hold : Bool := false
  /-- Domains whose hold ended by timeout (R463). -/
  holdOver : List Dom := []
  /-- Held requests with their arrival, oldest first. -/
  held : List (Nat × HostReq) := []
  /-- Firmware of the active Landing started bring-up (step 4 of R350). -/
  bringUp : Bool := false
  /-- Steps 7 to 11 of R350 done: Graticule BIST, discovery, memory, Logbook replay, ledger. -/
  grtDone : Bool := false
  discDone : Bool := false
  memDone : Bool := false
  logDone : Bool := false
  wearDone : Bool := false
  /-- The flash image check that runs: Landing, and whether it is by the Landing's own ROM (R368). -/
  verify : Option Landing := none
  /-- A fuse operation that runs: operation, argument (R360). -/
  fuse : Option (Nat × Nat) := none
  deriving DecidableEq, Repr

end Sys2Proof.Machine
end

