-- ==== Sys2Proof/Machine/TypesSeq.lean ====
section
/-! DEFINITION. State types of the panel map, the frame sequencer and the frames in flight (R39 to R48, R195
to R241). -/

namespace Sys2Proof.Machine

/-- One segment of a line (R194, R195). -/
structure SegRun where
  col : Nat
  /-- The engine that has it; none when its engine was retired and no engine of the gang is free yet (R212). -/
  engine : Option Nat
  /-- First local hogel column and hogel count. -/
  first : Nat
  count : Nat
  /-- When its engine started it. -/
  start : Nat
  /-- Its ray words, and the words of the signature tap, once finished. -/
  words : Option (List Nat) := none
  taps : List Nat := []
  /-- Sums of its drive codes by block and colour (R204). -/
  sums : List Nat := []
  deriving DecidableEq, Repr

/-- One line of one port in synthesis or in its ray queue. -/
structure LineRun where
  segs : List SegRun
  /-- Sums of drive codes by block column and colour (R204). -/
  sums : List Nat := []
  /-- Every length word is written. -/
  complete : Bool := false
  missed : Bool := false
  sent : Bool := false
  deriving DecidableEq, Repr

/-- A frame from its gate until its last line is sent. -/
structure FrameSt where
  fs : Nat
  /-- Instant of its gate, and its Datum time. -/
  gate : Nat
  gateTime : Nat
  modeId : Nat
  tL : Nat
  lines : Nat
  s0 : Nat
  tMin : Nat
  tMax : Nat
  /-- The next slot to start. -/
  nextSlot : Nat := 0
  /-- Its last line is synthesised. -/
  synth : Bool := false
  /-- Its drive is in the Wear ledger (R380). -/
  worn : Bool := false
  /-- Busy time by column (GCOLnn_UTIL). -/
  busy : List (Nat × Nat) := []
  /-- Ports that got its FRAME_MARK. -/
  ports : List Nat := []
  /-- Layers on, not paused, not shed: number and descriptor bytes. -/
  layers : List (Nat × List Byte)
  stale : Nat
  part : Nat
  poison : Nat := 0
  /-- Layer, block column and block row whose rays the layer yields no sample for (R214, R215). -/
  dark : List (Nat × Nat × Nat) := []
  /-- Members of the flattened sets it shows, in tie order (R161). -/
  sets : List (List Nat) := []
  overflow : Bool := false
  /-- Pictures shown new: class and MAC receive time of the last packet (R237). -/
  fresh : List (Nat × Nat)
  /-- The panel map bank, LAY_BACKGROUND, GRT_CTRL in force. -/
  map : Nat
  background : Nat
  grtCtrl : Nat
  /-- LAY_REF_WHITE and the coefficients of LAY_CSC0 to LAY_CSC3 in force, and the bit depth of the pictures that a layer
  shows (R158). -/
  refWhite : Nat
  csc : List Nat
  depths : List (Nat × Nat)
  /-- Pane bank and whether its panes show the stale pattern; none without a Cartouche sample. -/
  panes : Option (Nat × Bool)
  gains : List (Nat × Nat)
  /-- Active Atlas banks by slot, for the tiles it decodes. -/
  sheets : List (Nat × Nat)
  /-- Lines by 8192 × port + line. -/
  rows : List (Nat × LineRun) := []
  deriving DecidableEq, Repr

/-- The frame sequencer and the panel map store. -/
structure Sequencer where
  /-- When the last phase tick since the last gate was issued (R88, R224). -/
  tick : Option Nat := none
  /-- A map is active. -/
  hasMap : Bool := false
  /-- The bank under validation (R40). -/
  validating : Option Nat := none
  /-- It was written meanwhile. -/
  modified : Bool := false
  /-- Instant of the last Frame Gate. -/
  gateClk : Nat := 0
  /-- Page commits that wait for their gate: 0 none, else one more than the instant at which the commit was
  made (R226, R227). -/
  commits : List (Nat × Nat) := []
  /-- Frames in flight, oldest first. -/
  frames : List FrameSt := []
  /-- T_min, T_max, tL and lead-in L of the frame of the last gate (R217, R221), in ns. -/
  tMin : Nat := 0
  tMax : Nat := 0
  tL : Nat := 0
  lead : Nat := 0
  /-- What a take-over adds to T_early (R336). -/
  extend : Nat := 0
  /-- A Frame Gate has fired since reset. -/
  started : Bool := false
  /-- SEQ_GATE_FORCE.GO for the next gate, since this instant (R223). -/
  forced : Option Nat := none
  /-- An accepted switch: bank, whether it is hitless, when accepted (R233). -/
  switch : Option (Nat × Bool × Nat) := none
  /-- End of the last old line, while a crossing runs (R235). -/
  crossFrom : Option Nat := none
  /-- The new map is applied, since this instant (R234 step 3). -/
  crossApplied : Option Nat := none
  /-- The bank under validation was loaded from flash at boot (R42). -/
  bootMap : Bool := false
  /-- Ports that retrain in the crossing. -/
  retrain : List Nat := []
  /-- A switched map waits to be written to flash (R42). -/
  persist : Bool := false
  deriving DecidableEq, Repr

end Sys2Proof.Machine
end

