-- ==== Sys2Proof/Machine/TypesLayers.lean ====
section
/-! DEFINITION. State types of the layers, the Inset cache, Survey writeback and region signatures (R137 to
R169). -/

namespace Sys2Proof.Machine

/-- What the device keeps for a layer beside its descriptor banks. -/
structure LayerSt where
  /-- Its commit is PENDING since this instant (R141). -/
  pendAt : Option Nat := none
  err : Nat := 0
  detail : Nat := 0
  commitSeq : Nat := 0
  /-- Owner code in force (R139, R140). -/
  owner : Nat := 0
  /-- View parameter block read at the validation of the active bank, and of the pending one (R147). -/
  vpb : List Byte := []
  vpbPend : List Byte := []
  /-- Reduced vertical taps in use, and of the pending bank; 0 for the requested taps (R152). -/
  taps : Nat := 0
  tapsPend : Nat := 0
  /-- The layer failed the re-check of R153. -/
  failed : Bool := false
  /-- Gates since its last commit took effect (R160). -/
  quiet : Nat := 0
  /-- Pictures it shows: context, ring slot, picture number (R154). -/
  shown : List (Nat × Nat × Nat) := []
  /-- Serial number of the group instance it shows. -/
  serial : Nat := 0
  /-- The content it shows is partially stale (R157). -/
  partStale : Bool := false
  deriving DecidableEq, Repr

/-- A layer commit under validation (R141). -/
structure LayerCheck where
  mask : Nat
  /-- Made through LAY_COMMIT or PAGE_CTRL.COMMIT. -/
  byPage : Bool
  /-- The LAY page's frame-scoped values when the page accepted the write. -/
  snap : List (Nat × W32)
  modified : Bool
  deriving DecidableEq, Repr

/-- A flattening set in the Inset cache (R160 to R162): 0 being flattened, 1 flattened and shown from the
next gate, 2 shown flattened, 3 un-flattened with its space still read. -/
structure FlatSet where
  members : List Nat
  units : Nat
  st : Nat
  /-- FRAME_SEQ of the last frame that reads its plane. -/
  lastFrame : Nat
  deriving DecidableEq, Repr

/-- A frame being written back (R163 to R165): buffer, FRAME_SEQ, gate instant, the settings in force at its gate, and the
frame as its gate started it. -/
structure WbkFrame where
  buf : Nat
  seq : Nat
  gate : Nat
  format : Nat
  width : Nat
  height : Nat
  stride : Nat
  chromaOffset : Nat
  base : Nat
  colour : Nat
  /-- WBK_VIEW. -/
  u : Nat
  v : Nat
  /-- The hogel rectangle X0, Y0, X1, Y1. -/
  area : Nat × Nat × Nat × Nat
  frame : FrameSt
  deriving DecidableEq, Repr

/-- A region signature of a frame in synthesis (R166 to R168): the settings in force for the frame, the
region's port and lines, and the running CRC. -/
structure SigRun where
  region : Nat
  fs : Nat
  port : Nat
  /-- First and last line of the region in its tile region. -/
  l0 : Nat
  l1 : Nat
  x0 : Nat
  x1 : Nat
  u0 : Nat
  u1 : Nat
  v0 : Nat
  v1 : Nat
  check : Bool
  /-- The words are taken before the gains and the dither. -/
  tap : Bool
  expect : Nat
  crc : Nat
  /-- A line of the region was not synthesised. -/
  broken : Bool
  deriving DecidableEq, Repr

/-- Layers and what hangs on them. -/
structure Layers where
  layers : List (Nat × LayerSt) := []
  check : Option LayerCheck := none
  sets : List FlatSet := []
  /-- Members of sets to un-flatten at the next gate (INS_FORCE_UNFLAT, R162). -/
  forceUnflat : Nat := 0
  /-- Frames being written back, oldest first (R165). -/
  wbk : List WbkFrame := []
  /-- Gate instant of the frame written back last (R165). -/
  wbkLast : Option Nat := none
  sigs : List SigRun := []
  /-- The frame whose mismatches SIG_MISMATCH_MASK holds. -/
  sigFrame : Nat := 0
  deriving DecidableEq, Repr

end Sys2Proof.Machine
end

