-- ==== Sys2Proof/Machine/TypesLink.lean ====
section
/-! DEFINITION. State types of the tile links (R242 to R275). What TLG and TPnn registers show stands in the
registers themselves. -/

namespace Sys2Proof.Machine

/-- A lane sparing sequence under way (R271): logical lane, old and new physical lane; an ALIGN row was sent in
mirror; FRAME_SEQ at which the swap applies, once LANE_SWAP is sent. -/
structure LaneSwap where
  logical : Nat
  old : Nat
  new : Nat
  fs : Option Nat := none
  deriving DecidableEq, Repr

/-- A tile port. -/
structure TilePort where
  /-- Step of R270: 0 none, 1 training, 2 CAP awaited, 3 MODE_ACK awaited, 4 trained but not driven, 5 ready. -/
  phase : Nat := 0
  /-- Start of the discovery of this port, and of its training. -/
  runFrom : Nat := 0
  trainFrom : Nat := 0
  /-- The training time is over. -/
  trainOver : Bool := false
  /-- LANE_LOCK of the first STATUS after training began. -/
  locked : Option Nat := none
  trained : Bool := false
  /-- A working spare stands in TPnn_LANE_MAP_HI[31:28]. -/
  spareOk : Bool := false
  /-- Physical lanes that are OFF since the last training. -/
  retired : List Nat := []
  swap : Option LaneSwap := none
  /-- ALIGN rows sent since training. -/
  align : Nat := 0
  /-- FRAME_SEQ of the last FRAME_MARK sent. -/
  lastMark : Nat := 0
  /-- TAG of the last MGMT message. -/
  tag : Nat := 0
  /-- Instant of the last valid STATUS, and start of the lane error window. -/
  statusAt : Nat := 0
  winFrom : Nat := 0
  /-- Sums of the running window by physical lane. -/
  sums : List (Nat × Nat) := []
  /-- LANE_RATE it was trained at. -/
  rate : Nat := 0
  /-- Declared class: 1 H. -/
  declH : Bool := false
  /-- A line packet is under way. -/
  inPacket : Bool := false
  /-- HOLD is due after the LINE_END under way: BLANK and REASON (R260). -/
  holdDue : Option (Bool × Nat) := none
  deriving DecidableEq, Repr

/-- The tile links. -/
structure TileLinks where
  ports : List (Nat × TilePort) := []
  /-- Ports of the discovery run that wait for their wave. -/
  waiting : List Nat := []
  /-- Ports of the running wave. -/
  wave : List Nat := []
  /-- The single port of a rediscovery, and when the last one was. -/
  single : Option Nat := none
  rediscAt : Nat := 0
  /-- The port tried last. -/
  lastTry : Nat := 63
  /-- Lost tile reference clocks (R444). -/
  noRef : List Nat := []
  deriving DecidableEq, Repr

end Sys2Proof.Machine
end

