-- ==== Sys2Proof/Machine/TypesLog.lean ====
section
/-! DEFINITION. State types of the Logbook (R370 to R379). The records themselves are bytes of the Landing
flashes; what the device keeps beside them stands here. -/

namespace Sys2Proof.Machine

/-- A bank (R371): its generation, its pool sectors in INDEX order, the length of its record stream. -/
structure LogBank where
  gen : Nat := 0
  sectors : List Nat := []
  len : Nat := 0
  deriving DecidableEq, Repr

/-- A record (R372). -/
structure LogRec where
  ty : Nat
  seq : Nat
  payload : List Byte
  deriving DecidableEq, Repr

/-- The Logbook of one Landing. -/
structure LogSide where
  cur : LogBank := {}
  /-- The compaction target. -/
  target : Option LogBank := none
  /-- SEQ of its newest record. -/
  seq : Nat := 0
  /-- CRC of its newest record. -/
  crc : Nat := 0
  deriving DecidableEq, Repr

/-- The Logbook. -/
structure Logbook where
  a : LogSide := {}
  b : LogSide := {}
  /-- SEQ of the newest record when step 2 of the running compaction began. -/
  covered : Nat := 0
  /-- Non-wear records that wait: for the replay, for a Landing, or for the end of a compaction that filled
  the old bank (R377). -/
  waiting : List (Nat × List Byte) := []
  /-- Records sent to the standby, oldest first; `none` stands for the content of a compaction (R376). -/
  mirror : List (Option LogRec) := []
  /-- Time of the next HOURS record. -/
  hoursAt : Nat := 0
  deriving DecidableEq, Repr

end Sys2Proof.Machine
end

