-- ==== Sys2Proof/Machine/TypesMem.lean ====
section
/-! DEFINITION. State types of the memory subsystem and its reliability (R289 to R325). Physical rank 16·group +
2·channel + rank is the key of a rank. -/

namespace Sys2Proof.Machine

/-- A rank. Refresh multiplier and debt stand in DCHcc_REFRESH. -/
structure MemRank where
  /-- When its last refresh fell due. -/
  refAt : Nat := 0
  /-- The rate that the poll before reported: 0 nominal, 1 doubled, 2 higher. -/
  lastRate : Nat := 0
  lastUse : Nat := 0
  powerDown : Bool := false
  /-- Instants of corrected errors in the window of R320. -/
  ceTimes : List Nat := []
  ce : Nat := 0
  ue : Nat := 0
  /-- Taken out of service, or failed. -/
  out : Bool := false
  /-- Poisoned in place (R324). -/
  inPlace : Bool := false
  /-- New trims wait for its next refresh (R310). -/
  trimWait : Bool := false
  deriving DecidableEq, Repr

/-- A read that a group controller accepted and has not returned: line, class, instant. -/
structure MemRead where
  line : Nat
  cls : Nat
  at_ : Nat
  deriving DecidableEq, Repr

/-- A rank migration (R321): logical slot, old physical rank, whether the copy is complete. -/
structure Migration where
  slot : Nat
  old : Nat
  copied : Bool
  deriving DecidableEq, Repr

/-- A channel group. -/
structure MemGroup where
  lastReq : Nat := 0
  /-- A request reached the group in self-refresh (R308). -/
  wake : Bool := false
  reads : List MemRead := []
  /-- Accesses of the last millisecond: instant, whether RT. -/
  recent : List (Nat × Bool) := []
  mig : Option Migration := none
  /-- Lines of the group that the patrol visited in this period. -/
  visited : Nat := 0
  deriving DecidableEq, Repr

/-- The memory subsystem. -/
structure MemSys where
  ranks : List (Nat × MemRank) := []
  groups : List (Nat × MemGroup) := []
  /-- Last MR4 poll. -/
  pollAt : Nat := 0
  /-- Start and length in hours of the running scrub period. -/
  scrubFrom : Nat := 0
  scrubHours : Nat := 24
  /-- Ranks to take out of service when the crossing ends (R236). -/
  migWait : List Nat := []
  deriving DecidableEq, Repr

end Sys2Proof.Machine
end

