-- ==== Sys2Proof/Machine/TypesQueue.lean ====
section
/-! DEFINITION. State types of the dual-clock queues (R276 to R288). -/

namespace Sys2Proof.Machine

/-- What stands in a queue, with the instant of the push, or of the length word. -/
inductive QueueEntry where
  | item (v : Nat) (pushedAt : Nat)
  /-- A packet: credits reserved, items of its body, its length word, whether an item of it was dropped. -/
  | packet (most : Nat) (body : List Nat) (length : Option (W32 × Nat)) (dropped : Bool)
  deriving DecidableEq, Repr

/-- A queue. -/
structure DualQueue where
  entries : List QueueEntry := []
  /-- The depth minus the producer's credit counter. -/
  spent : Nat := 0
  /-- Credits returned by the consumer and not yet visible to the producer. -/
  returning : Nat := 0
  /-- A queue reset runs (R281). -/
  resetting : Bool := false
  deriving DecidableEq, Repr

end Sys2Proof.Machine
end

