-- ==== Sys2Proof/Machine/TypesSpaces.lean ====
section
/-! DEFINITION. The byte spaces of the block (R419): each a list of (address, byte) pairs in canonical
form; an unlisted byte reads 0x00, in a flash 0xFF (assumption 6). -/

namespace Sys2Proof.Machine

/-- The byte spaces. -/
structure Spaces where
  /-- DRAM, 40-bit addresses (R291). -/
  dram : List Host.Cell := []
  /-- DRAM lines that are not clean, by line number: 1 one symbol wrong, 2 uncorrectable, 3 poisoned
  (R313, R314). -/
  lines : List (Nat × Nat) := []
  /-- An armed injection: line number and symbols (R325). -/
  inject : Option (Nat × Nat) := none
  /-- Stream context table, 64 KiB (R53). -/
  ctxTab : List Host.Cell := []
  /-- Panel map store, 8 MiB (R39). -/
  pmap : List Host.Cell := []
  /-- Cartouche pane store, 4 MiB (R172). -/
  pane : List Host.Cell := []
  /-- Pane store words with an ECC error that cannot be corrected (R172). -/
  paneBad : List Nat := []
  /-- Layer descriptor RAM: layer k, bank b at (k × 2 + b) × 128, its space of R138. -/
  layd : List Host.Cell := []
  /-- Landing A flash, 128 MiB (R353, R367). -/
  flashA : List Host.Cell := []
  /-- Landing B flash. -/
  flashB : List Host.Cell := []
  deriving DecidableEq, Repr

end Sys2Proof.Machine
end

