-- ==== Sys2Proof/Machine/TypesWear.lean ====
section
/-! DEFINITION. State types of the Wear ledger (R380 to R386). Entry 3b + c is colour c of block b; an
unlisted entry of the ledgers is 0, of the gains 2^14. -/

namespace Sys2Proof.Machine

/-- A captured wear record on its way to flash (R381). -/
structure WearCapture where
  snapshot : Bool
  /-- The ledger at the capture, or what of it the record takes over. -/
  ledger : List (Nat × Nat)
  /-- SEQ of the record. -/
  seq : Nat
  deriving DecidableEq, Repr

/-- The Wear ledger. -/
structure Wear where
  /-- Accumulated drive in 1/256 of a DRIVE unit (R380). -/
  ledger : List (Nat × Nat) := []
  /-- Sub-unit remainders, in ns of full drive times 2^20 (R380, assumption 11). -/
  rem : List (Nat × Nat) := []
  /-- The journalled ledger (R381). -/
  journal : List (Nat × Nat) := []
  /-- Gains in force, and a changed set that waits for the next gate (R383). -/
  gains : List (Nat × Nat) := []
  next : Option (List (Nat × Nat)) := none
  /-- MAP_ID, blocks across and down of the ledger (R384); none before the first wear record. -/
  geom : Option (Nat × Nat × Nat) := none
  capture : Option WearCapture := none
  /-- When the next delta and the next snapshot are due (R382). -/
  deltaAt : Nat := 0
  snapAt : Nat := 0
  /-- Sums of the drive codes of the lines of the previous frame (R204): by 8192 × port + line, for the block
  columns of the region and the three colours. -/
  lines : List (Nat × List Nat) := []
  /-- A WEAR_CMD operation that waits for its snapshot. -/
  cmd : Bool := false
  deriving DecidableEq, Repr

end Sys2Proof.Machine
end

