-- ==== Sys2Proof/Machine/State.lean ====
section
/-! DEFINITION. The state of the block as plain data, and its value right after reset. -/

namespace Sys2Proof.Machine

/-- Reasons to stop with a fault. None: every event of the manual has an effect. -/
inductive Fault where
  deriving DecidableEq, Repr

/-- Reasons to refuse a command. -/
inductive Refusal where
  /-- Raised by the dispatch for a command that has no meaning yet (safe). -/
  | notModelled (mnemonic : String)
  deriving DecidableEq, Repr

/-- The whole state. -/
structure State where
  /-- The commands that wait, first in, first out. -/
  pending : List Instr := []
  /-- Time since the model's start, in ns (assumption 3). -/
  clk : Nat := 0
  /-- How many free values have been drawn (the model's own field, assumption 1). -/
  fresh : Nat := 0
  /-- The device's own constants (assumption 4). -/
  dev : Device := { xb := false, serial := 0, sft3v3 := true }
  /-- The register file: the value held or written last, by register address. -/
  regs : List (Nat × W32) := []
  /-- Frame-scoped values of the pending commits (R226). -/
  pend : List (Nat × W32) := []
  /-- Frame-scoped values in force (R227). -/
  force : List (Nat × W32) := []
  /-- Header state of the pages. -/
  pages : List (Nat × PageState) := []
  /-- PCIe endpoint 0. -/
  ep0 : Endpoint := {}
  /-- PCIe endpoint 1. -/
  ep1 : Endpoint := {}
  /-- The Datum timebase. -/
  dtm : Datum := {}
  /-- Ingest, alignment groups and decoder. -/
  ing : Ingest := {}
  /-- The Atlas sheet store. -/
  atl : Atlas := {}
  /-- Layers, Inset cache, writeback and signatures. -/
  lay : Layers := {}
  /-- The Graticule. -/
  grt : Graticule := {}
  /-- The tile links. -/
  link : TileLinks := {}
  /-- Housekeeping. -/
  hk : Housekeep := {}
  /-- The dual-clock queues by QID. -/
  queues : List (Nat × DualQueue) := []
  /-- The Gangway. -/
  gwy : Gangway := {}
  /-- The Benchmark. -/
  bmk : Benchmark := {}
  /-- Telemetry. -/
  tel : Telemetry := {}
  /-- The Cartouche. -/
  cart : Cartouche := {}
  /-- The Logbook. -/
  log : Logbook := {}
  /-- The Wear ledger. -/
  wear : Wear := {}
  /-- The Landings, the Mooring and boot. -/
  moor : Mooring := {}
  /-- The memory controllers. -/
  ram : MemSys := {}
  /-- The byte spaces. -/
  mem : Spaces := {}
  /-- The frame sequencer. -/
  seq : Sequencer := {}
  /-- What was sent out, newest first. -/
  sent : List Emission := []
  deriving DecidableEq, Repr

/-- The machine right after reset. -/
def State.reset : State := {}

end Sys2Proof.Machine
end

