-- ==== Sys2Proof/Machine/Ops.lean ====
section
/-! DEFINITION. The named operations over the register file, the page headers, error capture and
interrupt delivery (R12 to R14, R420, R424 to R432). -/

namespace Sys2Proof.Machine

/-- What every meaning answers. -/
abbrev Out := Host.Outcome State Fault Refusal

/-- The value held by the register at `a`. -/
def State.reg (s : State) (a : Nat) : W32 := aget (regReset s.dev a) a s.regs

/-- The value held by the register at `a`, as a number. -/
def State.rd (s : State) (a : Nat) : Nat := (s.reg a).toNat

/-- Hold `v` in the register at `a`. -/
def State.setReg (s : State) (a : Nat) (v : W32) : State :=
  { s with regs := aset (regReset s.dev a) a v s.regs }

/-- Hold the number `v` (modulo 2^32) in the register at `a`. -/
def State.wr (s : State) (a v : Nat) : State := s.setReg a (BitVec.ofNat 32 v)

/-- Field [hi:lo] of the register at `a`. -/
def State.fld (s : State) (a hi lo : Nat) : Nat := bits (s.rd a) hi lo

/-- Bit `i` of the register at `a`. -/
def State.bitAt (s : State) (a i : Nat) : Bool := (s.rd a).testBit i

/-- Replace field [hi:lo] of a number. -/
def putBits (old hi lo v : Nat) : Nat :=
  let w := 2 ^ (hi - lo + 1)
  old - ((old >>> lo) % w) * 2 ^ lo + (v % w) * 2 ^ lo

/-- Write field [hi:lo] of the register at `a`. -/
def State.setFld (s : State) (a hi lo v : Nat) : State := s.wr a (putBits (s.rd a) hi lo v)

/-- Set or clear bit `i` of the register at `a`. -/
def State.setBit (s : State) (a i : Nat) (b : Bool) : State := s.setFld a i i (if b then 1 else 0)

/-- Add `n` to a counter, saturating at all ones (R14). -/
def State.addCnt (s : State) (a n : Nat) : State := s.wr a (min (s.rd a + n) 0xFFFFFFFF)

/-- Count one event (R14). -/
def State.inc (s : State) (a : Nat) : State := s.addCnt a 1

/-- Count one event in field [hi:lo], saturating at all ones (R14). -/
def State.incFld (s : State) (a hi lo : Nat) : State :=
  s.setFld a hi lo (min (s.fld a hi lo + 1) (2 ^ (hi - lo + 1) - 1))

/-- Bit `i` of a pair of registers LO and HI (64 ports or channels). -/
def State.bit64 (s : State) (lo hi i : Nat) : Bool :=
  if i < 32 then s.bitAt lo i else s.bitAt hi (i - 32)

/-- Write bit `i` of a pair of registers LO and HI. -/
def State.setBit64 (s : State) (lo hi i : Nat) (b : Bool) : State :=
  if i < 32 then s.setBit lo i b else s.setBit hi (i - 32) b

/-- Write a 64-bit number to a LO, HI pair. -/
def State.wr64 (s : State) (lo hi v : Nat) : State := (s.wr lo v).wr hi (v / 2 ^ 32)

/-- Read a LO, HI pair as a 64-bit number. -/
def State.rd64 (s : State) (lo hi : Nat) : Nat := s.rd lo + 2 ^ 32 * s.rd hi

/-- A frame-scoped value in force (R227). -/
def State.inForce (s : State) (a : Nat) : Nat := (aget (regReset s.dev a) a s.force).toNat

/-- Field [hi:lo] of a frame-scoped value in force. -/
def State.forceFld (s : State) (a hi lo : Nat) : Nat := bits (s.inForce a) hi lo

/-- A thermal shutdown is latched: the Graticule, the decoders and the ingress have stopped (R395). -/
def State.shut (s : State) : Bool := s.bitAt Reg.HKP_STATUS 3

/-- FRAME_SEQ of the last gate (R7, R225). -/
def State.frameSeq (s : State) : Nat := s.rd Reg.SEQ_FRAME_SEQ

/-- Header state of a page. -/
def State.page (s : State) (p : Nat) : PageState := aget (pageReset p) p s.pages

/-- Replace the header state of a page. -/
def State.setPage (s : State) (p : Nat) (v : PageState) : State :=
  { s with pages := aset (pageReset p) p v s.pages }

/-- Record an output. -/
def State.emit (s : State) (e : Emission) : State := { s with sent := e :: s.sent }

/-- Draw a free value (assumption 1). -/
def State.drawFree (s : State) : Nat × State :=
  (Config.freeNat s.fresh, { s with fresh := s.fresh + 1 })

/-- Set INT_RAW bit `i` of a page (R427). -/
def State.raise (s : State) (page i : Nat) : State := s.setBit (Reg.INT_RAW page) i true

/-- INT_PENDING of a page (R424). -/
def State.intPending (s : State) (page : Nat) : Nat :=
  s.rd (Reg.INT_RAW page) &&& s.rd (Reg.INT_ENABLE page)

/-- Pages with a non-zero INT_PENDING, in page order. Only pages whose INT_RAW is listed can have one,
because INT_RAW resets to 0. -/
def State.pendingPages (s : State) : List Nat :=
  ((s.regs.map Prod.fst).filter (fun a => a % 0x1000 = 0x010)).map (· / 0x1000)
    |>.filter (fun p => s.intPending p ≠ 0)

/-- Pages with a non-zero INT_PENDING that domain `d` owns (R420). -/
def State.pendingPagesOf (s : State) (d : Dom) : List Nat :=
  s.pendingPages.filter (fun p => (s.page p).owner = d)

/-- Endpoint `q`. -/
def State.ep (s : State) (q : Nat) : Endpoint := if q = 0 then s.ep0 else s.ep1

/-- Replace endpoint `q`. -/
def State.setEp (s : State) (q : Nat) (e : Endpoint) : State :=
  if q = 0 then { s with ep0 := e } else { s with ep1 := e }

/-- The domain of endpoint `q`. -/
def domOfPort (q : Nat) : Dom := if q = 0 then .p0 else .p1

/-- The vector of a page at endpoint `q` (PCIq_VEC_MAP, R420). -/
def Endpoint.vector (e : Endpoint) (page : Nat) : Nat := aget (defaultVector page) page e.vecMap

/-- The vectors pending at endpoint `q` (R420). -/
def State.pendingVecs (s : State) (q : Nat) : List Nat :=
  (s.pendingPagesOf (domOfPort q)).foldr
    (fun p vs => let v := (s.ep q).vector p; if vs.contains v then vs else v :: vs) []

/-- The endpoint can send: link in DL_Active, not in D3hot, Bus Master Enable set (R407, R420). -/
def State.canSend (s : State) (q : Nat) : Bool :=
  s.bitAt (Reg.PCI_LINK_STATUS q) 8 && !(s.bitAt (Reg.PCI_LINK_STATUS q) 9) && (s.ep q).busMaster

/-- Send vector `v`'s message, or set its Pending Bit Array bit while it is masked or the endpoint
cannot send, or hold it back for PCIq_VEC_HOLDOFF (R420). -/
def State.signalVec (s : State) (q v : Nat) : State :=
  let e := s.ep q
  if !(s.canSend q) || !(e.unmasked.contains v) then
    s.setEp q { e with pba := if e.pba.contains v then e.pba else v :: e.pba }
  else
    let early := match e.lastMsg.find? (fun x => x.1 = v) with
      | some (_, t) => decide (s.clk < t + 1000 * s.rd (Reg.PCI_VEC_HOLDOFF q))
      | none => false
    if early then
      s.setEp q { e with heldBack := if e.heldBack.contains v then e.heldBack else v :: e.heldBack }
    else
      (s.setEp q { e with
        pba := e.pba.filter (fun w => !(w = v)),
        heldBack := e.heldBack.filter (fun w => !(w = v)),
        lastMsg := (v, s.clk) :: e.lastMsg.filter (fun x => !(x.1 = v)) }).emit (.msix q v)

/-- Vectors pending at endpoint `q` that it has not acted on. -/
def State.newVecs (s : State) (q : Nat) : List Nat :=
  (s.pendingVecs q).filter (fun v => !((s.ep q).told.contains v))

/-- Signal every vector that became pending at endpoint `q`, and note which ones are pending now (R420). -/
def State.signalNew (s : State) (q : Nat) : State :=
  let t := (s.newVecs q).foldl (fun (u : State) (v : Nat) => u.signalVec q v) s
  t.setEp q { t.ep q with told := s.pendingVecs q }

/-- Interrupt delivery after a command (R420). -/
def State.settle (s : State) : State := (s.signalNew 0).signalNew 1

/-- How a command that began in `before` and reached `s` ends: vectors that became pending are signalled. A command leaves the
queue as it is and takes no time (assumption 3). -/
def finish (before s : State) : State := { s.settle with pending := before.pending, clk := before.clk }

/-- The answer of a meaning that began in `before` and reached `s`. -/
def done (before s : State) : Out := .next (finish before s)

/-- Source codes of ERR_CAPTURE0 (R429): the domains' codes, and 4 for an event of the device. -/
def srcDevice : Nat := 4

/-- Record an error in a page's capture registers under the first-error rule (R429); a first capture
sets INT_RAW bit 31 (R428). `datumLow` is the Datum time's low word. -/
def State.captureAt (s : State) (page code source detail datumLow : Nat) : State :=
  if s.bitAt (Reg.ERR_CAPTURE0 page) 31 then s.setPage page { s.page page with lost := true }
  else
    ((((s.wr (Reg.ERR_CAPTURE0 page) (code + source * 0x10000 + 0x80000000)).wr
      (Reg.ERR_CAPTURE1 page) s.frameSeq).wr
      (Reg.ERR_CAPTURE2 page) datumLow).wr
      (Reg.ERR_CAPTURE3 page) detail).raise page 31

/-- Datum time in ns, the fraction truncated (R70). -/
def State.now (s : State) : Nat := s.dtm.time

/-- Record an error of domain or device code `source` in a page's capture registers (R429, R430). -/
def State.capture (s : State) (page code source detail : Nat) : State :=
  s.captureAt page code source detail (s.now % 2 ^ 32)

/-- Record an error that an event of the device caused (R429). -/
def State.captureDev (s : State) (page code detail : Nat) : State :=
  s.capture page code srcDevice detail

/-- Record an ignored write: offset and low value bits as the detail word (R430). -/
def State.ignoredWrite (s : State) (d : Dom) (a code value : Nat) : State :=
  s.capture (a / 0x1000) code d.code (a % 0x1000 + (value % 0x10000) * 0x10000)

/-- Record a write that a rule ignores, with WRITE_IGNORED (R430, R462). -/
def State.writeIgnored (s : State) (d : Dom) (a value : Nat) : State :=
  s.ignoredWrite d a 0x00F4 value

/-- A power of two as a rational factor: `n` times 2^k, for a negative k rounded down. -/
def scale2 (n : Int) (k : Int) : Int := if 0 ≤ k then n * 2 ^ k.toNat else n / 2 ^ (-k).toNat

/-- Insertion into a sorted list. -/
def insertInt (x : Int) : List Int → List Int
  | [] => [x]
  | y :: ys => if x ≤ y then x :: y :: ys else y :: insertInt x ys

/-- Sort a list of integers. -/
def sortInt : List Int → List Int
  | [] => []
  | x :: xs => insertInt x (sortInt xs)

/-- A signed number saturated to n bits. -/
def satSigned (n : Nat) (i : Int) : Int :=
  max (-(2 ^ (n - 1) : Int)) (min i (2 ^ (n - 1) - 1 : Int))

/-- The nearest integer to n / d; which one an exact half goes to is open (R202). -/
def roundNear (n d : Nat) : Nat :=
  let q := n / d
  let r := n % d
  if 2 * r < d then q else if d < 2 * r then q + 1 else if Config.tieUp n d then q + 1 else q

end Sys2Proof.Machine
end

