-- ==== Sys2Proof/Machine/FrameScoped.lean ====
section
/-! DEFINITION. Frame-scoped registers and page commits (R220, R225 to R229, R425, R426). -/

namespace Sys2Proof.Machine

/-- An event at instant `t` is visible to the sequencer's decisions: it reaches the sequencer after 4 ns to
20 ns and is visible two cycles of 4 ns later (R220). -/
def State.visible (s : State) (t : Nat) : Bool :=
  decide (t + (4 + Config.seqCrossing % 17) + 8 ≤ s.clk)

/-- An event at instant `t` was visible at instant `u`. -/
def visibleAt (u t : Nat) : Bool := decide (t + (4 + Config.seqCrossing % 17) + 8 ≤ u)

/-- The pages with PAGE_CAPS.COMMIT (R426). -/
def commitPage (page : Nat) : Bool :=
  [Page.MOOR, Page.LAY, Page.WBK, Page.SIG, Page.GRT, Page.SEQ].contains page

/-- The frame-scoped registers of a page (R226). -/
def frameScoped (page : Nat) : List Nat :=
  if page = Page.MOOR then [Reg.MOOR_GAP_MODE]
  else if page = Page.LAY then [Reg.LAY_BACKGROUND, Reg.LAY_REF_WHITE] ++
    (List.range 4).flatMap (fun m => (List.range 6).map (fun j => Reg.LAY_CSC m j))
  else if page = Page.WBK then [Reg.WBK_CTRL, Reg.WBK_SIZE, Reg.WBK_VIEW, Reg.WBK_MIN_PERIOD,
    Reg.WBK_STRIDE, Reg.WBK_CHROMA_OFFSET, Reg.WBK_BUF_LO 0, Reg.WBK_BUF_HI 0, Reg.WBK_BUF_LO 1,
    Reg.WBK_BUF_HI 1, Reg.WBK_BUF_LO 2, Reg.WBK_BUF_HI 2, Reg.WBK_HOLD, Reg.WBK_AREA_LO, Reg.WBK_AREA_HI]
  else if page = Page.SIG then [Reg.SIG_CTRL, Reg.SIG_TAP] ++
    (List.range 16).flatMap (fun r => [Reg.SIGR_CFG r, Reg.SIGR_RECT_LO r, Reg.SIGR_RECT_HI r,
      Reg.SIGR_VIEWS r, Reg.SIGR_EXPECT r 0, Reg.SIGR_EXPECT r 1, Reg.SIGR_EXPECT r 2, Reg.SIGR_EXPECT r 3])
  else if page = Page.GRT then [Reg.GRT_CTRL, Reg.GRT_LEAD_IN]
  else if page = Page.SEQ then [Reg.SEQ_FRAME_WINDOW, Reg.SEQ_GATE_CFG, Reg.SEQ_GATING_IGNORE]
  else []

/-- The written frame-scoped values of a page. -/
def State.snapshot (s : State) (page : Nat) : List (Nat × W32) :=
  (frameScoped page).map (fun a => (a, s.reg a))

/-- A set of frame-scoped values becomes the page's pending set: the commit is made now and replaces an
earlier one (R226). -/
def State.commitSet (s : State) (page : Nat) (snap : List (Nat × W32)) : State :=
  { s with
    pend := snap.foldl (fun (m : List (Nat × W32)) (x : Nat × W32) => aset (regReset s.dev x.1) x.1 x.2 m)
      (adrop (fun a => decide (a / 0x1000 = page)) s.pend)
    seq := { s.seq with commits := aset 0 page (s.clk + 1) s.seq.commits } }

/-- A commit of a page by its snapshot (R226). -/
def State.makeCommit (s : State) (page : Nat) : State := s.commitSet page (s.snapshot page)

/-- A commit of the page waits for its gate. -/
def State.commitPends (s : State) (page : Nat) : Bool := decide (aget 0 page s.seq.commits ≠ 0)

/-- The pending commit of the page is visible to the gate (R227). -/
def State.commitVisible (s : State) (page : Nat) : Bool :=
  match aget 0 page s.seq.commits with
  | 0 => false
  | t + 1 => s.visible t

/-- A frame-scoped value takes effect. -/
def State.setForce (s : State) (a : Nat) (v : W32) : State :=
  { s with force := aset (regReset s.dev a) a v s.force }

/-- The page's pending set takes effect at a gate with new FRAME_SEQ `fs` (R227). -/
def State.commitTake (s : State) (page fs : Nat) : State :=
  if !(s.commitVisible page) then s
  else
    let t := (frameScoped page).foldl (fun (u : State) (a : Nat) =>
      u.setForce a (aget (regReset s.dev a) a s.pend)) s
    ({ t with
      pend := adrop (fun a => decide (a / 0x1000 = page)) t.pend
      seq := { t.seq with commits := aset 0 page 0 t.seq.commits } }).wr (Reg.COMMIT_SEQ page) fs

end Sys2Proof.Machine
end

