-- ==== Sys2Proof/Machine/Spaces.lean ====
section
/-! DEFINITION. Reads and writes of the byte spaces: DRAM with its capacity check and line state (R291,
R294, R314), the stream context table, the descriptor RAM, the stores and the flashes. -/

namespace Sys2Proof.Machine

/-- Usable capacity in bytes: DMG0_CAPACITY MiB (R291). -/
def State.capacity (s : State) : Nat := s.rd Reg.DMG0_CAPACITY * 2 ^ 20

/-- Requester classes as DMG0_ADDR_ERR_SRC codes them: 0 RT, 1 NRT0, 2 NRT1, 3 NRT2, 4 HK. -/
def clsRt : Nat := 0
def clsNrt0 : Nat := 1
def clsNrt1 : Nat := 2
def clsNrt2 : Nat := 3
def clsHk : Nat := 4

/-- A request beyond the usable capacity is counted and recorded, and raises ADDR_ERR (R294, R312). -/
def State.addrErr (s : State) (cls blk a : Nat) : State :=
  (((s.inc Reg.DMG0_ADDR_ERR_COUNT).wr Reg.DMG0_ADDR_ERR_LAST (a / 256)).wr Reg.DMG0_ADDR_ERR_SRC
    (cls + (Config.requesterBlock blk % 256) * 256)).raise (Page.DMG 0) 5

/-- The `n` bytes of DRAM at `a`. -/
def State.dramBytes (s : State) (a n : Nat) : List Byte := agetMany 0 a n s.mem.dram

/-- The little-endian number of `n` bytes of DRAM at `a`. -/
def State.dramLe (s : State) (a n : Nat) : Nat := leNat (s.dramBytes a n)

/-- State of DRAM line `l`: 0 clean, 1 one symbol wrong, 2 uncorrectable, 3 poisoned. -/
def State.line (s : State) (l : Nat) : Nat := aget 0 l s.mem.lines

/-- Set the state of DRAM line `l`. -/
def State.setLine (s : State) (l v : Nat) : State :=
  { s with mem := { s.mem with lines := aset 0 l v s.mem.lines } }

/-- A write reaches line `l`, whole or in part: a whole write makes a new codeword and clears poison; a
part is read, merged and written, which corrects one symbol and poisons an uncorrectable line (R314); an
armed injection stores the line corrupted (R325). -/
def State.touchLine (s : State) (l : Nat) (whole : Bool) : State :=
  let st := s.line l
  let s1 := s.setLine l (if whole then 0 else if st ≤ 1 then 0 else 3)
  match s1.mem.inject with
  | some (il, k) =>
    if il = l then ({ s1 with mem := { s1.mem with inject := none } }).setLine l k else s1
  | none => s1

/-- Every line of [a, a + n) is written. -/
def State.touchLines (s : State) (a n : Nat) : State :=
  let l0 := a / 64
  (List.range ((a + n + 63) / 64 - l0)).foldl
    (fun t i => t.touchLine (l0 + i) (decide (a ≤ 64 * (l0 + i)) && decide (64 * (l0 + i) + 64 ≤ a + n))) s

/-- Write bytes to DRAM as a request of class `cls` of block `blk` (R294, R314). -/
def State.dramPut (s : State) (cls blk a : Nat) (bs : List Byte) : State :=
  if bs = [] then s
  else if s.capacity < a + bs.length then s.addrErr cls blk a
  else
    let t := s.touchLines a bs.length
    { t with mem := { t.mem with dram := asetMany 0 a bs t.mem.dram } }

/-- A line of [a, a + n) is poisoned or uncorrectable, or the range is beyond the capacity (R294, R319). -/
def State.dramPoison (s : State) (a n : Nat) : Bool :=
  decide (s.capacity < a + n) ||
    s.mem.lines.any (fun x => decide (a / 64 ≤ x.1) && decide (64 * x.1 < a + n) && decide (2 ≤ x.2))

/-- Field of `n` bytes at offset `o` of stream context table entry `i` (R53). -/
def State.ctxF (s : State) (i o n : Nat) : Nat := agetLe 0 (64 * i + o) n s.mem.ctxTab

/-- Write such a field. -/
def State.setCtxF (s : State) (i o n v : Nat) : State :=
  { s with mem := { s.mem with ctxTab := asetLe 0 (64 * i + o) n v s.mem.ctxTab } }

/-- The `n` bytes at offset `o` of panel map bank `b` (R39). -/
def State.pmapBytes (s : State) (b o n : Nat) : List Byte := agetMany 0 (b * 0x400000 + o) n s.mem.pmap

/-- A little-endian field of panel map bank `b`. -/
def State.pmapLe (s : State) (b o n : Nat) : Nat := leNat (s.pmapBytes b o n)

/-- The `n` bytes at offset `o` of pane store bank `b` (R172). -/
def State.paneBytes (s : State) (b o n : Nat) : List Byte := agetMany 0 (b * 0x200000 + o) n s.mem.pane

/-- Byte address of bank `b` of layer `k` in the descriptor RAM. -/
def laydAddr (k b : Nat) : Nat := (2 * k + b) * 128

/-- A little-endian field of bank `b` of layer `k`'s descriptor (R144). -/
def State.laydF (s : State) (k b o n : Nat) : Nat := agetLe 0 (laydAddr k b + o) n s.mem.layd

/-- The flash of a Landing. -/
def State.flash (s : State) (l : Landing) : List Host.Cell :=
  match l with | .a => s.mem.flashA | .b => s.mem.flashB

/-- Replace the flash of a Landing. -/
def State.setFlash (s : State) (l : Landing) (m : List Host.Cell) : State :=
  match l with
  | .a => { s with mem := { s.mem with flashA := m } }
  | .b => { s with mem := { s.mem with flashB := m } }

/-- The `n` bytes of a Landing's flash at `a`; an erased byte is 0xFF. -/
def State.flashBytes (s : State) (l : Landing) (a n : Nat) : List Byte :=
  agetMany 0xFF a n (s.flash l)

/-- Write bytes to a Landing's flash. -/
def State.flashPut (s : State) (l : Landing) (a : Nat) (bs : List Byte) : State :=
  s.setFlash l (asetMany 0xFF a bs (s.flash l))

/-- Erase [a, a + n) of a Landing's flash. -/
def State.flashErase (s : State) (l : Landing) (a n : Nat) : State :=
  s.setFlash l (adrop (fun k => decide (a ≤ k) && decide (k < a + n)) (s.flash l))

end Sys2Proof.Machine
end

