-- ==== Sys2Proof/Machine/Groups.lean ====
section
/-! DEFINITION. Stream context entries as the device reads them (R53), and the alignment groups (R66 to
R69, R82). -/

namespace Sys2Proof.Machine

/-- What the device keeps for context `i`. -/
def State.ctx (s : State) (i : Nat) : CtxRun := aget {} i s.ing.ctxs

/-- Replace it. -/
def State.setCtx (s : State) (i : Nat) (c : CtxRun) : State :=
  { s with ing := { s.ing with ctxs := aset {} i c s.ing.ctxs } }

/-- STATUS.STATE of a context: 0 CLOSED, 1 OPEN, 2 DRAINING (R53). -/
def State.ctxState (s : State) (i : Nat) : Nat := bits (s.ctxF i 0x38 4) 1 0

/-- Write STATUS.STATE. -/
def State.setCtxState (s : State) (i v : Nat) : State :=
  s.setCtxF i 0x38 4 (putBits (s.ctxF i 0x38 4) 1 0 v)

/-- CTRL.TYPE: 0 HEVC colour, 1 HEVC depth, 2 Atlas. -/
def State.ctxType (s : State) (i : Nat) : Nat := bits (s.ctxF i 0 4) 2 1

/-- CTRL.CLASS. -/
def State.ctxClass (s : State) (i : Nat) : Nat := bits (s.ctxF i 0 4) 4 3

/-- CTRL.TS_MAP. -/
def State.ctxTsMap (s : State) (i : Nat) : Nat := bits (s.ctxF i 0 4) 11 10

/-- GEN. -/
def State.ctxGen (s : State) (i : Nat) : Nat := s.ctxF i 4 1

/-- ASM_TIMEOUT_MS in ns; 0 selects 20 ms. -/
def State.ctxAsmNs (s : State) (i : Nat) : Nat :=
  let v := s.ctxF i 0x14 2
  (if v = 0 then 20 else v) * 1000000

/-- PAIR.PAIR_EN. -/
def State.ctxPairEn (s : State) (i : Nat) : Bool := bit (s.ctxF i 0x16 2) 15

/-- The context that PAIR names. -/
def State.ctxPair (s : State) (i : Nat) : Nat := bits (s.ctxF i 0x16 2) 9 0

/-- A colour and a depth context pair when each names the other and both have PAIR_EN set (R107). -/
def State.paired (s : State) (i : Nat) : Bool :=
  let j := s.ctxPair i
  s.ctxPairEn i && s.ctxPairEn j && decide (s.ctxPair j = i) &&
    decide (s.ctxState j = 1) && decide (s.ctxType i + s.ctxType j = 1)

/-- The OPEN contexts: those whose STATUS byte is listed and reads OPEN. -/
def State.openCtxs (s : State) : List Nat :=
  ((s.mem.ctxTab.filter (fun x => decide (x.1 % 64 = 0x38))).map (fun x => x.1 / 64)).filter
    (fun i => s.ctxState i = 1)

/-- An alignment group. -/
def State.group (s : State) (g : Nat) : GroupSt := aget {} g s.ing.groups

/-- Replace an alignment group. -/
def State.setGroup (s : State) (g : Nat) (v : GroupSt) : State :=
  { s with ing := { s.ing with groups := aset {} g v s.ing.groups } }

/-- ING_GROUPg_CFG.EN. -/
def State.groupEn (s : State) (g : Nat) : Bool := s.bitAt (Reg.ING_GROUP_CFG g) 31

/-- The group a context's pictures are gathered into: GROUP_EN set, and not a depth context with PAIR_EN
(R66). -/
def State.ctxGroup (s : State) (i : Nat) : Option Nat :=
  let b := s.ctxF i 5 1
  if bit b 7 && !(s.ctxType i = 1 && s.ctxPairEn i) && decide (s.ctxType i ≤ 1) then some (bits b 5 0)
  else none

/-- The members of a group (R66). -/
def State.groupMembers (s : State) (g : Nat) : List Nat :=
  s.openCtxs.filter (fun i => s.ctxGroup i = some g)

/-- Start of the half-open window of width `w`, phase `p` that holds time `t` (R66). -/
def windowStart (w p : Nat) (t : Int) : Int := ((t - p) / w) * w + p

/-- The window of a capture time: the group's present settings for windows that begin at or after their
write, the former settings before (R69). -/
def GroupSt.window (g : GroupSt) (t : Int) : Int × Int :=
  let n := windowStart g.width g.phase t
  let o := windowStart g.oldWidth g.oldPhase t
  if (g.from_ : Int) ≤ n ∨ (g.from_ : Int) ≤ o then (n, n + g.width) else (o, o + g.oldWidth)

/-- The close deadline of a window: its end plus ING_GROUP_CLOSE_LAG (R67). -/
def State.closeAt (s : State) (stop : Int) : Int := stop + 1000 * s.rd Reg.ING_GROUP_CLOSE_LAG

/-- Ring slot `k` of context `i`. -/
def State.slot (s : State) (i k : Nat) : RingSlot := (s.ctx i).ring.getD k {}

/-- A member's newest decoded picture of an earlier window (R67). -/
def State.earlierPic (s : State) (i : Nat) (start : Int) : Option GroupPic :=
  ((List.range 3).filter (fun k => decide (2 ≤ (s.slot i k).st) &&
      decide (((s.slot i k).capture : Int) < start))).foldl
    (fun b k => match b with
      | none => some { ctx := i, slot := k, picSeq := (s.slot i k).picSeq, missing := true }
      | some p => if (s.slot i p.slot).capture < (s.slot i k).capture then
          some { ctx := i, slot := k, picSeq := (s.slot i k).picSeq, missing := true } else some p) none

/-- Every member's picture, and each paired depth picture, is decoded (R67). -/
def State.instComplete (s : State) (g : Nat) (x : GroupInst) : Bool :=
  (s.groupMembers g).all (fun i =>
    x.pics.any (fun p => decide (p.ctx = i) && !(s.slot i p.slot).depthStale))

/-- The instance becomes the group's newest one, which layers take. -/
def State.instDone (s : State) (g : Nat) (x : GroupInst) : State :=
  let st := s.group g
  let older := match st.newest with | some n => decide (x.start < n) | none => false
  let opens := st.opens.filter (fun y => !(y.start = x.start))
  if older then s.setGroup g { st with opens := opens }
  else s.setGroup g { st with
    opens := opens, latest := some { x with serial := st.serial + 1, doneAt := s.clk },
    newest := some x.start, serial := st.serial + 1 }

/-- Close an open instance incomplete: each missing view is its member's previous decoded picture (R67). -/
def State.closeInst (s : State) (g : Nat) (x : GroupInst) : State :=
  let miss := ((s.groupMembers g).filter (fun i => !(x.pics.any (fun p => p.ctx = i)))).filterMap
    (fun i => s.earlierPic i x.start)
  s.instDone g { x with pics := x.pics ++ miss, partialInst := true }

/-- Put a picture into an instance; a second one of the same member replaces the first. -/
def GroupInst.put (x : GroupInst) (p : GroupPic) : GroupInst :=
  { x with pics := p :: x.pics.filter (fun q => !(q.ctx = p.ctx)) }

/-- Gather a picture that became READY in slot `k` of context `i` into its group (R66 to R68). -/
def State.gather (s : State) (i k : Nat) : State :=
  match s.ctxGroup i with
  | none => s
  | some g =>
    if !(s.groupEn g) then s
    else
      let st := s.group g
      let (start, stop) := st.window (s.slot i k).capture
      let p : GroupPic := { ctx := i, slot := k, picSeq := (s.slot i k).picSeq, missing := false }
      let late := (s.inc Reg.ING_GROUP_LATE_COUNT).raise Page.ING 2
      let old := match st.newest with | some n => decide (start < n) | none => false
      let same := match st.newest with | some n => decide (start = n) | none => false
      if start < st.enFrom then s
      else if old then late
      else if same then
        match st.latest with
        | some x =>
          if x.pics.any (fun q => decide (q.ctx = i) && !q.missing) then
            (s.setGroup g { st with latest := some { x.put p with doneAt := s.clk } }).inc Reg.ING_GROUP_DUP_COUNT
          else late
        | none => late
      else
        let x := match st.opens.find? (fun y => y.start = start) with
          | some y => y
          | none => { start := start, stop := stop, deadline := s.closeAt stop, pics := [],
                      partialInst := false, serial := 0 }
        let s1 := if x.pics.any (fun q => q.ctx = i) then s.inc Reg.ING_GROUP_DUP_COUNT else s
        let y := x.put p
        if s1.instComplete g y then s1.instDone g y
        else s1.setGroup g { st with opens := y :: st.opens.filter (fun z => !(z.start = start)) }

/-- A write of ING_GROUPg_CFG (R68, R69). -/
def State.writeGroupCfg (s : State) (g v : Nat) : State :=
  let st := s.group g
  let was := s.groupEn g
  let s1 := s.wr (Reg.ING_GROUP_CFG g) v
  let st1 := { st with
    width := 1000 * bits v 19 0, from_ := s.now, oldWidth := st.width, oldPhase := st.phase }
  let st2 := if !(bit v 31) then { st1 with opens := [], newest := none }
    else if !was then { st1 with enFrom := s.now } else st1
  s1.setGroup g st2

/-- A write of ING_GROUPg_PHASE (R66, R69). -/
def State.writeGroupPhase (s : State) (g v : Nat) : State :=
  let st := s.group g
  (s.wr (Reg.ING_GROUP_PHASE g) v).setGroup g { st with
    phase := 1000 * v, from_ := s.now, oldWidth := st.width, oldPhase := st.phase }

/-- GROUP_CLOSE_INCOMPLETE: an instance's close deadline has passed (R67). -/
def execGroupCloseIncomplete (group : Nat) (s : State) : Out :=
  match (s.group group).opens.filter (fun x => decide (x.deadline < (s.now : Int))) with
  | [] => done s s
  | x :: r => done s (r.foldl (fun t y => t.closeInst group y) (s.closeInst group x))

/-- A step of the Datum by `delta` shifts the running deadlines; every open instance closes incomplete,
and the record of each group's newest instance is cleared (R82). -/
def State.shiftIngestDeadlines (s : State) (delta : Int) : State :=
  let shift (c : CtxRun) : CtxRun := { c with
    aus := c.aus.map (fun a => { a with deadline := ((a.deadline : Int) + delta).toNat }) }
  let s1 := { s with ing := { s.ing with ctxs := s.ing.ctxs.map (fun (x : Nat × CtxRun) => (x.1, shift x.2)) } }
  let s2 := s1.ing.groups.foldl
    (fun t (x : Nat × GroupSt) => x.2.opens.foldl (fun u y => u.closeInst x.1 y) t) s1
  { s2 with ing := { s2.ing with
    groups := s2.ing.groups.map (fun (x : Nat × GroupSt) => (x.1, { x.2 with newest := none })) } }

/-- A phase tick is issued to the active sequencer now (R88). -/
def State.issuePhaseTick (s : State) : State := { s with seq := { s.seq with tick := some s.clk } }

end Sys2Proof.Machine
end

