-- ==== Sys2Proof/Machine/Datum.lean ====
section
/-! DEFINITION. The Datum timebase (R70 to R89): the counter, master selection, offset and delay, the
servo, jumps and steps, holdover, the UTC offset, the pins and the phase ticks. -/

namespace Sys2Proof.Machine

/-- DTM_STATUS.STATE (R79): 0 FREE, 1 ACQUIRE, 2 LOCKED, 3 HOLDOVER, 4 JUMP_HELD. -/
def State.dtmState (s : State) : Nat := s.fld Reg.DTM_STATUS 2 0

/-- DTM_CTRL.EN. -/
def State.dtmEn (s : State) : Bool := s.bitAt Reg.DTM_CTRL 0

/-- DTM_CTRL.SOURCE: 0 PTP, 1 PPS_IN, 2 free run. -/
def State.dtmSource (s : State) : Nat := s.fld Reg.DTM_CTRL 8 7

/-- Enter a state of R79; a transition raises the interrupt the table names. -/
def State.dtmEnter (s : State) (st : Nat) : State :=
  if s.dtmState = st then s
  else
    let t := s.setFld Reg.DTM_STATUS 2 0 st
    if st = 2 then t.raise Page.DTM 0 else if st = 3 then t.raise Page.DTM 2
    else if st = 4 then t.raise Page.DTM 3 else t

/-- The frequency adjustment that the counter uses, in 2^-34 ppb: in FREE 0, or DTM_FREQ_FORCE in
2^-16 ppm; elsewhere F (R78, R79). -/
def State.dtmFreq (s : State) : Int :=
  if s.dtmState = 0 then
    if s.bitAt Reg.DTM_FREQ_FORCE 31 then signedOf 31 (s.rd Reg.DTM_FREQ_FORCE) * (1000 * 2 ^ 18) else 0
  else s.dtm.freq

/-- One CK_DTM cycle: 2 ns corrected by F, with the remainder kept (R70). Without EREFCLK the counter
runs from CK_HK at the same nominal rate (R444). -/
def Datum.cycle (d : Datum) (f : Int) : Datum :=
  let r := d.rem + f
  let q := r / (2 ^ 17 * 1000000000)
  let total := (d.time : Int) * 65536 + d.frac + 131072 + q
  { d with
    rem := r % (2 ^ 17 * 1000000000)
    time := ((total / 65536) % (2 ^ 64 : Int)).toNat
    frac := (total % 65536).toNat }

/-- DTM_FREQ_ADJ: F in 2^-16 ppm, signed (R78). -/
def State.freqAdjReg (s : State) : Nat := bitsOfInt 32 (s.dtmFreq / (1000 * 2 ^ 18))

/-- Index of the phase instant at or before Datum time t (R88). -/
def State.phaseIndex (s : State) (t : Nat) : Int :=
  let p := s.rd Reg.DTM_PHASE_PERIOD
  if p = 0 then 0 else ((t : Int) - s.rd Reg.DTM_PHASE_OFFSET) / p

/-- Subtract θ ns from the counter: running deadlines shift with it, open group instances close
incomplete, and phase ticks follow the stepped time (R82, R88). -/
def State.stepDatum (s : State) (theta : Int) : State :=
  let t' := (((s.dtm.time : Int) - theta) % (2 ^ 64 : Int)).toNat
  let s1 := { s with dtm := { s.dtm with time := t' } }
  let s2 := s1.shiftIngestDeadlines (-theta)
  { s2 with dtm := { s2.dtm with phaseIdx := s2.phaseIndex t' } }

/-- Close the running segment of F's history (R83). -/
def Datum.closeHist (d : Datum) (clk : Nat) : Datum :=
  match d.histFrom with
  | none => d
  | some t0 => { d with hist := ((d.freq, clk - t0) :: d.hist).take 4096, histFrom := none }

/-- The segments of the last `n` ns of operation, newest first, the oldest cut to fit. -/
def histWindow (n : Nat) : List (Int × Nat) → List (Int × Nat)
  | [] => []
  | (f, dt) :: r =>
    if n = 0 then [] else if n ≤ dt then [(f, n)] else (f, dt) :: histWindow (n - dt) r

/-- The mean of F over a window; `d` where the window is empty. -/
def histMean (d : Int) (w : List (Int × Nat)) : Int :=
  let total := w.foldl (fun (a : Nat) (x : Int × Nat) => a + x.2) 0
  if total = 0 then d else (w.foldl (fun (a : Int) (x : Int × Nat) => a + x.1 * x.2) 0) / total

/-- U of R83: half the peak-to-peak spread of F over the window, at least 1 ppb. -/
def histSpread (w : List (Int × Nat)) : Int :=
  match w with
  | [] => 2 ^ 34
  | (f, _) :: r =>
    let hi := r.foldl (fun a (x : Int × Nat) => max a x.1) f
    let lo := r.foldl (fun a (x : Int × Nat) => min a x.1) f
    max (2 ^ 34) ((hi - lo) / 2)

/-- Withdraw an approval that waits to be applied (R81). -/
def State.withdrawApproval (s : State) : State :=
  match s.dtm.approved with
  | none => s
  | some _ =>
    ({ s with dtm := { s.dtm with approved := none } }).setBit Reg.DTM_STATUS 6 true

/-- Clear the stored offset of a refused jump, which withdraws an approval not yet applied (R80). -/
def State.clearJump (s : State) : State :=
  (s.withdrawApproval).wr64 Reg.DTM_JUMP_PEND_LO Reg.DTM_JUMP_PEND_HI 0

/-- Enter HOLDOVER with F held at its mean over the last DTM_HOLD_AVG seconds of operation (R83);
from FREE nothing changes, and leaving JUMP_HELD clears the stored offset (R80). -/
def State.enterHoldover (s : State) : State :=
  if s.dtmState = 0 ∨ s.dtmState = 3 then s
  else
    let s0 := if s.dtmState = 4 then s.clearJump else s
    let d := s0.dtm.closeHist s0.clk
    let w := histWindow (1000000000 * s0.rd Reg.DTM_HOLD_AVG) d.hist
    ({ s0 with dtm := { d with
        freq := histMean d.freq w, holdFrom := some s0.clk, holdSpread := histSpread w,
        lockRun := 0, unlockRun := 0, syncWait := [], syncDone := none,
        delayReq := none } }).dtmEnter 3

/-- DTM_HOLD_TIME: seconds in HOLDOVER (R83). -/
def State.holdTimeReg (s : State) : Nat :=
  match s.dtmState, s.dtm.holdFrom with
  | 3, some t => (s.clk - t) / 1000000000
  | _, _ => 0

/-- DTM_HOLD_DRIFT: U × t + (A / 86,400) × t² / 2 in ns, saturating (R83). -/
def State.holdDriftReg (s : State) : Nat :=
  match s.dtmState, s.dtm.holdFrom with
  | 3, some t0 =>
    let t : Int := (s.clk - t0 : Nat)
    let a : Int := s.rd Reg.DTM_HOLD_AGING
    let u := s.dtm.holdSpread * t / (2 ^ 34 * 1000000000)
    let g := a * t * t / (86400 * 2 * 1000000000000000000)
    min (u + g).toNat 0xFFFFFFFF
  | _, _ => 0

/-- Enter FREE: no master, frequency 0, the servo cleared (R78, R79). -/
def State.enterFree (s : State) : State :=
  let s1 := s.clearJump
  let d := s1.dtm.closeHist s1.clk
  ((({ s1 with dtm := { d with
      freq := 0, integ := 0, lockRun := 0, unlockRun := 0, holdFrom := none, syncWait := [],
      syncDone := none, delayReq := none, delays := [], foreign := [], master := none,
      lastSync := none, timeSet := none } }).dtmEnter 0).setBit Reg.DTM_STATUS 5 false).setBit
    Reg.DTM_STATUS 3 false

/-- Enter ACQUIRE; F's history runs from now. -/
def State.enterAcquire (s : State) : State :=
  ({ s with dtm := { s.dtm with
      lockRun := 0, unlockRun := 0, holdFrom := none, timeSet := none,
      histFrom := some s.clk } }).dtmEnter 1

/-- The largest |F|, 500,000 ppb, in 2^-34 ppb (R78). -/
def freqLimit : Int := 500000 * 2 ^ 34

/-- An accepted servo sample: θ in 2^-18 ns over a Sync interval of 2^logInt s (R78), and the lock and
unlock counts of R79. -/
def State.servoSample (s : State) (theta : Int) (logInt : Int) : State :=
  let i' := s.dtm.integ + s.rd Reg.DTM_KI * theta
  let f := scale2 (-((s.rd Reg.DTM_KP : Int) * theta + i')) (-logInt)
  let clamped : Bool := decide (freqLimit < f) || decide (f < -freqLimit)
  let f' := if freqLimit < f then freqLimit else if f < -freqLimit then -freqLimit else f
  let d := s.dtm.closeHist s.clk
  let s1 := { s with dtm := { d with
    freq := f', integ := if clamped then d.integ else i', histFrom := some s.clk } }
  let s2 :=
    if clamped then
      (if s1.bitAt Reg.DTM_STATUS 5 then s1 else (s1.setBit Reg.DTM_STATUS 5 true).raise Page.DTM 5)
    else s1.setBit Reg.DTM_STATUS 5 false
  let th : Int := (s.rd Reg.DTM_LOCK_THRESH : Int) * 2 ^ 18
  let mag : Int := if theta < 0 then -theta else theta
  let lockRun := if mag < th then s2.dtm.lockRun + 1 else 0
  let unlockRun := if 4 * th < mag then s2.dtm.unlockRun + 1 else 0
  let s3 := { s2 with dtm := { s2.dtm with lockRun := lockRun, unlockRun := unlockRun } }
  if s3.dtmState = 1 ∧ 16 ≤ lockRun then
    ({ s3 with dtm := { s3.dtm with unlockRun := 0 } }).dtmEnter 2
  else if s3.dtmState = 2 ∧ 4 ≤ unlockRun then
    (({ s3 with dtm := { s3.dtm with lockRun := 0 } }).dtmEnter 1).raise Page.DTM 1
  else s3

/-- An offset, in 2^-18 ns: the initial step in FREE, a refused jump, or a servo sample (R78 to R80). -/
def State.offsetSample (s : State) (theta : Int) (logInt : Int) : State :=
  let ns := theta / 2 ^ 18
  let s0 := s.wr Reg.DTM_OFFSET (bitsOfInt 32 (satSigned 32 ns))
  let mag : Int := if theta < 0 then -theta else theta
  if s0.dtmState = 0 then (s0.stepDatum ns).enterAcquire
  else if (s0.rd Reg.DTM_JUMP_LIMIT : Int) * 2 ^ 18 ≤ mag then
    let s1 := if s0.dtm.approved.isSome then s0
      else s0.wr64 Reg.DTM_JUMP_PEND_LO Reg.DTM_JUMP_PEND_HI (bitsOfInt 64 ns)
    ({ s1 with dtm := s1.dtm.closeHist s1.clk }).dtmEnter 4
  else if s0.dtmState = 4 then ((s0.clearJump).enterAcquire).servoSample theta logInt
  else if s0.dtmState = 3 then (s0.enterAcquire).servoSample theta logInt
  else s0.servoSample theta logInt

/-- Apply an approved step: subtract the stored θ, clear the integrator, enter ACQUIRE, raise STEPPED
(R81). -/
def State.applyStep (s : State) : State :=
  let theta := signedOf 64 (s.rd64 Reg.DTM_JUMP_PEND_LO Reg.DTM_JUMP_PEND_HI)
  let s1 := ({ s with dtm := { s.dtm with approved := none } }).stepDatum theta
  (({ s1 with dtm := { s1.dtm with integ := 0 } }).enterAcquire).raise Page.DTM 4

/-- The step that an accepted approval makes right after the gate time was captured (R81). -/
def State.stepAtGate (s : State) : State :=
  match s.dtm.approved with
  | some _ => s.applyStep
  | none => s

/-- A write of DTM_STEP_APPROVE (R81). -/
def State.stepApprove (s : State) (v : Nat) : State :=
  if !(bit v 0) then s
  else if s.dtmState = 4 ∧ bits v 31 16 = s.fld Reg.DTM_JUMP_PEND_LO 15 0 then
    ({ s with dtm := { s.dtm with approved := some s.clk } }).setBit Reg.DTM_STATUS 6 false
  else s.setBit Reg.DTM_STATUS 6 true

/-- Internal receive and transmit latencies by ETHp_CTRL.MODE (R76). -/
def ptpLatency (mode : Nat) : Nat × Nat := if mode = 2 then (204, 110) else (232, 118)

/-- A receive stamp moved to the reference plane: both latencies subtracted (R76). -/
def State.rxTime (s : State) (port stamp : Nat) : Int :=
  (stamp : Int) - (ptpLatency (s.fld (Reg.ETH_CTRL port) 2 1)).1 - s.fld (Reg.DTM_EXT_RX_LAT port) 15 0

/-- A transmit stamp moved to the reference plane: both latencies added (R76). -/
def State.txTime (s : State) (port stamp : Nat) : Int :=
  (stamp : Int) + (ptpLatency (s.fld (Reg.ETH_CTRL port) 2 1)).2 + s.fld (Reg.DTM_EXT_TX_LAT port) 15 0

/-- DTM_CTRL.PORT. -/
def State.ptpPort (s : State) : Nat := s.fld Reg.DTM_CTRL 2 1

/-- Messages of another domain, sdoId or Ethernet port are dropped and counted (R73). -/
def State.ptpForeign (s : State) (h : PtpHdr) : Bool :=
  decide (h.port ≠ s.ptpPort) || decide (h.domain ≠ s.fld Reg.DTM_CTRL 23 16) ||
  decide (h.majorSdo ≠ s.fld Reg.DTM_SDO 3 0) || decide (h.minorSdo ≠ s.fld Reg.DTM_SDO 11 4)

/-- The message is used: the Datum is enabled and the transport is the selected one (R73, R79). -/
def State.ptpUsed (s : State) (h : PtpHdr) : Bool :=
  s.dtmEn && decide (h.transport = s.fld Reg.DTM_CTRL 4 3)

/-- A Sync matched with its Follow_Up, or complete in one step, is the one the next exchange uses. -/
def State.syncMatched (s : State) (r : SyncRec) : State :=
  { s with dtm := { s.dtm with syncDone := some r } }

/-- 2^k seconds in ns. -/
def log2Ns (k : Int) : Nat := (scale2 1000000000 k).toNat

/-- SYNC_RX (R77). -/
def execSyncRx (m : PtpSync) (s : State) : Out :=
  if s.ptpForeign m.hdr then done s (s.inc Reg.DTM_MSG_DROP)
  else if !(s.ptpUsed m.hdr) || s.dtmSource ≠ 0 || s.dtm.master ≠ some m.hdr.src then done s s
  else
    let t2 := s.rxTime m.hdr.port m.stamp
    let r : SyncRec := { seq := m.hdr.seq, src := m.hdr.src, t2 := t2,
                         base := (t2 - m.t1) * 65536 - m.corr, logInterval := m.logInterval }
    let s1 := { s with dtm := { s.dtm with lastSync := some (s.clk, m.logInterval) } }
    if m.twoStep then
      let r' := { r with base := t2 * 65536 - m.corr }
      done s { s1 with dtm := { s1.dtm with syncWait := r' :: s1.dtm.syncWait } }
    else done s (s1.syncMatched r)

/-- FOLLOW_UP_RX: matched to its Sync by sequenceId, in time up to 1 s after it (R77). -/
def execFollowUpRx (m : PtpFollowUp) (s : State) : Out :=
  if s.ptpForeign m.hdr then done s (s.inc Reg.DTM_MSG_DROP)
  else if !(s.ptpUsed m.hdr) then done s s
  else
    match s.dtm.syncWait.find? (fun r => r.seq = m.hdr.seq && r.src = m.hdr.src) with
    | none => done s s
    | some r =>
      let s1 := { s with dtm := { s.dtm with
        syncWait := s.dtm.syncWait.filter (fun x => !(x.seq = r.seq && x.src = r.src)) } }
      if s.rxTime m.hdr.port m.stamp ≤ r.t2 + 1000000000 then
        done s (s1.syncMatched { r with base := r.base - m.t1 * 65536 - m.corr })
      else done s (s1.inc Reg.DTM_MSG_DROP)

/-- FOLLOW_UP_TIMEOUT: a Sync without its Follow_Up for 1 s is discarded and counted (R77). -/
def execFollowUpTimeout (seq : Nat) (s : State) : Out :=
  if s.dtm.syncWait.any (fun r => r.seq = seq && decide (r.t2 + 1000000000 < (s.now : Int))) then
    done s (({ s with dtm := { s.dtm with
      syncWait := s.dtm.syncWait.filter (fun x => !(x.seq = seq)) } }).inc Reg.DTM_MSG_DROP)
  else done s s

/-- DELAY_REQ_SEND: the interval is over, a Delay_Req goes out with its transmit stamp, and the next
interval is drawn between 0 and 2 × 2^logMinDelayReqInterval, at most 16 a second (R74, R79). -/
def execDelayReqSend (stamp : Nat) (s : State) : Out :=
  if !s.dtmEn || s.dtmSource ≠ 0 || s.dtm.master = none || s.clk < s.dtm.delayNext then done s s
  else
    let (n, s0) := s.drawFree
    let span := 2 * log2Ns s.dtm.logMinDelayReq
    let wait := max 62500000 (n % (span + 1))
    let port := s.ptpPort
    let uni := if s.bitAt Reg.DTM_CTRL 6 then s.dtm.master else none
    done s (({ s0 with dtm := { s0.dtm with
      delayReq := some { seq := s.dtm.delaySeq, t3 := s.txTime port stamp, sync := s.dtm.syncDone }
      delaySeq := (s.dtm.delaySeq + 1) % 65536
      delayNext := s.clk + wait } }).emit (.delayReq port uni s.dtm.delaySeq))

/-- The median of the taken exchanges, each in 2^-17 ns, in 2^-18 ns: the mean of the two middle values
for an even count (R77). -/
def medianDelay (ds : List Int) : Int :=
  let l := sortInt ds
  let n := l.length
  if n % 2 = 1 then 2 * l.getD (n / 2) 0 else l.getD (n / 2 - 1) 0 + l.getD (n / 2) 0

/-- DELAY_RESP_RX: an exchange is complete; the mean path delay and the offset follow (R77). -/
def execDelayRespRx (m : PtpDelayResp) (s : State) : Out :=
  if s.ptpForeign m.hdr then done s (s.inc Reg.DTM_MSG_DROP)
  else if !(s.ptpUsed m.hdr) || s.dtmSource ≠ 0 || s.dtm.master ≠ some m.hdr.src then done s s
  else
    match s.dtm.delayReq with
    | none => done s s
    | some q =>
      if q.seq ≠ m.hdr.seq then done s s
      else
        let s1 := { s with dtm := { s.dtm with delayReq := none, logMinDelayReq := m.logMinDelayReq } }
        match q.sync with
        | none => done s s1
        | some r =>
          let b := (m.t4 - q.t3) * 65536 - m.corr
          let ds := ((r.base + b) :: s1.dtm.delays).take (s1.rd Reg.DTM_DELAY_FILT)
          let d18 := medianDelay ds
          let theta := 4 * r.base - d18 - signedOf 32 (s1.rd Reg.DTM_ASYM) * 2 ^ 18
          let used := if s1.dtm.syncDone = some r then none else s1.dtm.syncDone
          let s2 := ({ s1 with dtm := { s1.dtm with delays := ds, syncDone := used } }).wr
            Reg.DTM_PATH_DELAY (bitsOfInt 32 (d18 / 2 ^ 18))
          done s (s2.offsetSample theta r.logInterval)

/-- The dataset comparison of IEEE 1588-2019 clause 9.3 (R75): whether `a` is better than `b`. -/
def annBetter (a b : PtpAnnounce) : Bool :=
  if a.gmId = b.gmId then
    if a.stepsRemoved = b.stepsRemoved then decide (a.hdr.src < b.hdr.src)
    else decide (a.stepsRemoved < b.stepsRemoved)
  else if a.priority1 ≠ b.priority1 then decide (a.priority1 < b.priority1)
  else if a.clockClass ≠ b.clockClass then decide (a.clockClass < b.clockClass)
  else if a.accuracy ≠ b.accuracy then decide (a.accuracy < b.accuracy)
  else if a.variance ≠ b.variance then decide (a.variance < b.variance)
  else if a.priority2 ≠ b.priority2 then decide (a.priority2 < b.priority2)
  else decide (a.gmId < b.gmId)

/-- A foreign master is qualified by 2 Announces within 4 announce intervals (R75). -/
def ForeignMaster.qualified (f : ForeignMaster) (clk : Nat) : Bool :=
  decide (2 ≤ (f.times.filter (fun t => decide (clk ≤ t + 4 * log2Ns f.ann.logInterval))).length)

/-- The best qualified foreign master. -/
def bestMaster (clk : Nat) (l : List ForeignMaster) : Option ForeignMaster :=
  (l.filter (fun f => f.qualified clk)).foldl
    (fun b f => match b with
      | none => some f
      | some g => if annBetter f.ann g.ann then some f else some g) none

/-- The UTC offset, the leap flags and the instant at which an announced leap second changes the offset
(R84): the UTC midnight that ends the day. -/
def State.takeUtc (s : State) (a : PtpAnnounce) : State :=
  let s1 := ((s.setBit Reg.DTM_STATUS 4 a.utcValid).setBit Reg.DTM_STATUS 7 a.leap61).setBit
    Reg.DTM_STATUS 8 a.leap59
  let s2 := if a.utcValid ∧ !(s1.bitAt Reg.DTM_UTC_OFFSET 31) then
      s1.setFld Reg.DTM_UTC_OFFSET 15 0 a.utcOffset else s1
  let cur := s2.fld Reg.DTM_UTC_OFFSET 15 0
  if a.leap61 ∨ a.leap59 then
    let new := if a.leap61 then cur + 1 else cur - 1
    let utc := s2.now / 1000000000 - cur
    let midnight := (utc / 86400 + 1) * 86400
    { s2 with dtm := { s2.dtm with leapAt := some ((midnight + new) * 1000000000, new) } }
  else { s2 with dtm := { s2.dtm with leapAt := none } }

/-- Select a master; another master, or another grandmaster behind it, is a change of master (R75): the
Datum goes to HOLDOVER and the exchanges start again. -/
def State.selectMaster (s : State) (f : ForeignMaster) : State :=
  let gm := s.rd64 Reg.DTM_GM_ID_LO Reg.DTM_GM_ID_HI
  let changed : Bool := decide (s.dtm.master ≠ some f.src) || decide (gm ≠ f.ann.gmId % 2 ^ 64)
  let s1 := if changed && s.dtm.master.isSome && s.dtmSource = 0 then s.enterHoldover else s
  let s2 := if changed then
      { s1 with dtm := { s1.dtm with
        master := some f.src, delays := [], syncWait := [], syncDone := none, delayReq := none,
        lastSync := some (s1.clk, 0) } }
    else s1
  (((s2.wr64 Reg.DTM_GM_ID_LO Reg.DTM_GM_ID_HI f.ann.gmId).setBit Reg.DTM_STATUS 3 true)).takeUtc f.ann

/-- ANNOUNCE_RX: foreign masters qualify, the best is selected, and the UTC offset is taken (R75, R84). -/
def execAnnounceRx (m : PtpAnnounce) (s : State) : Out :=
  if s.ptpForeign m.hdr then done s (s.inc Reg.DTM_MSG_DROP)
  else if !(s.ptpUsed m.hdr) then done s s
  else
    let old := s.dtm.foreign.find? (fun f => f.src = m.hdr.src)
    let times := (s.clk :: (match old with | some f => f.times | none => [])).take 8
    let f : ForeignMaster := { src := m.hdr.src, ann := m, times := times }
    let s1 := { s with dtm := { s.dtm with
      foreign := f :: s.dtm.foreign.filter (fun g => !(g.src = m.hdr.src)) } }
    match bestMaster s1.clk s1.dtm.foreign with
    | none => done s s1
    | some b => done s (s1.selectMaster b)

/-- ANNOUNCE_TIMEOUT: no Announce of the selected master within DTM_ANN_TIMEOUT intervals; it is lost
(R75, R79). -/
def execAnnounceTimeout (s : State) : Out :=
  match s.dtm.master with
  | none => done s s
  | some id =>
    match s.dtm.foreign.find? (fun f => f.src = id) with
    | none => done s s
    | some f =>
      let last := f.times.headD 0
      if s.clk ≤ last + s.rd Reg.DTM_ANN_TIMEOUT * log2Ns f.ann.logInterval then done s s
      else
        let s1 := if s.dtmSource = 0 then s.enterHoldover else s
        let s2 := ({ s1 with dtm := { s1.dtm with
          master := none, delays := [], lastSync := none,
          foreign := s1.dtm.foreign.filter (fun g => !(g.src = id)) } }).setBit Reg.DTM_STATUS 3 false
        match bestMaster s2.clk s2.dtm.foreign with
        | none => done s s2
        | some b => done s (s2.selectMaster b)

/-- SYNC_TIMEOUT: no Sync for 4 Sync intervals (R79). -/
def execSyncTimeout (s : State) : Out :=
  match s.dtm.lastSync with
  | none => done s s
  | some (t, k) =>
    if s.dtmEn ∧ s.dtmSource = 0 ∧ t + 4 * log2Ns k < s.clk then done s s.enterHoldover else done s s

/-- PPS_IN_EDGE: a pulse of `highNs` ns, stamped with an error of at most 4 ns (R85). -/
def execPpsInEdge (highNs : Nat) (err : Int) (s : State) : Out :=
  if highNs < 100 then done s s
  else
    let early := match s.dtm.lastEdge with
      | some t => decide (s.clk < t + 500000000)
      | none => false
    if early then done s (s.inc Reg.DTM_MSG_DROP)
    else
      let stamp := (((s.now : Int) + max (-4) (min err 4)) % (2 ^ 64 : Int)).toNat
      let s1 := ({ s with dtm := { s.dtm with lastEdge := some s.clk } }).wr64
        Reg.DTM_PPS_IN_TS_LO Reg.DTM_PPS_IN_TS_HI stamp
      let half : Int := 500000000
      let theta : Int := ((stamp : Int) + half) % 1000000000 - half
      match s1.dtm.timeSet with
      | some v =>
        let s2 := ({ s1 with dtm := { s1.dtm with timeSet := none } }).stepDatum ((s1.now : Int) - v)
        if s2.dtmEn ∧ s2.dtmSource = 1 then done s s2.enterAcquire else done s s2
      | none =>
        if s1.dtmEn ∧ s1.dtmSource = 1 then done s (s1.offsetSample (theta * 2 ^ 18) 0)
        else done s s1

/-- PPS_IN_TIMEOUT: with SOURCE 1, no edge for 1.5 s (R79). -/
def execPpsInTimeout (s : State) : Out :=
  let since := match s.dtm.lastEdge, s.dtm.ppsSince with
    | some t, some u => max t u
    | some t, none => t
    | none, some u => u
    | none, none => 0
  if s.dtmEn ∧ s.dtmSource = 1 ∧ since + 1500000000 < s.clk then done s s.enterHoldover else done s s

/-- PPS_OUT_PULSE: Datum time crosses a whole second plus the offset; driven with EN in every state
except FREE (R86). -/
def execPpsOutPulse (s : State) : Out :=
  let k : Int := ((s.now : Int) - s.rd Reg.DTM_PPS_OUT_OFFSET) / 1000000000
  if !(s.bitAt Reg.DTM_PPS_OUT_CFG 0) || s.dtmState = 0 || s.dtm.ppsOutLast = some k then done s s
  else
    let w := s.fld Reg.DTM_PPS_OUT_CFG 31 12
    let us := if w = 0 then 1000 else w
    done s (({ s with dtm := { s.dtm with
      ppsOutLast := some k, ppsOutUntil := s.clk + 1000 * us } }).emit (.ppsOut (1000 * us)))

/-- The gate's FRAME_SYNC_OUT edge is set for its Datum time plus DELAY_NS, while EN is 1 (R87). -/
def State.armFrameSync (s : State) (gateTime : Nat) : State :=
  if s.bitAt Reg.DTM_FSYNC_CFG 31 then
    { s with dtm := { s.dtm with fsyncAt := some (gateTime + s.fld Reg.DTM_FSYNC_CFG 19 0) } }
  else s

/-- FRAME_SYNC_OUT: the instant of R87 has come; the pin is high for 1 µs. -/
def execFrameSyncOut (s : State) : Out :=
  match s.dtm.fsyncAt with
  | some t =>
    if t ≤ s.now then
      done s (({ s with dtm := { s.dtm with fsyncAt := none, fsyncUntil := s.clk + 1000 } }).emit
        .frameSync)
    else done s s
  | none => done s s

/-- STEP_APPROVE_TIMEOUT: no gate was captured within 34 ms of the approval, and the step is made (R81). -/
def execStepApproveTimeout (s : State) : Out :=
  match s.dtm.approved with
  | some t => if t + 34000000 ≤ s.clk then done s s.applyStep else done s s
  | none => done s s

/-- The effect of a write of DTM_CTRL (R75, R79, R89). -/
def State.writeDtmCtrl (s : State) (v : Nat) : State :=
  let s1 := s.wr Reg.DTM_CTRL v
  let pps := if bit v 0 ∧ bits v 8 7 = 1 then
      (if s.dtmEn ∧ s.dtmSource = 1 then s.dtm.ppsSince else some s.clk) else none
  let s2 := { s1 with dtm := { s1.dtm with ppsSince := pps } }
  if s.dtmEn ≠ bit v 0 then s2.enterFree
  else if !(bit v 0) then s2
  else if s.dtmSource ≠ 2 ∧ bits v 8 7 = 2 then s2.enterFree
  else if s.ptpPort ≠ bits v 2 1 ∨ s.fld Reg.DTM_CTRL 4 3 ≠ bits v 4 3 ∨
      s.fld Reg.DTM_CTRL 23 16 ≠ bits v 23 16 then
    let s3 := s2.enterHoldover
    ({ s3 with dtm := { s3.dtm with
      master := none, foreign := [], delays := [], syncWait := [], syncDone := none,
      delayReq := none, lastSync := none } }).setBit Reg.DTM_STATUS 3 false
  else s2

/-- The effect of a write of DTM_TIME_SET_HI by domain d: in FREE it loads the value (R85). -/
def State.writeTimeSetHi (s : State) (d : Dom) (v : Nat) : State :=
  if s.dtmState = 0 then
    let t := s.rd Reg.DTM_TIME_SET_LO + 2 ^ 32 * v
    { s with dtm := { s.dtm with timeSet := some t } }
  else s.writeIgnored d Reg.DTM_TIME_SET_HI v

/-- The effect of a read of DTM_TIME_LO: the other two words are latched from the same instant (R71). -/
def State.latchTime (s : State) : State :=
  (s.wr Reg.DTM_TIME_HI (s.dtm.time / 2 ^ 32)).wr Reg.DTM_TIME_FRAC s.dtm.frac

/-- PHASE_TICK: Datum time has reached a phase instant; the tick goes to the active sequencer (R88). -/
def execPhaseTick (s : State) : Out :=
  if s.rd Reg.DTM_PHASE_PERIOD = 0 then done s s
  else
    let k := s.phaseIndex s.now
    if s.dtm.phaseIdx < k then done s ({ s with dtm := { s.dtm with phaseIdx := k } }).issuePhaseTick
    else done s s

/-- The effect of a write of DTM_PHASE_PERIOD: a new schedule, or PHASE_ERR out of range (R88). -/
def State.writePhasePeriod (s : State) (v : Nat) : State :=
  if v = 0 ∨ (4167000 ≤ v ∧ v ≤ 33333333) then
    let s1 := s.wr Reg.DTM_PHASE_PERIOD v
    { s1 with dtm := { s1.dtm with phaseIdx := s1.phaseIndex s1.now } }
  else s.raise Page.DTM 6

/-- The effect of a write of DTM_PHASE_OFFSET: later ticks follow the new schedule (R88). -/
def State.writePhaseOffset (s : State) (v : Nat) : State :=
  let s1 := s.wr Reg.DTM_PHASE_OFFSET v
  { s1 with dtm := { s1.dtm with phaseIdx := s1.phaseIndex s1.now } }

/-- UTC_OFFSET_CHANGE: the UTC midnight that ends an announced leap second day (R84). -/
def execUtcOffsetChange (s : State) : Out :=
  match s.dtm.leapAt with
  | some (t, new) =>
    if t ≤ s.now then
      let s1 := { s with dtm := { s.dtm with leapAt := none } }
      if s.bitAt Reg.DTM_UTC_OFFSET 31 then done s s1
      else done s (s1.setFld Reg.DTM_UTC_OFFSET 15 0 new)
    else done s s
  | none => done s s

end Sys2Proof.Machine
end

