-- ==== Sys2Proof/Machine/Decoder.lean ====
section
/-! DEFINITION. The decoder cores (R90 to R112): parameter sets, booking, placement and scheduling, the
output ring, depth pairing, concealment and errors. -/

namespace Sys2Proof.Machine

/-- Decoder core `k`. -/
def State.core (s : State) (k : Nat) : CoreSt := aget {} k s.ing.cores

/-- Replace decoder core `k`. -/
def State.setCore (s : State) (k : Nat) (c : CoreSt) : State :=
  { s with ing := { s.ing with cores := aset {} k c s.ing.cores } }

/-- Samples a core decodes in a second (R93). -/
def coreRate : Nat := 1492992000

/-- DECn_CTRL.CORE_EN of core `k` as written. -/
def State.coreEn (s : State) (k : Nat) : Bool := s.bitAt (Reg.DEC_CTRL (k / 4)) (k % 4)

/-- DECn_CLASS_PERMIT: class `c` may be placed or booked on core `k`. -/
def State.permits (s : State) (k c : Nat) : Bool :=
  s.bitAt (Reg.DEC_CLASS_PERMIT (k / 4)) (4 * (k % 4) + c)

/-- Twice the chroma factor f of R93: 4:0:0 1, 4:2:0 1.5, 4:2:2 2. -/
def chroma2 (idc : Nat) : Nat := if idc = 0 then 2 else if idc = 1 then 3 else 4

/-- DECn_COREk_C0_BOOKED of core `k`. -/
def bookedReg (k : Nat) : Nat := Reg.DEC_CORE_C0_BOOKED (k / 4) (k % 4)

/-- Remove a context's booking (R95). -/
def State.unbook (s : State) (i : Nat) : State :=
  let c := s.ctx i
  match c.home with
  | none => s
  | some k =>
    let s1 := s.wr (bookedReg k) (s.rd (bookedReg k) - c.rc)
    let s2 := if c.overbooked then
        s1.setFld Reg.DEC0_C0_OVERBOOK 10 0 (s1.fld Reg.DEC0_C0_OVERBOOK 10 0 - 1) else s1
    s2.setCtx i { c with home := none, rc := 0, overbooked := false }

/-- R_c of a context: from its accepted SPS, before it from MAX_W, MAX_H and its TYPE (R95). -/
def State.reservation (s : State) (i : Nat) : Nat :=
  match (s.ctx i).sps with
  | some p => p.width * p.height * chroma2 p.chromaIdc / 16
  | none => s.ctxF i 0x30 2 * s.ctxF i 0x32 2 * (if s.ctxType i = 1 then 2 else 3) / 16

/-- Unbooked room of core `k` (R95). -/
def State.room (s : State) (k : Nat) : Int := (s.rd Reg.DEC0_C0_BUDGET : Int) - s.rd (bookedReg k)

/-- The core of a list with the largest value, ties to the lower number. -/
def argMax (f : Nat → Int) : List Nat → Option Nat
  | [] => none
  | k :: r => match argMax f r with
    | none => some k
    | some j => if f k ≥ f j then some k else some j

/-- Book a Class 0 context on the permitted core with the most room; when none has room it is
overbooked there, counted, and raises C0_OVERBOOK (R95). With no core permitted, every core counts. -/
def State.book (s0 : State) (i : Nat) : State :=
  if s0.ctxClass i ≠ 0 ∨ 2 ≤ s0.ctxType i then s0
  else
    let s := s0.unbook i
    let rc := s.reservation i
    let ok := (List.range 32).filter (fun k => s.permits k 0 && s.coreEn k)
    let cand := if ok = [] then List.range 32 else ok
    match argMax s.room cand with
    | none => s
    | some k =>
      let full := decide (s.room k < (rc : Int))
      let s1 := (s.wr (bookedReg k) (s.rd (bookedReg k) + rc)).setCtx i
        { s.ctx i with home := some k, rc := rc, overbooked := full, rebook := false }
      if full then
        ((s1.incFld Reg.DEC0_C0_OVERBOOK 10 0).setFld Reg.DEC0_C0_OVERBOOK 25 16 i).raise (Page.DEC 0) 2
      else s1

/-- A decoder error of context `i` on core `k` (R110): captured, counted, raised. -/
def State.decError (s : State) (i k code : Nat) : State :=
  let word := code + (i % 1024) * 0x100 + (k % 32) * 0x40000
  let n := k / 4 % 8
  ((((s.captureDev (Page.DEC n) code word).wr Reg.DEC0_LAST_ERR word).inc (Reg.DEC_CORE_ERRS n (k % 4))).raise (Page.DEC n) 0)

/-- The core that errors before placement count against: the home core, else core 0 (assumption 8). -/
def State.errCore (s : State) (i : Nat) : Nat := ((s.ctx i).home).getD 0

/-- An item of a closed or reopened context is dropped and counted (R57). -/
def State.staleGen (s : State) : State := (s.inc Reg.ING_STALE_GEN_COUNT).raise Page.ING 0

/-- Output format of a chroma format and bit depth (R90): 0 NV12, 1 P010, 2 NV16, 3 P210, 4 Y16. -/
def outFormat (idc bits : Nat) : Nat :=
  if idc = 0 then 4 else if idc = 1 then (if bits ≤ 8 then 0 else 1) else (if bits ≤ 8 then 2 else 3)

/-- Bytes per sample of a format (R102). -/
def fmtBytes (f : Nat) : Nat := if f = 0 ∨ f = 2 then 1 else 2

/-- LUMA_STRIDE (R102). -/
def lumaStride (w f : Nat) : Nat := roundUp (w * fmtBytes f) 256

/-- CHROMA_OFFSET (R102); 0 for Y16. -/
def chromaOffset (w h f : Nat) : Nat := if f = 4 then 0 else roundUp (lumaStride w f * h) 4096

/-- Rows of the chroma plane (R102). -/
def chromaRows (h f : Nat) : Nat := if f = 4 then 0 else if f ≤ 1 then h / 2 else h

/-- VIEW_SIZE (R102). -/
def viewSize (w h f : Nat) : Nat :=
  if f = 4 then roundUp (lumaStride w f * h) 4096
  else roundUp (chromaOffset w h f + lumaStride w f * chromaRows h f) 4096

/-- An even number at or above `n` (WIDTH and HEIGHT of R101). -/
def evenUp (n : Nat) : Nat := roundUp n 2

/-- REF_BYTES of R106. -/
def refBytes (w h idc : Nat) : Nat :=
  ceilDiv w 64 * 64 * (ceilDiv h 64 * 64) * chroma2 idc * 17 / 16

/-- The profiles, chroma formats, bit depths, views and level of R90. -/
def paramSupported (p : ParamSet) : Bool :=
  let d8 := decide (p.bitLuma = 8) && decide (p.bitChroma = 8)
  let in10 := decide (8 ≤ p.bitLuma) && decide (p.bitLuma ≤ 10) && decide (8 ≤ p.bitChroma) &&
    decide (p.bitChroma ≤ 10)
  decide (p.levelIdc ≤ 156) &&
  (match p.profile with
    | .main => decide (p.chromaIdc = 1) && d8 && decide (p.views = 1)
    | .main10 => decide (p.chromaIdc = 1) && in10 && decide (p.views = 1)
    | .main422x10 => decide (p.chromaIdc ≤ 2) && in10 && decide (p.views = 1)
    | .mono12 => decide (p.chromaIdc = 0) && decide (8 ≤ p.bitLuma) && decide (p.bitLuma ≤ 12) &&
        decide (p.views = 1)
    | .multiview => decide (p.chromaIdc = 1) && d8 && decide (1 ≤ p.views) && decide (p.views ≤ 8)
    | .other => false)

/-- The error a VPS or SPS is refused with, 0 when it is accepted (R90 to R92, R106). -/
def State.paramCode (s : State) (i : Nat) (p : ParamSet) : Nat :=
  if !(paramSupported p) then 0x01
  else if s.ctxF i 0x30 2 < p.width ∨ s.ctxF i 0x32 2 < p.height ∨ 8912896 < p.width * p.height then 0x02
  else if (s.ctx i).dpbSize < refBytes p.width p.height p.chromaIdc * (p.maxDpbMinus1 + 1) * p.views then
    0x06
  else 0

/-- Write a slot's record to DRAM, STATE last (R101). -/
def State.putRecord (s : State) (i k : Nat) : State :=
  let r := s.slot i k
  let base := s.ctxF i 0x28 8 + 0x40 + 64 * k
  let cls := if s.ctxClass i = 0 then clsNrt0 else clsNrt1
  let st := r.st + (if r.partialPic then 4 else 0) + (if r.taint then 8 else 0) +
    (if r.depthStale then 16 else 0) + (if r.poison then 32 else 0) + (r.gen % 256) * 0x100 +
    (i % 1024) * 0x10000
  let stride := if r.width = 0 then 0 else lumaStride r.width r.format
  let body := leBytes 4 r.ts ++ leBytes 8 r.capture ++ leBytes 8 r.doneAt ++ leBytes 2 r.width ++
    leBytes 2 r.height ++ leBytes 1 r.format ++ leBytes 1 r.views ++ leBytes 1 r.bits ++
    leBytes 1 r.depthSlot ++ leBytes 4 stride ++
    leBytes 4 (if r.width = 0 then 0 else chromaOffset r.width r.height r.format) ++
    leBytes 4 (if r.width = 0 then 0 else viewSize r.width r.height r.format) ++
    leBytes 4 r.picSeq
  (s.dramPut cls 1 (base + 4) body).dramPut cls 1 base (leBytes 4 st)

/-- Replace a ring slot, without its record. -/
def State.setSlot (s : State) (i k : Nat) (r : RingSlot) : State :=
  let c := s.ctx i
  s.setCtx i { c with ring := c.ring.set k r }

/-- Replace a ring slot and write its record. -/
def State.putSlot (s : State) (i k : Nat) (r : RingSlot) : State := (s.setSlot i k r).putRecord i k

/-- The slot of a list with the highest picture number. -/
def newestOf (ring : List RingSlot) (ks : List Nat) : Option Nat :=
  argMax (fun k => ((ring.getD k {}).picSeq : Int)) ks

/-- The ring slot a new picture is written to (R103): the lowest FREE one, else a READY one that is not the
newest READY slot. -/
def pickSlot (ring : List RingSlot) : Option (Nat × Bool) :=
  match (List.range 3).find? (fun k => (ring.getD k {}).st = 0) with
  | some k => some (k, false)
  | none =>
    let ready := (List.range 3).filter (fun k => (ring.getD k {}).st = 2)
    match newestOf ring ready with
    | none => none
    | some n => match ready.find? (fun k => !(k = n)) with
      | some k => some (k, true)
      | none => none

/-- Change the first job of a context. -/
def State.updJob (s : State) (i : Nat) (f : DecJob → DecJob) : State :=
  let c := s.ctx i
  match c.jobs with
  | [] => s
  | j :: r => s.setCtx i { c with jobs := f j :: r }

/-- Picture jobs of Classes 1 to 3 on core `k` (R96). -/
def State.sharedJobs (s : State) (k : Nat) : Nat :=
  (s.ing.ctxs.filter (fun x => decide (s.ctxClass x.1 ≠ 0) &&
    (match x.2.jobs with | j :: _ => decide (j.core = some k) | [] => false))).length

/-- Decode work queued on core `k`, in samples (R96). -/
def State.workOn (s : State) (k : Nat) : Nat :=
  s.ing.ctxs.foldl (fun (a : Nat) (x : Nat × CtxRun) => match x.2.jobs with
    | j :: _ => if j.core = some k then a + j.slices.foldl (fun (b : Nat) (y : SliceD) => b + y.samples) 0
        else a
    | [] => a) 0

/-- The core a context's first job is placed on: the home core for Class 0, else the permitted core with
a free job slot and the least work queued (R95, R96). -/
def State.placeFor (s : State) (i : Nat) : Option Nat :=
  let c := s.ctxClass i
  if c = 0 then (s.ctx i).home
  else
    argMax (fun k => -(s.workOn k : Int))
      ((List.range 32).filter (fun k => s.permits k c && s.coreEn k && (s.core k).enabled &&
        decide (s.sharedJobs k < 4)))

/-- Place a context's first job and give it its ring slot, or find that it is dropped or waits (R92, R96,
R102, R103, R109). -/
def State.startJob (s : State) (i : Nat) : State :=
  let c := s.ctx i
  match c.jobs with
  | [] => s
  | j :: _ =>
    if j.slices = [] ∧ j.handed = none then s
    else
      let core := if j.core.isSome then j.core else s.placeFor i
      match core with
      | none => s
      | some k =>
        let s1 := s.updJob i (fun x => { x with core := some k })
        if j.slot.isSome ∨ j.drop ≠ 0 then s1
        else if c.refused ≠ 0 then
          (s1.updJob i (fun x => { x with drop := c.refused })).inc Reg.DEC0_DROP_COUNT
        else if c.resync ∧ !j.irap then
          ((s1.updJob i (fun x => { x with drop := 0x0A })).decError i k 0x0A).inc Reg.DEC0_DROP_COUNT
        else match c.sps with
          | none => s1
          | some p =>
            if c.bufSize < viewSize (evenUp p.width) (evenUp p.height) p.format * p.views then
              ((s1.updJob i (fun x => { x with drop := 0x07 })).decError i k 0x07).inc Reg.DEC0_DROP_COUNT
            else match pickSlot c.ring with
              | some (n, skip) =>
                let s2 := s1.updJob i (fun x => { x with slot := some n, ringWait := false })
                let s3 := if skip then s2.inc Reg.DEC0_SKIP_COUNT else s2
                s3.putSlot i n { st := 1, base := c.bufBase.getD n 0, ts := j.ts, gen := j.gen }
              | none =>
                if j.ringWait then s1
                else ((s1.updJob i (fun x => { x with ringWait := true })).inc
                  Reg.DEC0_RING_WAIT_COUNT).raise (Page.DEC 0) 3

/-- A context's first slice may run on core `k`. -/
def State.sliceReady (s : State) (k i : Nat) : Bool :=
  match (s.ctx i).jobs with
  | [] => false
  | j :: _ => decide (j.core = some k) && decide (j.slices ≠ []) && !j.ringWait

/-- Order of slices at a slice boundary: class, then arrival, then context ID (R97). -/
def State.sliceKey (s : State) (i : Nat) : Nat :=
  let arr := match (s.ctx i).jobs with
    | j :: _ => (match j.slices with | y :: _ => y.arrival | [] => 0)
    | [] => 0
  (s.ctxClass i * 2 ^ 64 + arr) * 1024 + i

/-- The context whose slice core `k` runs next (R97). -/
def State.nextSlice (s : State) (k : Nat) : Option Nat :=
  argMax (fun i => -(s.sliceKey i : Int)) ((s.ing.ctxs.map Prod.fst).filter (fun i => s.sliceReady k i))

/-- An idle core takes the next waiting slice. -/
def State.kick (s : State) (k : Nat) : State :=
  let c := s.core k
  if c.run.isSome then s
  else match s.nextSlice k with
    | none => s
    | some i => (s.setCore k { c with run := some i, since := max s.clk c.resetUntil }).updJob i
        (fun j => { j with begun := true })

/-- Start a context's first job and let its core run. -/
def State.advance (s : State) (i : Nat) : State :=
  let s1 := s.startJob i
  match (s1.ctx i).jobs with
  | j :: _ => (match j.core with | some k => s1.kick k | none => s1)
  | [] => s1

/-- A slice segment of picture `ts` has been reassembled and is queued to the decoder (R94). -/
def State.queueSlice (s : State) (i ts first : Nat) (n : NalD) : State :=
  let c := s.ctx i
  let y : SliceD := { arrival := s.ing.arrivals, samples := n.samples, bytes := n.bytes, activeNs := 0 }
  let s1 := { s with ing := { s.ing with arrivals := s.ing.arrivals + 1 } }
  let jobs := if c.jobs.any (fun j => j.ts = ts) then
      c.jobs.map (fun j => if j.ts = ts then { j with slices := j.slices ++ [y], irap := j.irap || n.irap }
        else j)
    else c.jobs ++ [{ ts := ts, gen := s.ctxGen i, irap := n.irap, slices := [y], core := none,
                      slot := none, ringWait := false, begun := false, firstRx := first, handed := none,
                      partialPic := false, taint := false, poison := false, drop := 0 }]
  (s1.setCtx i { c with jobs := jobs }).advance i

/-- The access unit of picture `ts` is handed on with its capture time (R61, R65); a partial one has its
missing slices concealed (R62). -/
def State.handJob (s : State) (i ts first last capture : Nat) (complete : Bool) : State :=
  let c := s.ctx i
  let upd (j : DecJob) : DecJob :=
    { j with handed := some capture, lastRx := last, partialPic := j.partialPic || !complete }
  let jobs := if c.jobs.any (fun j => j.ts = ts) then
      c.jobs.map (fun j => if j.ts = ts then upd j else j)
    else if complete then c.jobs
    else c.jobs ++ [upd { ts := ts, gen := s.ctxGen i, irap := false, slices := [], core := none,
                          slot := none, ringWait := false, begun := false, firstRx := first, handed := none,
                          partialPic := false, taint := false, poison := false, drop := 0 }]
  (s.setCtx i { c with jobs := jobs }).advance i

/-- Return a slot to FREE. -/
def State.freeSlot (s : State) (i k : Nat) : State := s.putSlot i k { s.slot i k with st := 0, retained := false }

/-- Take the first job of a context away, free its ring slot unless it was output, and go on. -/
def State.popJob (s : State) (i : Nat) : State :=
  let c := s.ctx i
  match c.jobs with
  | [] => s
  | _ :: r => (s.setCtx i { c with jobs := r }).advance i

/-- Drop the first job of a context (R57): its slot becomes FREE. -/
def State.dropJob (s : State) (i : Nat) : State :=
  match (s.ctx i).jobs with
  | [] => s
  | j :: _ =>
    let s1 := match j.slot with
      | some k => s.freeSlot i k
      | none => s
    let s2 := match j.core with
      | some k => if (s1.core k).run = some i then s1.setCore k { s1.core k with run := none } else s1
      | none => s1
    let s3 := s2.popJob i
    match j.core with
    | some k => s3.kick k
    | none => s3

/-- The item of a job is current: its context is OPEN with the job's generation (R57). -/
def State.jobCurrent (s : State) (i : Nat) (j : DecJob) : Bool :=
  decide (s.ctxState i = 1) && decide (s.ctxGen i = j.gen)

/-- PARAM_SET_DECODED (R90 to R92, R95, R106). -/
def execParamSetDecoded (ctx : Nat) (p : ParamSet) (s : State) : Out :=
  if s.ctxState ctx ≠ 1 ∨ 2 ≤ s.ctxType ctx then done s s
  else
    let c := s.ctx ctx
    let code := s.paramCode ctx p
    if code = 0 then
      let r : SpsRec := { width := p.width, height := p.height, chromaIdc := p.chromaIdc,
                          bits := max p.bitLuma p.bitChroma, views := p.views,
                          format := outFormat p.chromaIdc (max p.bitLuma p.bitChroma) }
      let s1 := s.setCtx ctx { c with sps := some r, refused := 0 }
      let s2 := if s1.ctxClass ctx = 0 ∧ s1.reservation ctx ≠ c.rc then s1.book ctx else s1
      done s (s2.advance ctx)
    else
      let s1 := s.decError ctx (s.errCore ctx) code
      done s ((s1.setCtx ctx { s1.ctx ctx with sps := none, refused := code }).advance ctx)

/-- Note a finished run of a core, for its utilisation over the last second. -/
def CoreSt.ran (c : CoreSt) (clk len : Nat) : CoreSt :=
  { c with run := none,
           recent := ((clk, len) :: c.recent).filter (fun x => decide (clk < x.1 + 1000000000)) }

/-- SLICE_DECODED: the running slice of a core ends, with its errors, and the core takes the next waiting
slice (R94, R97, R108 to R110). -/
def execSliceDecoded (core : Nat) (r : SliceResult) (s : State) : Out :=
  if s.shut then done s s else
  match (s.core core).run with
  | none => done s s
  | some i =>
    match (s.ctx i).jobs with
    | [] => done s (s.setCore core { s.core core with run := none })
    | j :: _ =>
      let s1 := s.setCore core ((s.core core).ran s.clk r.activeNs)
      if !(s1.jobCurrent i j) then done s ((s1.staleGen).dropJob i)
      else
        let s2 := s1.updJob i (fun x => { x with
          slices := x.slices.drop 1
          taint := (x.taint || r.taintedRef || decide (r.code = 5)) && !x.irap
          partialPic := x.partialPic || decide (r.code = 3) || decide (r.code = 4) || decide (r.code = 9)
          poison := x.poison || decide (r.code = 9) })
        let s3 :=
          if r.code = 5 ∧ s2.bitAt Reg.DEC0_CFG 0 then
            let c := s2.ctx i
            let t := ((s2.setCtx i { c with resync := true }).decError i core 0x0A)
            let t1 := match j.slot with | some k => t.freeSlot i k | none => t
            if j.drop = 0 then
              (t1.updJob i (fun x => { x with drop := 0x0A, slot := none })).inc Reg.DEC0_DROP_COUNT
            else t1
          else if r.code ≠ 0 then s2.decError i core r.code
          else s2
        let s4 := s3.startJob i
        done s (s4.kick core)

/-- SLICE_PREEMPT: a ready Class 0 slice preempts the running slice of another class at a CTU boundary;
the preempted slice stays the first of its picture and resumes (R97). -/
def execSlicePreempt (core : Nat) (s : State) : Out :=
  if s.shut then done s s else
  match (s.core core).run, s.nextSlice core with
  | some i, some n =>
    if s.ctxClass i ≠ 0 ∧ s.ctxClass n = 0 then
      let ran := s.clk - (s.core core).since
      let s1 := s.updJob i (fun j => { j with slices := match j.slices with
        | y :: r => { y with activeNs := y.activeNs + ran } :: r
        | [] => [] })
      done s ((s1.setCore core ((s1.core core).ran s.clk ran)).kick core)
    else done s s
  | _, _ => done s s

/-- Expected decode time of a slice in ns (R111). -/
def sliceNs (samples : Nat) : Nat := samples * 1000000000 / coreRate

/-- CORE_TIMEOUT: a slice's active decode time exceeds DEC0_CORE_TIMEOUT times its expected time; the core
is reset within 20 µs and the slice is concealed (R111). -/
def execCoreTimeout (core : Nat) (s : State) : Out :=
  if s.shut then done s s else
  match (s.core core).run with
  | none => done s s
  | some i =>
    match (s.ctx i).jobs with
    | j :: _ =>
      (match j.slices with
      | y :: _ =>
        let ran := s.clk - (s.core core).since
        if s.rd Reg.DEC0_CORE_TIMEOUT * sliceNs y.samples < y.activeNs + ran then
          let s1 := s.updJob i (fun x => { x with slices := x.slices.drop 1, partialPic := true })
          let s2 := s1.setCore core { (s1.core core).ran s.clk ran with resetUntil := s.clk + 20000 }
          let s3 := (s2.decError i core 0x08).raise (Page.DEC (core / 4)) 1
          done s (s3.kick core)
        else done s s
      | [] => done s s)
    | [] => done s s

/-- A 16-bit or 8-bit output sample: MSB-aligned, unused low bits 0 (R102). -/
def outSample (fmt bits v : Nat) : List Byte :=
  if fmtBytes fmt = 1 then leBytes 1 v else leBytes 2 (v * 2 ^ (16 - bits))

/-- The fill of a plane (R108): DEC0_FILL on a 10-bit scale, DEC0_DEPTH_FILL on a 12-bit scale for 4:0:0. -/
def State.fillSample (s : State) (fmt : Nat) (chroma : Bool) : List Byte :=
  if fmt = 4 then leBytes 2 (s.fld Reg.DEC0_DEPTH_FILL 11 0 * 16)
  else
    let v := if chroma then s.fld Reg.DEC0_FILL 25 16 else s.fld Reg.DEC0_FILL 9 0
    if fmtBytes fmt = 1 then leBytes 1 (v / 4) else leBytes 2 (v * 64)

/-- The bytes of one row of samples: decoded ones as they are, concealed ones from the co-located bytes of
the previous picture at `prev`, else the fill (R108). -/
def State.rowBytes (s : State) (fmt bits : Nat) (chroma : Bool) (prev : Option Nat) (x : Nat) :
    List (Option Nat) → List Byte
  | [] => []
  | v :: r =>
    (match v with
      | some n => outSample fmt bits n
      | none => match prev with
        | some a => s.dramBytes (a + x * fmtBytes fmt) (fmtBytes fmt)
        | none => s.fillSample fmt chroma) ++ s.rowBytes fmt bits chroma prev (x + 1) r

/-- Write rows of `w` samples from `a`, `rows` of them, at a stride. -/
def State.putRows (s : State) (cls fmt bits : Nat) (chroma : Bool) (w stride a : Nat)
    (prev : Option Nat) : Nat → List (Option Nat) → State
  | 0, _ => s
  | n + 1, l =>
    let row := l.take w
    let row' := row ++ List.replicate (w - row.length) none
    let t := s.dramPut cls 1 a (s.rowBytes fmt bits chroma prev 0 row')
    t.putRows cls fmt bits chroma w stride (a + stride) (prev.map (· + stride)) n (l.drop w)

/-- Write one view of a picture into buffer `base` (R102). `prev` is the base of the same view in the
most recent complete output picture of the same layout. -/
def State.putView (s : State) (cls : Nat) (p : SpsRec) (base : Nat) (prev : Option Nat)
    (v : ViewSamples) : State :=
  let w := evenUp p.width
  let h := evenUp p.height
  let st := lumaStride w p.format
  let t := s.putRows cls p.format p.bits false w st base prev h v.luma
  if p.format = 4 then t
  else t.putRows cls p.format p.bits true w st (base + chromaOffset w h p.format)
    (prev.map (· + chromaOffset w h p.format)) (chromaRows h p.format) v.chroma

/-- Write every view of a picture into ring buffer `k` of context `i` (R102, R108). -/
def State.putPicture (s : State) (i k : Nat) (p : SpsRec) (views : List ViewSamples) : State :=
  let c := s.ctx i
  let vs := viewSize (evenUp p.width) (evenUp p.height) p.format
  let cls := if s.ctxClass i = 0 then clsNrt0 else clsNrt1
  let last := newestOf c.ring ((List.range 3).filter (fun n =>
    decide (n ≠ k) && decide (2 ≤ (c.ring.getD n {}).st) &&
    decide ((c.ring.getD n {}).format = p.format) &&
    decide ((c.ring.getD n {}).width = evenUp p.width) &&
    decide ((c.ring.getD n {}).height = evenUp p.height)))
  (List.range p.views).foldl (fun t v =>
    t.putView cls p ((c.ring.getD k {}).base + v * vs)
      (last.map (fun n => (c.ring.getD n {}).base + v * vs)) (views.getD v { luma := [], chroma := [] })) s

/-- A ring slot becomes READY: its record is written, the slot retained from an earlier generation is
released, and the picture joins its group (R99, R105, R67). -/
def State.readySlot (s : State) (i k : Nat) : State :=
  let s1 := s.putSlot i k { s.slot i k with st := 2, doneAt := s.now, readyAt := s.clk }
  let s2 := (List.range 3).foldl (fun t n =>
    let r := t.slot i n
    if r.retained ∧ n ≠ k then
      (if r.holders = [] then t.freeSlot i n else t.setSlot i n { r with retained := false })
    else t) s1
  s2.gather i k

/-- A core's picture boundary: a cleared CORE_EN takes effect, its Class 0 contexts are booked again and
its jobs that have not begun are placed elsewhere (R111, R112). -/
def State.pictureBoundary (s : State) (k : Nat) : State :=
  if s.coreEn k || !(s.core k).enabled then s
  else
    let s1 := s.setCore k { s.core k with enabled := false }
    (s1.ing.ctxs.map Prod.fst).foldl (fun t i =>
      let t1 := if (t.ctx i).home = some k then t.book i else t
      match (t1.ctx i).jobs with
      | j :: _ => if j.core = some k ∧ !j.begun then
          (t1.updJob i (fun x => { x with core := none })).advance i else t1
      | [] => t1) s1

/-- Make a complete colour or depth picture READY, or let a colour picture wait for its depth picture
(R99, R107). -/
def State.outputPicture (s : State) (i k : Nat) : State :=
  if !(s.paired i) then s.readySlot i k
  else
    let j := s.ctxPair i
    if s.ctxType i = 0 then
      match (List.range 3).find? (fun n => decide (2 ≤ (s.slot j n).st) &&
          decide ((s.slot j n).ts = (s.slot i k).ts)) with
      | some n => (s.setSlot i k { s.slot i k with depthSlot := n }).readySlot i k
      | none =>
        let c := s.ctx i
        s.setCtx i { c with pairWait := c.pairWait ++
          [{ slot := k, ts := (s.slot i k).ts, deadline := s.clk + s.ctxAsmNs j }] }
    else
      let s1 := s.readySlot i k
      let c := s1.ctx j
      match c.pairWait.find? (fun w => w.ts = (s1.slot i k).ts) with
      | some w =>
        let s2 := s1.setCtx j { c with pairWait := c.pairWait.filter (fun x => !(x.ts = w.ts)) }
        (s2.setSlot j w.slot { s2.slot j w.slot with depthSlot := k }).readySlot j w.slot
      | none => s1

/-- PICTURE_COMPLETE: the last CTU is filtered and every write accepted; `views` are the samples the
standard's decoding gives (R99, R108, R109). -/
def execPictureComplete (ctx : Nat) (views : List ViewSamples) (s : State) : Out :=
  if s.shut then done s s else
  match (s.ctx ctx).jobs with
  | [] => done s s
  | j :: _ =>
    match j.handed with
    | none => done s s
    | some cap =>
      if j.slices ≠ [] then done s s
      else if !(s.jobCurrent ctx j) then done s ((s.staleGen).dropJob ctx)
      else
        let s0 := match j.core with
          | some k => s.inc (Reg.DEC_CORE_PICS (k / 4) (k % 4))
          | none => s
        let s1 := match j.slot, (s0.ctx ctx).sps with
          | some k, some p =>
            let t := s0.putPicture ctx k p views
            let t1 := if j.partialPic then t.inc Reg.DEC0_CONCEAL_COUNT else t
            let c := t1.ctx ctx
            let r : RingSlot := { (t1.slot ctx k) with
              st := 1, ts := j.ts, capture := cap, doneAt := t1.now, gen := j.gen,
              partialPic := j.partialPic, taint := j.taint, depthStale := false, poison := j.poison,
              width := evenUp p.width, height := evenUp p.height, format := p.format,
              views := p.views, bits := p.bits, depthSlot := 0xFF, picSeq := (c.picSeq + 1) % 2 ^ 32,
              holders := [], retained := false, lastRx := j.lastRx }
            ((t1.setCtx ctx { c with picSeq := (c.picSeq + 1) % 2 ^ 32 }).setSlot ctx k r).outputPicture
              ctx k
          | some k, none => s0.freeSlot ctx k
          | none, _ => s0
        let c1 := s1.ctx ctx
        let s2 := s1.setCtx ctx { c1 with resync := c1.resync && !j.irap, jobs := c1.jobs.drop 1 }
        let s3 := if (s2.ctx ctx).rebook then s2.book ctx else s2
        match j.core with
        | some k => done s (((s3.pictureBoundary k).advance ctx).kick k)
        | none => done s (s3.advance ctx)

/-- DEPTH_PAIR_TIMEOUT: the depth context's ASM_TIMEOUT_MS has passed since the colour picture completed
(R107). -/
def execDepthPairTimeout (ctx : Nat) (s : State) : Out :=
  let c := s.ctx ctx
  match c.pairWait.find? (fun w => decide (w.deadline < s.clk)) with
  | none => done s s
  | some w =>
    let j := s.ctxPair ctx
    let best := newestOf (s.ctx j).ring
      ((List.range 3).filter (fun n => decide (2 ≤ (s.slot j n).st)))
    let s1 := s.setCtx ctx { c with pairWait := c.pairWait.filter (fun x => !(x.ts = w.ts)) }
    done s ((s1.setSlot ctx w.slot { s1.slot ctx w.slot with
      depthSlot := best.getD 0xFF, depthStale := true }).readySlot ctx w.slot)

/-- Take a ring slot for frame `fs` (R104); the depth slot it names is held with it (R107). -/
def State.holdSlot (s : State) (i k fs : Nat) : State :=
  let r := s.slot i k
  let hold (t : State) (i k : Nat) : State :=
    let q := t.slot i k
    t.putSlot i k { q with st := 3, holders := if q.holders.contains fs then q.holders else fs :: q.holders }
  let s1 := hold s i k
  if r.depthSlot < 3 ∧ s.paired i then hold s1 (s.ctxPair i) r.depthSlot else s1

/-- A layer shows the picture of ring slot `k` of context `i`, itself or as its picture's depth (R104,
R107). -/
def State.slotShown (s : State) (i k : Nat) : Bool :=
  s.lay.layers.any (fun (x : Nat × LayerSt) => x.2.shown.any (fun (y : Nat × Nat × Nat) =>
    (decide (y.1 = i) && decide (y.2.1 = k) && decide (y.2.2 = (s.slot i k).picSeq)) ||
    (decide (y.1 = s.ctxPair i) && s.paired i && decide ((s.slot y.1 y.2.1).depthSlot = k) &&
      decide (y.2.2 = (s.slot y.1 y.2.1).picSeq))))

/-- Frame `fs` has ended: the HELD slots that no frame and no layer uses any more become FREE, and pictures
that wait for a slot go on (R103, R104). -/
def State.releaseSlots (s : State) (fs : Nat) : State :=
  (s.ing.ctxs.map Prod.fst).foldl (fun t i =>
    let t1 := (List.range 3).foldl (fun u k =>
      let r := u.slot i k
      let h := r.holders.filter (fun x => !(x = fs))
      if h = [] ∧ !r.retained ∧ r.st = 3 ∧ !(u.slotShown i k) then
        u.putSlot i k { r with st := 0, holders := [] }
      else u.setSlot i k { r with holders := h }) t
    match (t1.ctx i).jobs with
    | j :: _ => if j.ringWait then t1.advance i else t1
    | [] => t1) s

/-- A write of DECn_CTRL: an enabled core takes jobs at once; a cleared bit takes effect at the core's
next picture boundary (R111). -/
def State.writeDecCtrl (s : State) (n v : Nat) : State :=
  (List.range 4).foldl (fun t k =>
    let c := t.core (4 * n + k)
    if bit v k then t.setCore (4 * n + k) { c with enabled := true }
    else if c.run = none ∧ !((t.ing.ctxs.map Prod.snd).any (fun (x : CtxRun) =>
        match x.jobs with | j :: _ => decide (j.core = some (4 * n + k)) && j.begun | [] => false)) then
      t.pictureBoundary (4 * n + k)
    else t) (s.wr (Reg.DEC_CTRL n) v)

/-- A write of DECn_CLASS_PERMIT: where Class 0 is taken from a core, its Class 0 contexts are booked
again at their next picture boundary (R112). -/
def State.writeClassPermit (s : State) (n v : Nat) : State :=
  let s1 := s.wr (Reg.DEC_CLASS_PERMIT n) v
  (s1.ing.ctxs.map Prod.fst).foldl (fun t i =>
    match (t.ctx i).home with
    | some k => if k / 4 = n ∧ !(bit v (4 * (k % 4))) then
        t.setCtx i { t.ctx i with rebook := true } else t
    | none => t) s1

/-- Busy time of core `k` over the last second, in ns. -/
def State.coreBusy (s : State) (k : Nat) : Nat :=
  let c := s.core k
  let past := (c.recent.filter (fun x => decide (s.clk < x.1 + 1000000000))).foldl
    (fun (a : Nat) (x : Nat × Nat) => a + x.2) 0
  min 1000000000 (past + (if c.run.isSome then s.clk - c.since else 0))

/-- DECn_STATUS (byte k of page n). -/
def State.decStatusReg (s : State) (n : Nat) : Nat :=
  (List.range 4).foldl (fun a k =>
    let c := s.core (4 * n + k)
    let b := (if c.enabled && s.coreEn (4 * n + k) || c.run.isSome then 1 else 0) +
      (if c.run.isSome then 2 else 0) +
      (match c.run with | some i => if s.ctxClass i = 0 then 4 else 0 | none => 0) +
      (if s.clk < c.resetUntil then 8 else 0)
    a + b * 2 ^ (8 * k)) 0

end Sys2Proof.Machine
end

