-- ==== Sys2Proof/Machine/Ingest.lean ====
section
/-! DEFINITION. Network ingest (R49 to R65): the Ethernet ports and the classifier, RTP reassembly, the
bitstream buffer, capture times and RTCP. -/

namespace Sys2Proof.Machine

/-- A context admits a port: PORT_MASK bit p (R53). -/
def State.ctxPortOk (s : State) (i port : Nat) : Bool := bit (bits (s.ctxF i 0 4) 8 5) port

/-- The open context that a datagram matches (R54). -/
def State.matchCtx (s : State) (port udpPort ssrc : Nat) : Option Nat :=
  s.openCtxs.find? (fun i => s.ctxPortOk i port && decide (s.ctxF i 0x08 2 = udpPort) &&
    decide (s.ctxF i 0x0C 4 = ssrc))

/-- The open context that an RTCP packet is for: it comes on UDP_PORT, or for an HEVC context on UDP_PORT + 1 (R55). -/
def State.matchRtcp (s : State) (port udpPort ssrc : Nat) : Option Nat :=
  match s.matchCtx port udpPort ssrc with
  | some i => some i
  | none => s.openCtxs.find? (fun i => s.ctxPortOk i port && decide (s.ctxType i ≤ 1) &&
      decide (s.ctxF i 0x08 2 + 1 = udpPort) && decide (s.ctxF i 0x0C 4 = ssrc))

/-- A datagram matches no open context: counted, its port and SSRC stored (R54). -/
def State.unmatched (s : State) (port ssrc : Nat) : State :=
  ((s.inc Reg.ING_UNMATCHED_COUNT).wr Reg.ING_UNMATCHED_LAST port).wr Reg.ING_UNMATCHED_SSRC ssrc

/-- The port's MAC address, first byte lowest. -/
def State.portMac (s : State) (p : Nat) : Nat :=
  s.rd (Reg.ETH_MAC_LO p) + 2 ^ 32 * s.fld (Reg.ETH_MAC_HI p) 15 0

/-- Bit of the multicast hash filter for an address: bits [31:24] of the CRC-32 of the address (R51). -/
def State.mcHashHit (s : State) (p dmac : Nat) : Bool :=
  let h := crc32 (leBytes 6 dmac) / 2 ^ 24
  s.bitAt (Reg.ETH_MC_HASH p (h / 32)) (h % 32)

/-- The port's IPv6 address, word 0 least significant. -/
def State.portIpv6 (s : State) (p : Nat) : Nat :=
  s.rd (Reg.ETH_IPV6 p 0) + 2 ^ 32 * s.rd (Reg.ETH_IPV6 p 1) + 2 ^ 64 * s.rd (Reg.ETH_IPV6 p 2) +
    2 ^ 96 * s.rd (Reg.ETH_IPV6 p 3)

/-- The destination address is the port's own or multicast; an own address of 0 refuses unicast (R51). -/
def State.dstOk (s : State) (f : EthFrame) : Bool :=
  f.dstIpMulticast ||
  (if f.etherType = 0x0800 then decide (s.rd (Reg.ETH_IPV4 f.port) ≠ 0) &&
      decide (f.dstIp = s.rd (Reg.ETH_IPV4 f.port))
    else decide (s.portIpv6 f.port ≠ 0) && decide (f.dstIp = s.portIpv6 f.port))

/-- Note what the classifier made of the frame. -/
def State.setRx (s : State) (c : RxClass) : State := { s with ing := { s.ing with lastRx := c } }

/-- PTP message types that R73 drops and counts: Pdelay, Signaling and Management. -/
def ptpUnsupported (t : Nat) : Bool :=
  decide (t = 2) || decide (t = 3) || decide (t = 0xA) || decide (t = 0xC) || decide (t = 0xD)

/-- A PTP frame goes to the Datum; the message types it does not support are dropped and counted. -/
def State.rxPtp (s : State) (t : Nat) : State :=
  if ptpUnsupported t then (s.inc Reg.DTM_MSG_DROP).setRx .dropped else s.setRx .ptp

/-- ETH_RX_FRAME: the classifier's checks, in order (R49, R51, R54). -/
def execEthRxFrame (f : EthFrame) (s : State) : Out :=
  if !(s.bitAt (Reg.ETH_CTRL f.port) 0) || s.shut then done s (s.setRx .dropped)
  else
    let n := s.rd (Reg.ETH_RX_FRAMES f.port)
    let s0 := s.wr (Reg.ETH_RX_FRAMES f.port) (n + 1)
    let drop (r : Nat) : Out := done s ((s0.inc r).setRx .dropped)
    let err := Reg.ETH_RX_ERR f.port
    let filt := Reg.ETH_RX_FILTERED f.port
    if !f.fcsOk || s.rd (Reg.ETH_MAX_FRAME f.port) < f.length then drop err
    else if f.pause then drop (Reg.ETH_RX_PAUSE f.port)
    else if !(decide (f.dmac = s.portMac f.port) || (bit f.dmac 0 && s.mcHashHit f.port f.dmac)) then
      drop filt
    else if (match f.vlan with
        | none => false
        | some v => !(s.bitAt (Reg.ETH_VLAN f.port) 31) || decide (v ≠ s.fld (Reg.ETH_VLAN f.port) 11 0)) then
      drop filt
    else if f.etherType = 0x88F7 then done s (s0.rxPtp f.ptpType)
    else if !((f.etherType = 0x0800 || f.etherType = 0x86DD) && f.ipOk && s.dstOk f) then drop filt
    else if !f.udp || f.udpSum = 2 || (f.udpSum = 0 && f.etherType = 0x86DD) then drop err
    else if f.dstPort = 319 || f.dstPort = 320 then done s (s0.rxPtp f.ptpType)
    else if !(s.bitAt Reg.ING_CTRL 0) then done s (s0.setRx .dropped)
    else match (if f.rtcp then s.matchRtcp f.port f.dstPort f.ssrc else s.matchCtx f.port f.dstPort f.ssrc) with
      | none => done s ((s0.unmatched f.port f.ssrc).setRx .dropped)
      | some i => done s (s0.setRx (.scene i))

/-- ETH_LINK_DOWN: LINK falls and raises LINK_DOWN; on the PTP port the Datum goes to HOLDOVER (R49,
R79). -/
def State.ethLinkDown (s : State) (p : Nat) : State :=
  if !(s.bitAt (Reg.ETH_STATUS p) 0) then s
  else
    let s1 := (s.wr (Reg.ETH_STATUS p) (s.rd (Reg.ETH_STATUS p) % 16 &&& 0x6)).raise (Page.ETH p) 0
    if p = s.ptpPort ∧ s.dtmEn ∧ s.dtmSource = 0 then s1.enterHoldover else s1

/-- ETH_LINK_DOWN. -/
def execEthLinkDown (port : Nat) (s : State) : Out := done s (s.ethLinkDown port)

/-- ETH_LINK_UP: link training, RS-FEC lock and alignment are complete (R49). -/
def execEthLinkUp (port : Nat) (s : State) : Out :=
  if !(s.bitAt (Reg.ETH_CTRL port) 0) || !s.dtm.erefclk then done s s
  else
    let an := s.bitAt (Reg.ETH_CTRL port) 3 && decide (s.fld (Reg.ETH_CTRL port) 2 1 ≤ 1)
    done s (s.wr (Reg.ETH_STATUS port) (0xFB + (if an then 4 else 0)))

/-- Bytes of the bitstream buffer a context uses: packets not yet taken and slices not yet decoded. -/
def ctxBufBytes (c : CtxRun) : Nat :=
  (c.aus.foldl (fun (a : Nat) (u : AccessUnit) =>
    u.pkts.foldl (fun (b : Nat) (p : RxPkt) => if p.taken then b else b + p.bytes) a) 0) +
  (c.jobs.foldl (fun (a : Nat) (j : DecJob) =>
    j.slices.foldl (fun (b : Nat) (y : SliceD) => b + y.bytes) a) 0)

/-- Bytes of the bitstream buffer that Class 0 uses, and that the other classes use. -/
def State.bufUsed (s : State) : Nat × Nat :=
  s.ing.ctxs.foldl (fun (a : Nat × Nat) (x : Nat × CtxRun) =>
    if s.ctxClass x.1 = 0 then (a.1 + ctxBufBytes x.2, a.2) else (a.1, a.2 + ctxBufBytes x.2)) (0, 0)

/-- Whether `n` bytes of class `c` fit the 16 MiB buffer with ING_BUF_RES0 reserved for Class 0 (R64). -/
def State.bufFits (s : State) (c n : Nat) : Bool :=
  let res := s.rd Reg.ING_BUF_RES0 * 65536
  let (u0, u) := s.bufUsed
  let shared := 16 * 2 ^ 20 - res
  if c = 0 then decide (u0 + n ≤ res) || decide (u + (u0 + n - res) ≤ shared)
  else decide (u + n + (u0 - res) ≤ shared)

/-- Access units that wait whole, with class, first receive time, context and timestamp (R64). -/
def State.waiting (s : State) : List (Nat × Nat × Nat × Nat) :=
  s.ing.ctxs.flatMap (fun (x : Nat × CtxRun) =>
    let begun (ts : Nat) : Bool := x.2.jobs.any (fun j => decide (j.ts = ts) && j.begun)
    let cls := s.ctxClass x.1
    ((x.2.aus.filter (fun u => !(begun u.ts))).map (fun u => (cls, u.first, x.1, u.ts))) ++
    ((x.2.jobs.filter (fun j => !j.begun && !(x.2.aus.any (fun u => u.ts = j.ts)))).map
      (fun j => (cls, j.firstRx, x.1, j.ts))))

/-- The later of two RTP timestamps (R286). -/
def laterTs (a : Option Nat) (b : Nat) : Option Nat :=
  match a with
  | none => some b
  | some x => if 0 < wrapDiff 32 b x then some b else some x

/-- Discard an access unit, counted for its class (R64, R69). -/
def State.discardAu (s : State) (i ts : Nat) : State :=
  let c := s.ctx i
  let cls := s.ctxClass i
  let s1 := s.setCtx i { c with
    aus := c.aus.filter (fun u => !(u.ts = ts))
    jobs := c.jobs.filter (fun j => !(j.ts = ts) || j.begun)
    handedTs := laterTs c.handedTs ts
    nextFirst := none }
  let s2 := s1.inc (Reg.ING_BUF_DROP_COUNT cls)
  if cls = 0 then s2.raise Page.ING 1 else s2

/-- The unit to discard for a unit of class `c`: the newest of the lowest class below it (R64). -/
def State.victim (s : State) (c : Nat) : Option (Nat × Nat) :=
  ((s.waiting.filter (fun w => decide (c < w.1))).foldl
    (fun (b : Option (Nat × Nat × Nat × Nat)) w => match b with
      | none => some w
      | some v => if v.1 < w.1 ∨ (v.1 = w.1 ∧ v.2.1 < w.2.1) then some w else some v) none).map
    (fun w => (w.2.2.1, w.2.2.2))

/-- Free space for `n` bytes of class `c` by discarding; false when nothing can be freed (R64). -/
def State.makeRoom (s : State) (c n : Nat) : Nat → State × Bool
  | 0 => (s, s.bufFits c n)
  | k + 1 =>
    if s.bufFits c n then (s, true)
    else match s.victim c with
      | none => (s, false)
      | some (i, ts) => (s.discardAu i ts).makeRoom c n k

/-- Put a packet into an access unit in sequence order. -/
def insertPkt (p : RxPkt) : List RxPkt → List RxPkt
  | [] => [p]
  | q :: r => if wrapDiff 16 p.seq q.seq < 0 then p :: q :: r else q :: insertPkt p r

/-- The packets that follow one another from sequence number `n`. -/
def contigFrom (n : Nat) : List RxPkt → List RxPkt
  | [] => []
  | p :: r => if p.seq = n then p :: contigFrom ((n + 1) % 65536) r else []

/-- The longest part that ends at the end of a NAL unit. -/
def wholeNals : List RxPkt → List RxPkt
  | [] => []
  | p :: r =>
    match wholeNals r with
    | [] => if p.nalType = 49 && !p.fuEnd then [] else [p]
    | q => p :: q

/-- The whole NAL units of a packet list; a series of fragments with one missing loses its NAL unit (R59). -/
def nalsOf (cur : Option (NalD × Nat)) : List RxPkt → List NalD
  | [] => []
  | p :: r =>
    if p.taken then nalsOf none r
    else if p.nalType = 49 then
      let n : Option NalD :=
        if p.fuStart then p.nals.head?.map (fun x => { x with bytes := p.bytes })
        else match cur with
          | some (x, q) => if (q + 1) % 65536 = p.seq then some { x with bytes := x.bytes + p.bytes }
              else none
          | none => none
      match n with
      | none => nalsOf none r
      | some x => if p.fuEnd then x :: nalsOf none r else nalsOf (some (x, p.seq)) r
    else p.nals ++ nalsOf none r

/-- Sequence number of an access unit's marker packet. -/
def AccessUnit.marker (u : AccessUnit) : Option Nat := (u.pkts.find? (fun p => p.marker)).map (·.seq)

/-- The sequence number that begins an access unit: the one after the marker of the unit before it, or its
lowest packet where that begins a picture (R59, assumption 8). -/
def AccessUnit.firstSeq (u : AccessUnit) (known : Option Nat) : Option Nat :=
  match known with
  | some n => some n
  | none => match u.pkts with
    | p :: _ => match p.nals with
      | x :: _ => if (!x.slice || x.firstOfPic) && (p.nalType ≠ 49 || p.fuStart) then some p.seq else none
      | [] => none
    | [] => none

/-- An access unit is complete: the marker packet is there and nothing is missing before it (R59). -/
def AccessUnit.complete (u : AccessUnit) (known : Option Nat) : Bool :=
  match u.firstSeq known with
  | none => false
  | some n =>
    let l := contigFrom n u.pkts
    decide (l.length = u.pkts.length) && (match l.getLast? with | some p => p.marker | none => false)

/-- Missing sequence numbers of an access unit lie more than the reorder window behind `seq` (R61). -/
def AccessUnit.gapBehind (u : AccessUnit) (known : Option Nat) (seq win : Nat) : Bool :=
  match u.firstSeq known, u.pkts with
  | some n, _ :: _ =>
    let l := contigFrom n u.pkts
    if l.length = u.pkts.length then false
    else decide ((win : Int) < wrapDiff 16 seq ((n + l.length) % 65536))
  | _, _ => false

/-- Where the unit after `u` begins, when u's marker was received. -/
def AccessUnit.nextSeq (u : AccessUnit) : Option Nat := u.marker.map (fun m => (m + 1) % 65536)

/-- Capture time of an access unit by its context's own mapping (R65). -/
def State.ownCapture (s : State) (i ts first : Nat) : Int :=
  let adj := signedOf 32 (s.ctxF i 0x1C 4)
  let m := s.ctxTsMap i
  if m = 2 ∨ (m = 0 ∧ !(s.ctx i).srMapped) then (first : Int) + adj
  else
    let d := wrapDiff 32 ts (s.ctxF i 0x18 4)
    (s.ctxF i 0x20 8 : Int) + d * 1000000000 / (s.ctxF i 0x10 4 : Int) + adj

/-- Capture time of the colour unit with the same timestamp in the paired context, when it arrived within
the depth context's ASM_TIMEOUT_MS of the depth unit (R65). -/
def State.colourCapture (s : State) (i ts first : Nat) : Option Int :=
  if !(s.ctxType i = 1 && s.ctxPairEn i) then none
  else
    let j := s.ctxPair i
    let near (f : Nat) : Bool := decide (f ≤ first + s.ctxAsmNs i) && decide (first ≤ f + s.ctxAsmNs i)
    match (s.ctx j).aus.find? (fun u => decide (u.ts = ts) && near u.first) with
    | some u => some (s.ownCapture j ts u.first)
    | none => match (s.ctx j).jobs.find? (fun x => decide (x.ts = ts) && near x.firstRx) with
      | some x => x.handed.map (fun (n : Nat) => (n : Int))
      | none => ((List.range 3).find? (fun k => decide ((s.slot j k).ts = ts) &&
          decide (2 ≤ (s.slot j k).st))).map (fun k => ((s.slot j k).capture : Int))

/-- Queue the slices among a list of NAL units. -/
def State.queueNals (s : State) (i ts first : Nat) (l : List NalD) : State :=
  (l.filter (fun n => n.slice)).foldl (fun t n => t.queueSlice i ts first n) s

/-- Hand the first access unit of a context on, complete or partial (R57, R61, R62, R65). -/
def State.handOn (s : State) (i : Nat) : State :=
  let c := s.ctx i
  match c.aus with
  | [] => s
  | u :: r =>
    let compl := u.complete c.nextFirst
    let s1 := s.setCtx i { c with
      aus := r, handedTs := laterTs c.handedTs u.ts, nextFirst := u.nextSeq }
    if s.ctxState i ≠ 1 ∨ s.ctxGen i ≠ u.gen then s1.staleGen
    else
      let cap := match s.colourCapture i u.ts u.first with
        | some t => t
        | none => s.ownCapture i u.ts u.first
      let arrivalMap : Bool := decide (s.ctxTsMap i = 2) || (decide (s.ctxTsMap i = 0) && !c.srMapped)
      let s2 := if arrivalMap then (s1.setCtxF i 0x18 4 u.ts).setCtxF i 0x20 8 u.first else s1
      let s3 := s2.queueNals i u.ts u.first (nalsOf none u.pkts)
      let s4 := s3.setCtxF i 0x38 4 (putBits (s3.ctxF i 0x38 4) 2 2 (if compl then 0 else 1))
      let s5 := if compl then s4 else s4.inc Reg.ING_ASM_PARTIAL_COUNT
      s5.handJob i u.ts u.first u.last cap.toNat compl

/-- Queue the slices of the first access unit that are whole and in order (R94). -/
def State.takeReady (s : State) (i : Nat) : State :=
  let c := s.ctx i
  match c.aus with
  | [] => s
  | u :: r =>
    match u.firstSeq c.nextFirst with
    | none => s
    | some n =>
      let l := wholeNals (contigFrom n u.pkts)
      let u' := { u with pkts := u.pkts.map (fun p =>
        if l.any (fun q => q.seq = p.seq) then { p with taken := true } else p) }
      (s.setCtx i { c with aus := u' :: r }).queueNals i u.ts u.first (nalsOf none l)

/-- Hand on the first units while they are complete, late, or passed by a packet of a later timestamp
without a gap beyond the reorder window (R61). -/
def State.handReady (s : State) (i seq ts stamp : Nat) : Nat → State
  | 0 => s
  | k + 1 =>
    let c := s.ctx i
    match c.aus with
    | [] => s
    | u :: _ =>
      let late := decide (u.deadline < stamp)
      let passed := decide (0 < wrapDiff 32 ts u.ts) &&
        !(u.gapBehind c.nextFirst seq (s.rd Reg.ING_REORDER_WIN))
      if u.complete c.nextFirst || late || passed then (s.handOn i).handReady i seq ts stamp k
      else s.takeReady i

/-- Count an accepted packet for the receiver report: extended sequence number, jitter, loss, and the
addresses of the latest datagram (R53, R63). -/
def State.rtpCount (s : State) (i : Nat) (p : RtpPkt) : State :=
  let c := s.ctx i
  let first := decide (c.received = 0)
  let d := wrapDiff 16 p.seq (c.extSeq % 65536)
  let ext := if first then p.seq else if 0 < d then c.extSeq + d.toNat else c.extSeq
  let base := if first then p.seq else c.baseSeq
  let transit : Int := (p.stamp * s.ctxF i 0x10 4 / 1000000000 : Nat) - (p.ts : Int)
  let dj := match c.lastTransit with
    | some t => (transit - t).natAbs
    | none => 0
  let j := c.jitter16 + dj - (c.jitter16 + 8) / 16
  let lost := ext + 1 - base - (c.received + 1)
  let st := putBits (s.ctxF i 0x38 4) 31 16 p.seq
  ((s.setCtx i { c with
    extSeq := ext, baseSeq := base, received := c.received + 1,
    jitter16 := if first then 0 else j, lastTransit := some transit,
    src := some (p.port, p.srcMac, p.srcIp) }).setCtxF i 0x38 4 st).setCtxF i 0x3C 4
    (min lost 0xFFFFFFFF)

/-- A packet joins its access unit, or begins one whose deadline is its receive time plus ASM_TIMEOUT_MS
(R59, R61). -/
def State.addPacket (s : State) (i : Nat) (p : RtpPkt) : State :=
  let c := s.ctx i
  let q : RxPkt := { seq := p.seq, marker := p.marker, nalType := p.nalType, nals := p.nals,
                     fuStart := p.fuStart, fuEnd := p.fuEnd, bytes := p.bytes, taken := false }
  let aus :=
    if c.aus.any (fun u => u.ts = p.ts) then
      c.aus.map (fun u => if u.ts = p.ts then { u with pkts := insertPkt q u.pkts, last := max u.last p.stamp } else u)
    else
      let u : AccessUnit := { ts := p.ts, first := p.stamp, deadline := p.stamp + s.ctxAsmNs i,
                              pkts := [q], gen := s.ctxGen i, last := p.stamp }
      let (a, b) := c.aus.span (fun v => decide (wrapDiff 32 v.ts p.ts < 0))
      a ++ u :: b
  s.setCtx i { c with aus := aus }

/-- An RTP datagram of open context `i` that passed R55: repeat and lateness tests, the bitstream buffer,
reassembly and hand-on (R60, R61, R64). -/
def State.rtpAccept (s : State) (i : Nat) (p : RtpPkt) : State :=
  let s0 := s.rtpCount i p
  let c := s0.ctx i
  if c.recent.contains p.seq then s0.inc Reg.ING_DUP_PKT_COUNT
  else
    let behind : Int := match c.newest with | some n => wrapDiff 16 n p.seq | none => 0
    let s1 := s0.setCtx i { c with
      recent := (p.seq :: c.recent).take 2048
      newest := if behind ≤ 0 then some p.seq else c.newest }
    if (s.rd Reg.ING_REORDER_WIN : Int) < behind then s1.inc Reg.ING_LATE_PKT_COUNT
    else
      -- units whose deadline lies before this packet's receive time are handed on first
      let s2 := if (s1.ctx i).aus.any (fun u => decide (u.ts = p.ts) && decide (u.deadline < p.stamp))
        then s1.handReady i p.seq p.ts p.stamp 64 else s1
      let handed := match (s2.ctx i).handedTs with
        | some h => decide (wrapDiff 32 p.ts h ≤ 0)
        | none => false
      if handed then s2.inc Reg.ING_LATE_PKT_COUNT
      else
        let (s3, ok) := s2.makeRoom (s2.ctxClass i) p.bytes 1024
        if !ok then s3.discardAu i p.ts
        else (s3.addPacket i p).handReady i p.seq p.ts p.stamp 64

/-- RTP_PACKET_RX (R54, R55, R58). -/
def execRtpPacketRx (p : RtpPkt) (s : State) : Out :=
  if !(s.bitAt Reg.ING_CTRL 0) || s.shut then done s s
  else match s.matchCtx p.port p.udpPort p.ssrc with
    | none => done s (s.unmatched p.port p.ssrc)
    | some i =>
      if s.ctxType i ≠ 0 ∧ s.ctxType i ≠ 1 then done s s
      else if p.version ≠ 2 ∨ p.pt ≠ bits (s.ctxF i 0x07 1) 6 0 then done s (s.inc Reg.ING_BAD_RTP_COUNT)
      else if p.nalType = 50 then done s (s.inc Reg.ING_UNSUP_NAL_COUNT)
      else if 50 < p.nalType then done s (s.inc Reg.ING_BAD_RTP_COUNT)
      else done s (s.rtpAccept i p)

/-- ASM_DEADLINE: an access unit's assembly deadline has passed, and it is handed on partial (R61). -/
def execAsmDeadline (ctx : Nat) (s : State) : Out :=
  match (s.ctx ctx).aus with
  | [] => done s s
  | u :: _ =>
    if u.deadline < s.now then done s ((s.handOn ctx).handReady ctx 0 u.ts s.now 64) else done s s

/-- RTCP_SR_RX: a sender report sets the reference pair of a TS_MAP 0 context, or is refused where its
mapping differs by more than ING_SR_MAX_STEP (R55, R65). -/
def execRtcpSrRx (r : RtcpSr) (s : State) : Out :=
  if !(s.bitAt Reg.ING_CTRL 0) || s.shut then done s s
  else match s.matchRtcp r.port r.udpPort r.ssrc with
    | none => done s (s.unmatched r.port r.ssrc)
    | some i =>
      if 2 ≤ s.ctxType i then done s s
      else
        let c := s.ctx i
        let s1 := s.setCtx i { c with
          src := some (r.port, r.srcMac, r.srcIp)
          lastSr := some ((r.ntpSec % 65536) * 65536 + r.ntpFrac / 65536, s.clk) }
        let s2 := s1.setCtxF i 0x38 4 (putBits (s1.ctxF i 0x38 4) 3 3 1)
        if s.ctxTsMap i ≠ 0 then done s s2
        else
          let sec : Int := (r.ntpSec : Int) - 2208988800 + s.fld Reg.DTM_UTC_OFFSET 15 0
          let t := (sec * 1000000000 + (r.ntpFrac * 1000000000 / 2 ^ 32 : Nat)).toNat
          let old : Int := (s.ctxF i 0x20 8 : Int) +
            wrapDiff 32 r.rtpTs (s.ctxF i 0x18 4) * 1000000000 / (s.ctxF i 0x10 4 : Int)
          if c.srMapped ∧ s.rd Reg.ING_SR_MAX_STEP < (old - (t : Int)).natAbs then
            done s (s2.inc Reg.ING_SR_REFUSED_COUNT)
          else
            let s3 := (s2.setCtxF i 0x18 4 r.rtpTs).setCtxF i 0x20 8 t
            done s (s3.setCtx i { s3.ctx i with srMapped := true })

/-- RTCP_RR_SEND: the report interval is over, and a receiver report goes out (R63). -/
def execRtcpRrSend (ctx : Nat) (s : State) : Out :=
  let c := s.ctx ctx
  match c.src with
  | none => done s s
  | some (port, mac, ip) =>
    if s.shut = true ∨ s.ctxState ctx ≠ 1 ∨ !(bit (s.ctxF ctx 0 4) 9) ∨ s.ctxF ctx 0x0A 2 = 0 ∨ s.clk < c.rrAt then
      done s s
    else
      let expected := if c.received = 0 then 0 else c.extSeq + 1 - c.baseSeq
      let expI := expected - c.expectedPrior
      let recI := c.received - c.receivedPrior
      let frac := if expI = 0 ∨ expI ≤ recI then 0 else (expI - recI) * 256 / expI
      let lost := bitsOfInt 24 (max (-8388608) (min ((expected : Int) - c.received) 8388607))
      let lsr := match c.lastSr with | some (m, _) => m | none => 0
      let dlsr := match c.lastSr with | some (_, t) => (s.clk - t) * 65536 / 1000000000 | none => 0
      let cname := (List.range 4).flatMap (fun j => leBytes 4 (s.rd (Reg.GLB_SERIAL_ASCII j)))
      done s ((s.setCtx ctx { c with
        rrAt := s.clk + 1000000 * s.rd Reg.ING_RTCP_INTERVAL
        expectedPrior := expected, receivedPrior := c.received }).emit
        (.receiverReport port (s.ctxF ctx 0x08 2) (s.ctxF ctx 0x0A 2) mac ip (s.ctxF ctx 0x0C 4) frac lost
          (c.extSeq % 2 ^ 32) (c.jitter16 / 16) lsr dlsr cname))

end Sys2Proof.Machine
end

