-- ==== Sys2Proof/Machine/Atlas.lean ====
section
/-! DEFINITION. Atlas scene sheets (R113 to R136): the tile bitstream, validation, the sheet store and
Atlas-over-UDP. -/

namespace Sys2Proof.Machine

/-- Samples of a DELTA block after the first (R121): `done` is the block's samples so far, newest first. -/
def readDelta (n k : Nat) : Nat → List Nat → List Bool → Option (List Nat × List Bool)
  | 0, sofar, l => some (sofar.reverse, l)
  | m + 1, sofar, l =>
    let i := sofar.length
    let pred := if i % 8 = 0 then sofar.getD 7 0 else sofar.getD 0 0
    match readSe k l with
    | none => none
    | some (r, l') => readDelta n k m (bitsOfInt n ((pred : Int) + r) :: sofar) l'

/-- One block of 64 samples of N bits (R120). -/
def readBlock (n : Nat) (l : List Bool) : Option (List Nat × List Bool) :=
  match takeBits 2 0 l with
  | none => none
  | some (0, r) => (takeBits n 0 r).map (fun x => (List.replicate 64 x.1, x.2))
  | some (1, r) => match takeBits 3 0 r with
    | none => none
    | some (k, r1) => match takeBits n 0 r1 with
      | none => none
      | some (v, r2) => readDelta n k 63 [v] r2
  | some (2, r) => match takeMany n 4 r with
    | none => none
    | some (p, r1) => (takeMany 2 64 r1).map (fun x => (x.1.map (fun i => p.getD i 0), x.2))
  | some (_, r) => takeMany n 64 r

/-- `m` blocks after one another. -/
def readBlocks (n : Nat) : Nat → List Bool → Option (List (List Nat) × List Bool)
  | 0, l => some ([], l)
  | m + 1, l => match readBlock n l with
    | none => none
    | some (b, r) => (readBlocks n m r).map (fun x => (b :: x.1, x.2))

/-- A channel of a tile: its 16 blocks of 64 samples (R119). -/
def readChannel (n : Nat) (l : List Bool) : Option (List (List Nat) × List Bool) :=
  match l with
  | [] => none
  | true :: r => (takeBits n 0 r).map (fun x => (List.replicate 16 (List.replicate 64 x.1), x.2))
  | false :: r => readBlocks n 16 r

/-- The channels of given widths after one another. -/
def readChannels : List Nat → List Bool → Option (List (List (List Nat)) × List Bool)
  | [], l => some ([], l)
  | n :: ns, l => match readChannel n l with
    | none => none
    | some (c, r) => (readChannels ns r).map (fun x => (c :: x.1, x.2))

/-- A depth layer of a tile: its channels Z, then A with HAS_ALPHA, then R, G, B (R119). -/
def layerWidths (cbits : Nat) (alpha : Bool) : List Nat :=
  16 :: ((if alpha then [8] else []) ++ [cbits, cbits, cbits])

/-- `m` depth layers after one another. -/
def readTileLayers (ws : List Nat) : Nat → List Bool → Option (List (List (List (List Nat))) × List Bool)
  | 0, l => some ([], l)
  | m + 1, l => match readChannels ws l with
    | none => none
    | some (c, r) => (readTileLayers ws m r).map (fun x => (c :: x.1, x.2))

/-- The content of a tile payload, channel by channel; none where it breaks R118, R119, R122 or R123. -/
def decodeTile (cbits : Nat) (alpha : Bool) (layers zMin zMax : Nat) (payload : List Byte) :
    Option (List (List (List (List Nat)))) :=
  match payload with
  | b0 :: b1 :: rest =>
    if b0.toNat ≠ layers ∨ b1.toNat ≠ 0 then none
    else match readTileLayers (layerWidths cbits alpha) layers (bitsOfBytes rest) with
      | none => none
      | some (t, fill) =>
        let zOk := t.all (fun (c : List (List (List Nat))) => match c with
          | z :: _ => z.all (fun (b : List Nat) => b.all (fun v =>
              decide (v = 0xFFFF) || (decide (zMin ≤ v) && decide (v ≤ zMax))))
          | [] => true)
        if fill.length < 8 ∧ fill.all (fun b => !b) ∧ zOk then some t else none
  | _ => none

/-- Sheet depth of a depth code in units of 10^-6 mm (R115). -/
def sheetDepth (scaleNm : Nat) (biasUm : Int) (c : Nat) : Int := c * scaleNm + biasUm * 1000

/-- Sample (x, y) of a texel block layout: block 4·(y/8) + x/8, sample 8·(y mod 8) + x mod 8 (R119). -/
def texelAt (c : List (List Nat)) (x y : Nat) : Nat :=
  (c.getD (4 * (y / 8) + x / 8) []).getD (8 * (y % 8) + x % 8) 0

/-- ATL_SLOT_SIZE in bytes. -/
def State.sheetBankSize (s : State) : Nat := s.fld Reg.ATL_SLOT_SIZE 6 0 * 2 ^ 20

/-- DRAM address of bank `b` of sheet slot `k` (R125). -/
def State.sheetBase (s : State) (k b : Nat) : Nat :=
  s.fld Reg.ATL_STORE_BASE_LO 31 16 * 65536 + s.fld Reg.ATL_STORE_BASE_HI 7 0 * 2 ^ 32 +
    (2 * k + b) * s.sheetBankSize

/-- Check the tile index entries in order (R116, R117); `next` is the lowest OFFSET the next payload may
have. The answer is byte offset and tile of the first failure. -/
def tileEntryFault (e : Nat → Nat → Nat) (w total maxL base : Nat) :
    Nat → Nat → Nat → Option (Nat × Nat)
  | 0, _, _ => none
  | m + 1, i, next =>
    let o := base + 16 * i
    let off := e o 4
    let len := e (o + 4) 2
    let lay := e (o + 6) 1
    let crc := e (o + 0xC) 4
    let z0 := e (o + 8) 2
    let z1 := e (o + 0xA) 2
    if e (o + 7) 1 ≠ 0 then some (o + 7, i)
    else if off = 0 ∧ len = 0 ∧ lay = 0 then
      if z0 ≠ 0 then some (o + 8, i) else if z1 ≠ 0 then some (o + 0xA, i)
      else if crc ≠ 0 then some (o + 0xC, i) else tileEntryFault e w total maxL base m (i + 1) next
    else if off % 4 ≠ 0 ∨ off < next ∨ total < off + len then some (o, i)
    else if len < 3 ∨ 32768 < len then some (o + 4, i)
    else if lay = 0 ∨ maxL < lay then some (o + 6, i)
    else if z1 < z0 then some (o + 8, i)
    else if z1 = 0xFFFF then some (o + 0xA, i)
    else tileEntryFault e w total maxL base m (i + 1) (roundUp (off + len) 4)

/-- The first failure of sheet validation: code of R128, byte offset, tile (tx, ty). `bs` is the bank's
first `size` bytes on demand: `e o n` the little-endian field, `bytes o n` its bytes. -/
def sheetFault (e : Nat → Nat → Nat) (bytes : Nat → Nat → List Byte) (size : Nat) (fast : Bool) :
    Option (Nat × Nat × Nat × Nat) :=
  let f (c o : Nat) : Option (Nat × Nat × Nat × Nat) := some (c, o, 0, 0)
  let total := e 8 4
  let w := e 0x18 2
  let h := e 0x1A 2
  let idx := 0x80 + 16 * (w * h)
  let fl := e 0x1D 1
  let bias := signedOf 32 (e 0x24 4)
  if e 0 4 ≠ 0x54414E53 then f 1 0
  else if e 6 2 ≠ 128 then f 1 6
  else if e 4 2 ≠ 0x0100 then f 2 4
  else if size < total ∨ total < idx then f 3 8
  else if crc32c (bytes 0 0xC ++ leBytes 4 0 ++ bytes 0x10 (idx - 0x10)) ≠ e 0xC 4 then f 4 0xC
  else if w = 0 ∨ 256 < w then f 5 0x18
  else if h = 0 ∨ 256 < h then f 5 0x1A
  else if e 0x1C 1 ≠ 8 ∧ e 0x1C 1 ≠ 10 then f 5 0x1C
  else if 1 < bits fl 3 2 ∨ bits fl 7 6 ≠ 0 then f 5 0x1D
  else if e 0x1E 1 = 0 ∨ 4 < e 0x1E 1 then f 5 0x1E
  else if e 0x1F 1 ≠ 0 then f 5 0x1F
  else if e 0x20 4 = 0 ∨ 1000000 < e 0x20 4 then f 5 0x20
  else if bias < -1000000 ∨ 1000000 < bias then f 5 0x24
  else match (List.range 24).find? (fun k => e (0x68 + k) 1 ≠ 0) with
    | some k => f 5 (0x68 + k)
    | none => match poseFault ((List.range 16).map (fun k => e (0x28 + 4 * k) 4)) with
      | some k => f 6 (0x28 + 4 * k)
      | none =>
        let tile (c o i : Nat) : Option (Nat × Nat × Nat × Nat) := some (c, o, i % w, i / w)
        match tileEntryFault e w total (e 0x1E 1) 0x80 (w * h) 0 idx with
        | some (o, i) => tile 7 o i
        | none =>
          if fast then none
          else
            let full := (List.range (w * h)).filter (fun i => e (0x80 + 16 * i + 4) 2 ≠ 0)
            match full.find? (fun i => crc32c (bytes (e (0x80 + 16 * i) 4) (e (0x84 + 16 * i) 2)) ≠
                e (0x8C + 16 * i) 4) with
            | some i => tile 8 (0x8C + 16 * i) i
            | none =>
              match full.find? (fun i => (decodeTile (e 0x1C 1) (bit fl 0) (e (0x86 + 16 * i) 1)
                  (e (0x88 + 16 * i) 2) (e (0x8A + 16 * i) 2)
                  (bytes (e (0x80 + 16 * i) 4) (e (0x84 + 16 * i) 2))).isNone) with
              | some i => tile 9 (e (0x80 + 16 * i) 4) i
              | none => none

/-- What the device keeps for sheet slot `k`. -/
def State.sheetSlot (s : State) (k : Nat) : AtlasSlot := aget {} k s.atl.slots

/-- Replace it. -/
def State.setSheetSlot (s : State) (k : Nat) (v : AtlasSlot) : State :=
  { s with atl := { s.atl with slots := aset {} k v s.atl.slots } }

/-- A bit of ATL_SLOTs_STATE: 0 ACTIVE_BANK, 1 INACTIVE_VALID, 2 PENDING, 3 DRAINING, 4 CLEARED,
5 ASSEMBLING. -/
def State.sheetBit (s : State) (k i : Nat) : Bool := s.bitAt (Reg.ATL_SLOT_STATE k) i

/-- Write such a bit. -/
def State.setSheetBit (s : State) (k i : Nat) (b : Bool) : State := s.setBit (Reg.ATL_SLOT_STATE k) i b

/-- The bank that is not active. -/
def State.inactiveBank (s : State) (k : Nat) : Nat := if s.sheetBit k 0 then 0 else 1

/-- EN, SOURCE and CTX of a slot in force. -/
def State.sheetEn (s : State) (k : Nat) : Bool := bit (s.inForce (Reg.ATL_SLOT_CFG k)) 0

/-- SOURCE is UDP. -/
def State.sheetUdp (s : State) (k : Nat) : Bool := bit (s.inForce (Reg.ATL_SLOT_CFG k)) 1

/-- CTX of a slot in force. -/
def State.sheetCtx (s : State) (k : Nat) : Nat := s.forceFld (Reg.ATL_SLOT_CFG k) 25 16

/-- The slot shows its active sheet. -/
def State.sheetShown (s : State) (k : Nat) : Bool :=
  s.bitAt Reg.ATL_CTRL 0 && s.sheetEn k && (s.sheetSlot k).hasSheet && !(s.sheetBit k 4)

/-- Write ERR and the slot of the last command, and COMMIT_ERR for a non-zero ERR (R128). -/
def State.sheetErr (s : State) (k err : Nat) : State :=
  let s1 := ((s.setFld Reg.ATL_SHEET_STATUS 15 8 err).setFld Reg.ATL_SHEET_STATUS 21 16 k).setFld
    (Reg.ATL_SLOT_STATE k) 15 8 err
  if err = 0 then s1 else s1.raise Page.ATL 0

/-- Validation of the inactive bank begins (R127). -/
def State.startSheetCheck (s : State) (k : Nat) : State :=
  let s1 := if s.atl.validating = [] then { s with atl := { s.atl with modified := false } } else s
  ({ s1 with atl := { s1.atl with validating := s1.atl.validating ++ [k] } }).setBit
    Reg.ATL_SHEET_STATUS 0 true

/-- ATL_SHEET_CMD (R127 to R129): OP 1 COMMIT, 2 CLEAR; other OPs name no operation. -/
def State.sheetCmd (s : State) (v : Nat) : State :=
  let k := bits v 5 0
  let op := bits v 9 8
  if op ≠ 1 ∧ op ≠ 2 then s
  else if s.sheetBit k 2 then s.sheetErr k 0x0B
  else if s.bitAt Reg.ATL_SHEET_STATUS 0 then s.sheetErr k 0x0C
  else if !(s.sheetEn k) || s.sheetUdp k || s.sheetBit k 3 then s.sheetErr k 0x0D
  else if op = 1 then (s.setFld Reg.ATL_SHEET_STATUS 21 16 k).startSheetCheck k
  else ((s.sheetErr k 0).setSheetBit k 2 true).setSheetSlot k
    { s.sheetSlot k with clearPend := true, pendAt := s.clk }

/-- A sheet in assembly is abandoned, counted, and raises UDP_ABANDON (R134). -/
def State.sheetAbandon (s : State) (k : Nat) : State :=
  match (s.sheetSlot k).asm with
  | none => s
  | some _ =>
    ((((s.setSheetSlot k { s.sheetSlot k with asm := none }).setSheetBit k 5 false).inc
      Reg.ATL_UDP_ABANDON_COUNT)).raise Page.ATL 2

/-- A sheet in assembly is given up by a change of its context or slot: it is abandoned, and its validation,
if it was complete, ends without a commit (R134). -/
def State.sheetGiveUp (s : State) (k : Nat) : State :=
  match (s.sheetSlot k).asm with
  | none => s
  | some a =>
    let s1 := s.sheetAbandon k
    if a.complete then
      let rest := s1.atl.validating.filter (fun x => !(x = k))
      ({ s1 with atl := { s1.atl with validating := rest } }).setBit Reg.ATL_SHEET_STATUS 0 (decide (rest ≠ []))
    else s1

/-- A context was closed or reopened: its sheet in assembly is abandoned (R134). -/
def State.sheetCtxClosed (s : State) (i : Nat) : State :=
  (List.range 64).foldl (fun t k => match (t.sheetSlot k).asm with
    | some a => if a.ctx = i then t.sheetGiveUp k else t
    | none => t) s

/-- A write of ATL_SLOTs_CFG by domain `d` (R134, R136): a second enabled slot for the same context keeps
its configuration. The value takes effect at the next gate. -/
def State.writeSlotCfg (s : State) (d : Dom) (k v : Nat) : State :=
  let a := Reg.ATL_SLOT_CFG k
  let names (j : Nat) : Bool := s.bitAt (Reg.ATL_SLOT_CFG j) 0 && s.bitAt (Reg.ATL_SLOT_CFG j) 1 &&
    decide (s.fld (Reg.ATL_SLOT_CFG j) 25 16 = bits v 25 16)
  if bit v 0 ∧ bit v 1 ∧ (List.range 64).any (fun j => decide (j ≠ k) && names j) then s.writeIgnored d a v
  else (s.wr a v).sheetGiveUp k

/-- ATL_STORE_BASE and ATL_SLOT_SIZE accept writes while every slot has EN 0. -/
def State.sheetStoreIdle (s : State) : Bool :=
  (List.range 64).all (fun k => !(s.bitAt (Reg.ATL_SLOT_CFG k) 0) && !(s.sheetEn k))

/-- SHEET_VALIDATE_DONE: the bank becomes VALID and PENDING, or ERR is written (R127, R128). -/
def execSheetValidateDone (s : State) : Out :=
  match s.atl.validating with
  | [] => done s s
  | k :: rest =>
    let s1 := { s with atl := { s.atl with validating := rest, modified := false } }
    let s2 := s1.setBit Reg.ATL_SHEET_STATUS 0 (decide (rest ≠ []))
    let base := s.sheetBase k (s.inactiveBank k)
    let fault := sheetFault (fun o n => s.dramLe (base + o) n) (fun o n => s.dramBytes (base + o) n)
      s.sheetBankSize (s.bitAt Reg.ATL_CFG 0)
    let err := if s.atl.modified then some (0x0A, 0, 0, 0)
      else if s.dramPoison base (s.dramLe (base + 8) 4) ∧ fault = none then some (0x08, 0, 0, 0) else fault
    match err with
    | none =>
      let s3 := ((s2.sheetErr k 0).setSheetBit k 1 true).setSheetBit k 2 true
      let s4 := match (s3.sheetSlot k).asm with
        | some _ => s3.setSheetBit k 5 false
        | none => s3
      done s (s4.setSheetSlot k { s4.sheetSlot k with clearPend := false, asm := none, pendAt := s.clk })
    | some (c, o, tx, ty) =>
      let s3 := (s2.sheetErr k c).wr Reg.ATL_ERR_OFFSET o
      let s4 := if 7 ≤ c ∧ c ≤ 9 then s3.wr Reg.ATL_ERR_TILE (tx + ty * 0x10000) else s3
      let s5 := s4.setSheetBit k 1 false
      match (s5.sheetSlot k).asm with
      | some a => done s (if a.complete then s5.sheetAbandon k else s5)
      | none => done s s5

/-- A write reaches bank `b` of slot `k`: an inactive bank loses VALID, and a check of it sees MODIFIED
(R126, R128). -/
def State.sheetTouched (s : State) (k b : Nat) : State :=
  if b ≠ s.inactiveBank k then s
  else
    let s1 := s.setSheetBit k 1 false
    if s1.atl.validating.contains k then { s1 with atl := { s1.atl with modified := true } } else s1

/-- The slot that names context `i` (R131). -/
def State.sheetSlotOf (s : State) (i : Nat) : Option Nat :=
  (List.range 64).find? (fun k => s.sheetEn k && s.sheetUdp k && decide (s.sheetCtx k = i))

/-- A datagram is dropped and counted. -/
def State.fragDrop (s : State) : State := s.inc Reg.ATL_UDP_DROP_COUNT

/-- The fragment obeys R132 and R133, and lies in the slot's bank. -/
def State.fragOk (s : State) (f : AtlasFrag) : Bool :=
  f.magicOk && decide (f.version = 1) && decide (f.fragOffset % 64 = 0) && decide (64 ≤ f.data.length) &&
  decide (f.data.length ≤ s.rd Reg.ATL_UDP_MAX_FRAG) && decide (f.fragOffset + f.data.length ≤ f.totalSize) &&
  (decide (f.data.length % 64 = 0) || decide (f.fragOffset + f.data.length = f.totalSize)) &&
  decide (f.totalSize ≤ s.sheetBankSize)

/-- Write a fragment of the sheet in assembly, record its granules, and commit a sheet that is complete
(R133, R134). -/
def State.fragAccept (s : State) (k : Nat) (a : SheetAsm) (f : AtlasFrag) : State :=
  let b := s.inactiveBank k
  let s1 := (s.dramPut (s.ctxClass a.ctx + 1) 2 (s.sheetBase k b + f.fragOffset) f.data).sheetTouched k b
  let gs := (List.range (ceilDiv f.data.length 64)).map (fun i => f.fragOffset / 64 + i)
  let a1 := { a with covered := gs.filter (fun g => !(a.covered.contains g)) ++ a.covered }
  let s2 := s1.setSheetBit k 5 true
  if !a1.complete ∧ a1.covered.length = ceilDiv a1.total 64 then
    let s3 := s2.setSheetSlot k { s2.sheetSlot k with
      asm := some { a1 with complete := true }, lastDone := some a1.seq }
    ((s3.inc Reg.ATL_UDP_DONE_COUNT).raise Page.ATL 1).startSheetCheck k
  else s2.setSheetSlot k { s2.sheetSlot k with asm := some a1 }

/-- ATLAS_FRAGMENT_RX (R131 to R134). -/
def execAtlasFragmentRx (f : AtlasFrag) (s : State) : Out :=
  if !(s.bitAt Reg.ING_CTRL 0) || s.shut then done s s
  else match s.matchCtx f.port f.udpPort f.streamId with
    | none => done s (s.unmatched f.port f.streamId)
    | some i =>
      if s.ctxType i ≠ 2 then done s s
      else match s.sheetSlotOf i with
        | none => done s s.fragDrop
        | some k =>
          let t := s.sheetSlot k
          if !(s.fragOk f) then done s s.fragDrop
          else if s.sheetBit k 2 ∨ s.sheetBit k 3 then
            done s ((s.setSheetSlot k { t with dead := f.sheetSeq :: t.dead.filter (fun n => !(n = f.sheetSeq)) }).fragDrop)
          else if t.dead.contains f.sheetSeq then done s s.fragDrop
          else
            let fresh : SheetAsm := {
              seq := f.sheetSeq, total := f.totalSize, covered := []
              deadline := s.clk + s.ctxAsmNs i, gen := s.ctxGen i, ctx := i, complete := false }
            match t.asm with
            | some a =>
              if a.seq = f.sheetSeq then
                (if a.complete ∨ a.total ≠ f.totalSize then done s s.fragDrop
                 else done s (s.fragAccept k a f))
              else if 0 < wrapDiff 32 f.sheetSeq a.seq then
                done s ((s.sheetAbandon k).fragAccept k fresh f)
              else done s s.fragDrop
            | none =>
              (match t.lastDone with
              | some n => if wrapDiff 32 f.sheetSeq n ≤ 0 then done s s.fragDrop
                  else done s (s.fragAccept k fresh f)
              | none => done s (s.fragAccept k fresh f))

/-- SHEET_ASM_TIMEOUT: a sheet in assembly is not complete in time (R134). -/
def execSheetAsmTimeout (slot : Nat) (s : State) : Out :=
  match (s.sheetSlot slot).asm with
  | none => done s s
  | some a => if a.deadline ≤ s.clk ∧ !a.complete then done s (s.sheetAbandon slot) else done s s

/-- A tile is omitted from a frame (R130). -/
def State.tileErr (s : State) (k tx ty : Nat) (poison : Bool) : State :=
  ((s.inc Reg.ATL_TILE_ERR_COUNT).wr Reg.ATL_TILE_ERR_LAST
    (k % 64 + (tx % 256) * 0x100 + (ty % 256) * 0x10000 + (if poison then 0x1000000 else 0))).raise Page.ATL 3

/-- The draining banks whose last reading frame has been synthesised become inactive (R129). `fs` is the
frame whose last line was synthesised. -/
def State.sheetDrained (s : State) (fs : Nat) : State :=
  (List.range 64).foldl (fun (t : State) (k : Nat) =>
    if t.sheetBit k 3 ∧ 0 ≤ wrapDiff 32 fs (t.sheetSlot k).drainEnd then t.setSheetBit k 3 false else t) s

/-- A slot's part of a Frame Gate with new FRAME_SEQ `fs` (R129): its configuration in force changes, and a
pending commit or clear that the gate sees takes effect. `finished`: every earlier frame is synthesised. -/
def State.sheetSlotGate (s : State) (fs : Nat) (finished : Bool) (k : Nat) : State :=
  let cfg := Reg.ATL_SLOT_CFG k
  let off := s.sheetEn k && !(s.bitAt cfg 0)
  let s1 := { s with force := aset (regReset s.dev cfg) cfg (s.reg cfg) s.force }
  let s2 := if off then (s1.setSheetBit k 2 false).setSheetSlot k { s1.sheetSlot k with clearPend := false }
    else s1
  let t := s2.sheetSlot k
  if !(s2.sheetBit k 2) || !(s2.visible t.pendAt) then s2
  else if t.clearPend then
    (((s2.setSheetBit k 2 false).setSheetBit k 4 true).wr (Reg.ATL_SLOT_COMMIT_SEQ k) fs).setSheetSlot k
      { t with clearPend := false }
  else
    let shown := t.hasSheet && !(s2.sheetBit k 4) && !off
    let b := s2.inactiveBank k
    let ver := s2.dramLe (s2.sheetBase k b + 0x14) 4
    let s3 := ((((s2.setSheetBit k 0 (decide (b = 1))).setSheetBit k 1 t.hasSheet).setSheetBit k 2 false).setSheetBit
      k 4 false).setFld (Reg.ATL_SLOT_STATE k) 31 16 (ver % 65536)
    let s4 := (s3.setSheetBit k 3 (shown && !finished)).wr (Reg.ATL_SLOT_COMMIT_SEQ k) fs
    s4.setSheetSlot k { t with hasSheet := true, drainEnd := (fs + 2 ^ 32 - 1) % 2 ^ 32 }

/-- The Atlas block's part of a Frame Gate. -/
def State.sheetGate (s : State) (fs : Nat) (finished : Bool) : State :=
  (List.range 64).foldl (fun t k => t.sheetSlotGate fs finished k) s

/-- A Gangway write to byte `off` of bank `b` of slot `k` is refused (R126). -/
def State.sheetWriteRefused (s : State) (k b off : Nat) : Bool :=
  decide (b ≠ s.inactiveBank k) || s.sheetBit k 2 || s.sheetBit k 3 || s.sheetUdp k || !(s.sheetEn k) ||
    decide (s.sheetBankSize ≤ off)

end Sys2Proof.Machine
end

