-- ==== Sys2Proof/Machine/LandBase.lean ====
section
/-! DEFINITION. The Landings and the helm token as other blocks see them (R15, R326 to R328). -/

namespace Sys2Proof.Machine

/-- What the device keeps for a Landing. -/
def State.land (s : State) (l : Landing) : LandingSt := match l with | .a => s.moor.a | .b => s.moor.b

/-- Replace it. -/
def State.setLand (s : State) (l : Landing) (x : LandingSt) : State :=
  match l with
  | .a => { s with moor := { s.moor with a := x } }
  | .b => { s with moor := { s.moor with b := x } }

/-- LNDx_STATUS.STATE: 0 reset, 1 ROM, 2 booting, 3 standby, 4 active, 5 Slipway mode, 6 fenced. -/
def State.landState (s : State) (l : Landing) : Nat := s.fld (Reg.LND_STATUS l.idx) 2 0

/-- LNDx_STATUS.SYNCED. -/
def State.synced (s : State) (l : Landing) : Bool := s.bitAt (Reg.LND_STATUS l.idx) 3

/-- The preferred Landing, MOOR_PREFERRED. -/
def State.preferred (s : State) : Landing := Landing.ofIdx (s.fld Reg.MOOR_PREFERRED 0 0)

/-- The conditions under which the preferred Landing takes control back (R343). -/
def State.revertOk (s : State) : Bool :=
  let p := s.preferred
  decide (s.landState p = 3) && s.bitAt (Reg.LND_STATUS p.idx) 4 && s.synced p && s.bitAt Reg.MOOR_REVERT 0 &&
    s.moor.drill.isNone

/-- The revert hold-off runs while those conditions hold, and restarts when one lapses; a revert that waits for its gate is
then given up (R343). -/
def State.revertWatch (s : State) : State :=
  { s with moor := { s.moor with
      revertFrom := if s.revertOk then (match s.moor.revertFrom with | some t => some t | none => some s.clk) else none
      swapWant := if s.moor.swapWant = 3 ∧ s.revertOk = false ∧ s.moor.swapAtGate = false then 0 else s.moor.swapWant } }

/-- No Landing runs its firmware, and one is in Slipway mode: basic mode (R365). -/
def State.basicMode (s : State) : Bool :=
  let st := [s.landState .a, s.landState .b]
  st.contains 5 && !(st.contains 3) && !(st.contains 4)

/-- Change LNDx_STATUS.STATE, which raises STATE_CHANGE (R347); NO_LANDING follows (R365). -/
def State.setLandState (s : State) (l : Landing) (n : Nat) : State :=
  if s.landState l = n then s
  else
    let t := (s.setFld (Reg.LND_STATUS l.idx) 2 0 n).raise (Page.LND l.idx) 0
    (t.setBit Reg.BOOT_STATUS 4 t.basicMode).revertWatch

/-- The Landing that holds the helm token; none while it is FREE (R328). -/
def State.holder (s : State) : Option Landing :=
  if s.bitAt Reg.MOOR_STATUS 1 then none else some (Landing.ofIdx (s.fld Reg.MOOR_STATUS 0 0))

/-- The token passes to a Landing, or becomes FREE. -/
def State.setHolder (s : State) (h : Option Landing) : State :=
  match h with
  | none => s.setBit Reg.MOOR_STATUS 1 true
  | some l => (s.setBit Reg.MOOR_STATUS 1 false).setFld Reg.MOOR_STATUS 0 0 l.idx

/-- The active Landing: the holder, once its firmware runs (R361). -/
def State.active (s : State) : Option Landing :=
  match s.holder with
  | some l => if s.landState l = 4 then some l else none
  | none => none

/-- The Landing beside the holder. -/
def State.standby (s : State) : Option Landing := s.holder.map Landing.other

/-- The claim that the Mooring keeps of a Landing (R329). -/
def State.claimOf (s : State) (l : Landing) : Option Nat := match l with | .a => s.moor.claimA | .b => s.moor.claimB

/-- A switch-over is in progress (R340): from a claim of the standby to the end of the handover, or during a
planned swap. -/
def State.switching (s : State) : Bool :=
  s.moor.hold || s.moor.lastHolder.isSome || s.moor.window.isSome ||
    (match s.standby with
      | some l => (s.claimOf l).isSome
      | none => false)

/-- A 4-byte little-endian field of a Landing's flash. -/
def State.flashLe (s : State) (l : Landing) (a n : Nat) : Nat := leNat (s.flashBytes l a n)

end Sys2Proof.Machine
end

