-- ==== Sys2Proof/Machine/Logbook.lean ====
section
/-! DEFINITION. The Logbook (R370 to R379): pool sectors, banks, records, appending, mirroring, compaction
and replay. -/

namespace Sys2Proof.Machine

/-- The Logbook of a Landing. -/
def State.side (s : State) (l : Landing) : LogSide := match l with | .a => s.log.a | .b => s.log.b

/-- Replace it. -/
def State.setSide (s : State) (l : Landing) (x : LogSide) : State :=
  match l with
  | .a => { s with log := { s.log with a := x } }
  | .b => { s with log := { s.log with b := x } }

/-- Flash address of pool sector `k` (R370). -/
def sectorAddr (k : Nat) : Nat := 0x2040000 + 0x10000 * k

/-- Pool sectors, and record bytes in a sector (R370). -/
def poolSectors : Nat := 1532
def sectorRoom : Nat := 65536 - 64

/-- The bytes of the pool in a Landing's flash (R370). -/
def State.pool (s : State) (l : Landing) : List Host.Cell := adrop (fun a => decide (a < 0x2040000)) (s.flash l)

/-- A little-endian field of the pool. -/
def poolLe (m : List Host.Cell) (a n : Nat) : Nat := leNat (agetMany 0xFF a n m)

/-- The erase part of a sector verifies (R370). -/
def erasePartOk (m : List Host.Cell) (k : Nat) : Bool :=
  decide (poolLe m (sectorAddr k) 4 = 0x424C4E53) &&
    decide (poolLe m (sectorAddr k + 8) 4 = crc32c (agetMany 0xFF (sectorAddr k) 8 m))

/-- ERASE_COUNT of every sector; one whose erase part fails its CRC has the highest count found (R370). -/
def State.eraseCounts (s : State) (l : Landing) : List Nat :=
  let m := s.pool l
  let found := (List.range poolSectors).map (fun k =>
    if erasePartOk m k then some (poolLe m (sectorAddr k + 4) 4) else none)
  let top := found.foldl (fun (n : Nat) (x : Option Nat) => max n (x.getD 0)) 0
  found.map (fun x => x.getD top)

/-- ERASE_COUNT of a sector. -/
def State.eraseCount (s : State) (l : Landing) (k : Nat) : Nat := (s.eraseCounts l).getD k 0

/-- A sector that no bank owns (R370). -/
def sectorFree (m : List Host.Cell) (k : Nat) : Bool := decide (poolLe m (sectorAddr k + 0x10) 4 = 0xFFFFFFFF)

/-- The free sector of lowest ERASE_COUNT, ties to the lower address (R377). -/
def State.pickSector (s : State) (l : Landing) : Option Nat :=
  let m := s.pool l
  (((s.eraseCounts l).zipIdx.filter (fun x => sectorFree m x.2)).foldl
    (fun (b : Option (Nat × Nat)) (x : Nat × Nat) =>
      match b with
      | none => some x
      | some y => if x.1 < y.1 then some x else b) none).map Prod.snd

/-- Allocate a sector to a bank: its bank part is written (R370). -/
def State.allocSector (s : State) (l : Landing) (b : LogBank) : State × LogBank :=
  match s.pickSector l with
  | none => (s, b)
  | some k =>
    let head := leBytes 4 b.gen ++ leBytes 2 b.sectors.length ++ [0xFF, 0xFF]
    (s.flashPut l (sectorAddr k + 0x10) (head ++ leBytes 4 (crc32c head)),
      { b with sectors := b.sectors ++ [k] })

/-- Allocate sectors until the bank holds `n` (at most 256, R371). -/
def State.growBank (s : State) (l : Landing) (b : LogBank) (n : Nat) : State × LogBank :=
  (List.range (min n 256 - b.sectors.length)).foldl
    (fun (x : State × LogBank) _ => x.1.allocSector l x.2) (s, b)

/-- Write bytes at position `pos` of a bank's record stream (R371). -/
def State.streamPut (s : State) (l : Landing) (b : LogBank) (pos : Nat) (bs : List Byte) : State :=
  b.sectors.zipIdx.foldl (fun (t : State) (x : Nat × Nat) =>
    let lo := x.2 * sectorRoom
    let from_ := max lo pos
    let part := (bs.drop (from_ - pos)).take (lo + sectorRoom - from_)
    if pos + bs.length ≤ lo || lo + sectorRoom ≤ pos then t
    else t.flashPut l (sectorAddr x.1 + 64 + (from_ - lo)) part) s

/-- Byte `p` of a bank's record stream; 0xFF beyond its end (R371). -/
def State.streamByte (s : State) (l : Landing) (b : LogBank) (p : Nat) : Byte :=
  match b.sectors[p / sectorRoom]? with
  | some k => if p < b.len then aget 0xFF (sectorAddr k + 64 + p % sectorRoom) (s.flash l) else 0xFF
  | none => 0xFF

/-- `n` bytes of a bank's sectors at stream position `p`, whatever the stream's length. -/
def State.rawStream (s : State) (l : Landing) (b : LogBank) (p n : Nat) : List Byte :=
  (List.range n).map (fun i => match b.sectors[(p + i) / sectorRoom]? with
    | some k => aget 0xFF (sectorAddr k + 64 + (p + i) % sectorRoom) (s.flash l)
    | none => 0xFF)

/-- The bytes of a record: header and payload (R372). -/
def recBytes (r : LogRec) : List Byte :=
  let head := leBytes 2 r.ty ++ [1, 0] ++ leBytes 4 r.payload.length ++ leBytes 4 r.seq
  head ++ leBytes 4 (crc32c (head ++ [0, 0, 0, 0] ++ r.payload)) ++ r.payload

/-- Records start on 16-byte boundaries (R372). -/
def align16 (n : Nat) : Nat := (n + 15) / 16 * 16

/-- CRC of a record. -/
def recCrc (r : LogRec) : Nat := leNat (((recBytes r).drop 12).take 4)

/-- Sectors that a stream of `n` bytes takes. -/
def sectorsFor (n : Nat) : Nat := ceilDiv n sectorRoom

/-- A record fits in a bank of 256 sectors (R371). -/
def LogBank.fits (b : LogBank) (r : LogRec) : Bool :=
  decide (align16 b.len + 16 + r.payload.length ≤ 256 * sectorRoom)

/-- Append a record to a bank. -/
def State.bankAppend (s : State) (l : Landing) (b : LogBank) (r : LogRec) : State × LogBank :=
  let pos := align16 b.len
  let bs := recBytes r
  let x := s.growBank l b (sectorsFor (pos + bs.length))
  (x.1.streamPut l x.2 pos bs, { x.2 with len := pos + bs.length })

/-- Append a record to a Landing's current bank. -/
def State.sideAppend (s : State) (l : Landing) (r : LogRec) : State :=
  let x := s.bankAppend l (s.side l).cur r
  x.1.setSide l { x.1.side l with cur := x.2, seq := r.seq, crc := recCrc r }

/-- The record at position `p` of a bank's sectors, if its header and its CRC hold (R372, R378). -/
def State.recAt (s : State) (l : Landing) (b : LogBank) (p : Nat) : Option LogRec :=
  let h := s.rawStream l b p 16
  let len := leNat ((h.drop 4).take 4)
  if leNat (h.take 2) = 0xFFFF || 8388608 < len then none
  else
    let r : LogRec := { ty := leNat (h.take 2), seq := leNat ((h.drop 8).take 4), payload := s.rawStream l b (p + 16) len }
    if recCrc r = leNat (h.drop 12) then some r else none

/-- The records of a bank from position `p` on, up to the first that does not verify. -/
def State.recsFrom (s : State) (l : Landing) (b : LogBank) : Nat → Nat → List LogRec
  | 0, _ => []
  | fuel + 1, p => match s.recAt l b p with
    | some r => r :: s.recsFrom l b fuel (align16 (p + 16 + r.payload.length))
    | none => []

/-- The records of a bank (a bank holds at most 16 MiB, so at most 2^20 records). -/
def State.bankRecs (s : State) (l : Landing) (b : LogBank) : List LogRec :=
  s.recsFrom l b (b.len / 16 + 1) 0

/-- Sequence numbers compare by their 32-bit difference (R286): `a` is newer than `b`. -/
def seqNewer (a b : Nat) : Bool := decide (0 < signedOf 32 (a + 2 ^ 32 - b % 2 ^ 32))

/-- The Landing's newest-record registers and sector count follow the active Landing's Logbook. -/
def State.logRegs (s : State) (l : Landing) : State :=
  (((s.wr Reg.LOGB_SEQ (s.side l).seq).wr Reg.LOGB_BANK_GEN (s.side l).cur.gen).setFld Reg.LOGB_STATUS 16 8
    (s.side l).cur.sectors.length)

/-- MIRROR_SYNC changes; MIRROR_LOST is raised when it falls (R376, R386). -/
def State.setMirror (s : State) (b : Bool) : State :=
  let t := if s.bitAt Reg.LOGB_STATUS 2 && !b then s.raise Page.LOGB 1 else s
  t.setBit Reg.LOGB_STATUS 2 b

/-- The active Landing appends a record to its current bank and sends it to a SYNCED standby (R375). -/
def State.logAppend (s : State) (l : Landing) (ty : Nat) (payload : List Byte) : State :=
  let r : LogRec := { ty := ty, seq := ((s.side l).seq + 1) % 2 ^ 32, payload := payload }
  let t := (s.sideAppend l r).logRegs l
  let u := t.setMirror false
  if u.synced l.other then { u with log := { u.log with mirror := u.log.mirror ++ [some r] } } else u

/-- Bytes of the waiting records with their headers. -/
def State.waitBytes (s : State) : Nat := (s.log.waiting.map (fun r => align16 (16 + r.2.length))).sum

/-- A record waits in the buffer of 256 KiB, or is dropped (R377). -/
def State.logWait (s : State) (ty : Nat) (payload : List Byte) : State :=
  if 262144 < s.waitBytes + align16 (16 + payload.length) then (s.inc Reg.LOGB_DROP_COUNT).raise Page.LOGB 3
  else { s with log := { s.log with waiting := s.log.waiting ++ [(ty, payload)] } }

/-- A compaction runs. -/
def State.compacting (s : State) : Bool := s.bitAt Reg.LOGB_STATUS 1

/-- A bank's records that compaction keeps, by type and newest-first rank among its kind (R373): `newer` are
the records after it. The wear records are folded into the snapshot. -/
def keepRec (r : LogRec) (newer : List LogRec) : Bool :=
  let same := newer.filter (fun x => decide (x.ty = r.ty))
  if r.ty = 2 || r.ty = 9 then decide (same.length < 1024)
  else if r.ty = 3 || r.ty = 4 || r.ty = 5 then true
  else if r.ty = 6 then !(same.any (fun x => decide (x.payload.take 4 = r.payload.take 4)))
  else if r.ty = 10 then same.isEmpty
  else false

/-- The records that compaction keeps, in SEQ order (R373, R377). -/
def keptRecs : List LogRec → List LogRec
  | [] => []
  | r :: rs => if keepRec r rs then r :: keptRecs rs else keptRecs rs

/-- The newest wear record of a list: WEAR_DELTA or WEAR_SNAPSHOT. -/
def newestWear (rs : List LogRec) : Option LogRec :=
  (rs.filter (fun r => decide (r.ty = 7) || decide (r.ty = 8))).getLast?

/-- Step 2 of a compaction: the kept records, and one WEAR_SNAPSHOT of the journalled ledger under the SEQ of
the newest wear record folded into it (R377); a wear record `under` way, which the journalled ledger does not hold yet
(R381), follows it. -/
def compactContent (rs : List LogRec) (snapshot : List Byte) (under : Option Nat) : List LogRec :=
  let new := fun (r : LogRec) => (decide (r.ty = 7) || decide (r.ty = 8)) && decide (some r.seq = under)
  keptRecs rs ++ (match newestWear (rs.filter (fun r => !(new r))) with
    | some r => [{ ty := 8, seq := r.seq, payload := snapshot }]
    | none => []) ++ rs.filter new

/-- Write records to a bank. -/
def State.bankAppendAll (s : State) (l : Landing) (b : LogBank) (rs : List LogRec) : State × LogBank :=
  rs.foldl (fun (x : State × LogBank) (r : LogRec) => x.1.bankAppend l x.2 r) (s, b)

/-- Steps 1 and 2 of a compaction (R377), on one Landing's Logbook. -/
def State.compactBegin (s : State) (l : Landing) (snapshot : List Byte) : State :=
  let b := (s.side l).cur
  let x := s.bankAppendAll l { gen := (b.gen + 1) % 2 ^ 32 }
    (compactContent (s.bankRecs l b) snapshot (s.wear.capture.map WearCapture.seq))
  x.1.setSide l { x.1.side l with target := some x.2 }

/-- Erase a pool sector and write its erase part (R370, R377). -/
def State.eraseSector (s : State) (l : Landing) (k : Nat) : State :=
  let n := s.eraseCount l k + 1
  let head := leBytes 4 0x424C4E53 ++ leBytes 4 n
  (s.flashErase l (sectorAddr k) 0x10000).flashPut l (sectorAddr k) (head ++ leBytes 4 (crc32c head))

/-- COMPACT_END of a Landing's compaction, under the next SEQ (R373). -/
def State.compactEndRec (s : State) (l : Landing) : LogRec :=
  { ty := 11, seq := ((s.side l).seq + 1) % 2 ^ 32
    payload := leBytes 4 (s.side l).seq ++ leBytes 4 (s.side l).cur.gen ++ leBytes 8 0 }

/-- Steps 3 to 5 of a compaction (R377), on one Landing's Logbook: later records are copied, COMPACT_END is
written, the new bank becomes current, the old one is erased. -/
def State.compactFinish (s : State) (l : Landing) (covered : Nat) (endRec : LogRec) : State :=
  match (s.side l).target with
  | none => s
  | some tb =>
    let old := (s.side l).cur
    let later := (s.bankRecs l old).filter (fun r => seqNewer r.seq covered)
    let x := s.bankAppendAll l tb (later ++ [endRec])
    let t := x.1.setSide l { x.1.side l with cur := x.2, target := none, seq := endRec.seq, crc := recCrc endRec }
    old.sectors.foldl (fun (u : State) (k : Nat) => u.eraseSector l k) t

/-- The spread of the erase counts (R379). -/
def State.eraseRegs (s : State) (l : Landing) : State :=
  let cs := s.eraseCounts l
  (s.wr Reg.LOGB_ERASE_MIN (cs.foldl min (cs.headD 0))).wr Reg.LOGB_ERASE_MAX (cs.foldl max 0)

/-- Pool sectors of generation `g` whose bank part verifies, in INDEX order (R371). -/
def State.bankOf (s : State) (l : Landing) (g : Nat) : LogBank :=
  let mine := (List.range poolSectors).filter (fun k =>
    let a := sectorAddr k + 0x10
    decide (s.flashLe l a 4 = g) && decide (s.flashLe l (a + 8) 4 = crc32c (s.flashBytes l a 8)))
  let secs := (List.range 256).filterMap (fun i =>
    mine.find? (fun k => decide (s.flashLe l (sectorAddr k + 0x14) 2 = i)))
  { gen := g, sectors := secs, len := secs.length * sectorRoom }

/-- Generations that own a sector. -/
def State.poolGens (s : State) (l : Landing) : List Nat :=
  ((List.range poolSectors).map (fun k => s.flashLe l (sectorAddr k + 0x10) 4)).foldl
    (fun (gs : List Nat) (g : Nat) => if g = 0xFFFFFFFF || gs.contains g then gs else g :: gs) []

/-- The records before and with the last COMPACT_END, then the run of records whose SEQ rises by 1 (R378). -/
def validTail : LogRec → List LogRec → List LogRec
  | _, [] => []
  | p, r :: rs => if r.seq = (p.seq + 1) % 2 ^ 32 then r :: validTail r rs else []

/-- Split a record list after its first COMPACT_END. -/
def splitEnd : List LogRec → Option (List LogRec × LogRec × List LogRec)
  | [] => none
  | r :: rs => if r.ty = 11 then some ([], r, rs)
    else match splitEnd rs with
      | some (h, e, t) => some (r :: h, e, t)
      | none => none

/-- Length of the stream of a record list. -/
def streamLen (rs : List LogRec) : Nat :=
  rs.foldl (fun n r => align16 n + 16 + r.payload.length) 0

/-- The records of a bank that a replay takes as valid (R378). -/
def State.replayRecs (s : State) (l : Landing) (b : LogBank) : Option (List LogRec) :=
  match splitEnd (s.bankRecs l b) with
  | some (h, e, t) => some (h ++ [e] ++ validTail e t)
  | none => none

/-- The bank of highest generation whose COMPACT_END verifies (R378). -/
def State.replayBank (s : State) (l : Landing) : Option (LogBank × List LogRec) :=
  (s.poolGens l).foldl (fun (best : Option (LogBank × List LogRec)) (g : Nat) =>
    let b := s.bankOf l g
    match s.replayRecs l b with
    | none => best
    | some rs =>
      let c : LogBank × List LogRec := ({ b with len := streamLen rs }, rs)
      match best with
      | none => some c
      | some x => if seqNewer g x.1.gen then some c else best) none

/-- The tail is torn: a byte in the 4 KiB after the last valid record is not 0xFF (R378). -/
def State.tornTail (s : State) (l : Landing) (b : LogBank) : Bool :=
  (s.rawStream l b b.len 4096).any (fun x => decide (x ≠ 0xFF))

/-- A FAULT record's payload (R373; the places of its fields are the model's, assumption 10). -/
def faultPayload (page code fs now d0 d1 : Nat) : List Byte :=
  leBytes 4 page ++ leBytes 4 code ++ leBytes 4 fs ++ leBytes 4 0 ++ leBytes 8 now ++ leBytes 4 d0 ++ leBytes 4 d1

/-- A CONFIG_NOTE record's payload: kind, FRAME_SEQ, 24 bytes of values. -/
def notePayload (kind fs : Nat) (vals : List Nat) : List Byte :=
  leBytes 4 kind ++ leBytes 4 fs ++ (vals.flatMap (leBytes 4) ++ List.replicate 24 0).take 24

/-- A boot index record's payload: PHASE, CAUSE, STAGE, DETAIL, FW_VERSION, SVN (R373). -/
def bootPayload (phase cause stage detail fw svn : Nat) : List Byte :=
  leBytes 2 phase ++ leBytes 2 cause ++ leBytes 2 stage ++ leBytes 2 detail ++ leBytes 4 fw ++ leBytes 4 svn

end Sys2Proof.Machine
end

