-- ==== Sys2Proof/Machine/PanelMap.lean ====
section
/-! DEFINITION. Panel geometry and the panel map (R28 to R48): the format, validation and what the active
map gives the rest of the device. -/

namespace Sys2Proof.Machine

/-- Offset of a section of a map, from its directory (R43). -/
def secOff (e : Nat → Nat → Nat) (i : Nat) : Nat := e (0x30 + 8 * i) 4

/-- Size of a section of a map. -/
def secSize (e : Nat → Nat → Nat) (i : Nat) : Nat := e (0x34 + 8 * i) 4

/-- A field of port table entry `p` (R43). -/
def portE (e : Nat → Nat → Nat) (p o n : Nat) : Nat := e (secOff e 0 + 32 * p + o) n

/-- The entries with PORT_ENABLE other than 0 (R48). -/
def portsOn (e : Nat → Nat → Nat) : List Nat := (List.range 64).filter (fun p => decide (portE e p 8 1 ≠ 0))

/-- Ten times the payload rate Lp per lane in Gbit/s of a LANE_RATE (R43). -/
def laneRate10 (r : Nat) : Nat := if r = 0 then 160 else if r = 1 then 125 else 100

/-- The largest region height (R35). -/
def regionHMax (e : Nat → Nat → Nat) : Nat := (portsOn e).foldl (fun m p => max m (portE e p 6 2)) 0

/-- The largest region width. -/
def regionWMax (e : Nat → Nat → Nat) : Nat := (portsOn e).foldl (fun m p => max m (portE e p 4 2)) 0

/-- Bits of one line of the widest region: width × U × V × 3 × b (R36). -/
def lineBits (e : Nat → Nat → Nat) (b : Nat) : Nat := regionWMax e * e 0x14 1 * e 0x15 1 * 3 * b

/-- T_link as a fraction, numerator and denominator in ns (R36). -/
def tLinkFrac (e : Nat → Nat → Nat) (b : Nat) : Nat × Nat :=
  (regionHMax e * lineBits e b * 10 * 1014, 15 * laneRate10 (e 0x28 1) * 900)

/-- The size a section must have; none where it must be absent (R43). -/
def secWant (e : Nat → Nat → Nat) (i : Nat) : Option Nat :=
  match i with
  | 0 => some 2048
  | 1 => if bit (e 0x29 1) 0 then some (e 0x14 1 * e 0x15 1 * 8) else none
  | 2 => some (roundUp (max 1 (min (secSize e 2) 3072)) 48)
  | 3 => some 6144
  | 4 => some (e 0x10 2 / 8 * (e 0x12 2 / 8) * 6)
  | 5 => some 384
  | _ => none

/-- Section `i` of the directory is well placed (R43). -/
def secOk (e : Nat → Nat → Nat) (i : Nat) : Bool :=
  let o := secOff e i
  let z := secSize e i
  match secWant e i with
  | none => decide (o = 0) && decide (z = 0)
  | some w => decide (z = w) && decide (o % 64 = 0) && decide (0x100 ≤ o) && decide (o + z ≤ e 8 4) &&
      (List.range i).all (fun j => decide (secSize e j = 0) || decide (o + z ≤ secOff e j) ||
        decide (secOff e j + secSize e j ≤ o))

/-- Byte offset of the header field that breaks R28 or its range (R43). -/
def geomFault (e : Nat → Nat → Nat) : Option Nat :=
  let w := e 0x10 2
  let h := e 0x12 2
  let u := e 0x14 1
  let v := e 0x15 1
  let near := signedOf 16 (e 0x24 2)
  let far := signedOf 16 (e 0x26 2)
  let fl := e 0x29 1
  let checks : List (Nat × Bool) := [
    (0x10, decide (8 ≤ w) && decide (w ≤ 8192) && decide (w % 8 = 0)),
    (0x12, decide (8 ≤ h) && decide (h ≤ 4608) && decide (h % 8 = 0)),
    (0x14, decide (4 ≤ u) && decide (u ≤ 16)),
    (0x15, decide (4 ≤ v) && decide (v ≤ 16)),
    (0x10, decide (w * h * u * v ≤ 2250000000)),
    (0x16, decide (e 0x16 1 = 8) || decide (e 0x16 1 = 10)),
    (0x17, decide (1 ≤ e 0x17 1) && decide (e 0x17 1 ≤ 64)),
    (0x18, decide (50000 ≤ e 0x18 4) && decide (e 0x18 4 ≤ 2000000)),
    (0x1C, decide (50000 ≤ e 0x1C 4) && decide (e 0x1C 4 ≤ 2000000)),
    (0x20, decide (500 ≤ e 0x20 2) && decide (e 0x20 2 ≤ 4500)),
    (0x22, decide (500 ≤ e 0x22 2) && decide (e 0x22 2 ≤ 4500)),
    (0x24, decide (0 ≤ near) && decide (near ≤ 1000)),
    (0x26, decide (-1000 ≤ far) && decide (far ≤ 0)),
    (0x28, decide (e 0x28 1 ≤ 2)),
    (0x29, decide (fl < 8) && (decide (e 0x16 1 ≠ 8) || bit fl 1)),
    (0x2A, decide (4167 ≤ e 0x2A 2) && decide (e 0x2A 2 ≤ 33333)),
    (0x2C, decide (e 0x2C 4 = 0)),
    (0x78, decide (16384 ≤ e 0x78 2) && decide (e 0x78 2 ≤ 32768))]
  match checks.find? (fun c => !c.2) with
  | some (o, _) => some o
  | none => ((List.range 134).find? (fun k => decide (e (0x7A + k) 1 ≠ 0))).map (fun k => 0x7A + k)

/-- Two regions share a hogel. -/
def regionsMeet (e : Nat → Nat → Nat) (p q : Nat) : Bool :=
  decide (portE e p 0 2 < portE e q 0 2 + portE e q 4 2) &&
  decide (portE e q 0 2 < portE e p 0 2 + portE e p 4 2) &&
  decide (portE e p 2 2 < portE e q 2 2 + portE e q 6 2) &&
  decide (portE e q 2 2 < portE e p 2 2 + portE e p 6 2)

/-- A region is inside the size range of R34 and the panel. -/
def regionSizeOk (e : Nat → Nat → Nat) (p : Nat) : Bool :=
  let w := portE e p 4 2
  let h := portE e p 6 2
  decide (8 ≤ w) && decide (w ≤ 2048) && decide (8 ≤ h) && decide (h ≤ 4608) &&
    decide (portE e p 0 2 + w ≤ e 0x10 2) && decide (portE e p 2 2 + h ≤ e 0x12 2)

/-- A port table entry obeys R43. -/
def portEntryOk (e : Nat → Nat → Nat) (p : Nat) : Bool :=
  if portE e p 8 1 = 0 then (List.range 32).all (fun o => decide (portE e p o 1 = 0))
  else decide (portE e p 8 1 = 1) && decide (portE e p 9 1 ≤ 1) && decide (portE e p 0xC 1 ≤ 15) &&
    decide (portE e p 0xE 1 ≤ 1) && decide (portE e p 0xF 1 = 0) && decide (portE e p 0x18 8 = 0) &&
    decide (portE e p 0xD 1 < secSize e 2 / 48)

/-- Byte offset, and port entry, of the first table entry out of range (BAD_TABLE, R43 to R45, R32). -/
def tableFault (e : Nat → Nat → Nat) : Option (Nat × Nat) :=
  let mat := secOff e 2
  match (List.range (secSize e 2 / 4)).find? (fun k =>
      decide (524288 < (signedOf 32 (e (mat + 4 * k) 4)).natAbs)) with
  | some k => some (mat + 4 * k, 0)
  | none =>
    let lut := secOff e 3
    match (List.range 3072).find? (fun k => decide (k % 1024 ≠ 0) &&
        decide (e (lut + 2 * k) 2 < e (lut + 2 * k - 2) 2)) with
    | some k => some (lut + 2 * k, 0)
    | none =>
      let vt := secOff e 1
      match (List.range (secSize e 1 / 4)).find? (fun k =>
          decide (2 ^ 24 < (signedOf 32 (e (vt + 4 * k) 4)).natAbs)) with
      | some k => some (vt + 4 * k, 0)
      | none => ((List.range 64).find? (fun p => !(portEntryOk e p))).map
          (fun p => (secOff e 0 + 32 * p, p))

/-- Byte offset of the first ageing curve point that breaks R47. -/
def curveFault (e : Nat → Nat → Nat) : Option Nat :=
  let pt := fun k => secOff e 5 + 8 * k
  ((List.range 48).find? (fun k =>
    decide (e (pt k + 6) 2 ≠ 0) ||
    (if k % 16 = 0 then decide (e (pt k) 4 ≠ 0) || decide (e (pt k + 4) 2 ≠ 32768)
     else decide (e (pt k) 4 ≤ e (pt (k - 1)) 4) || decide (e (pt (k - 1) + 4) 2 < e (pt k + 4) 2) ||
       decide (e (pt k + 4) 2 < 8192)))).map pt

/-- The first failure of a panel map: code of R48, byte offset and port entry. `e o n` is the little-endian
field, `bytes o n` its bytes. -/
def mapFault (e : Nat → Nat → Nat) (bytes : Nat → Nat → List Byte) : Option (Nat × Nat × Nat) :=
  let f (c o p : Nat) : Option (Nat × Nat × Nat) := some (c, o, p)
  let on := portsOn e
  let total := e 8 4
  let entry (p : Nat) : Nat := secOff e 0 + 32 * p
  if e 0 4 ≠ 0x4D504E53 then f 1 0 0
  else if e 6 2 ≠ 256 then f 1 6 0
  else if total < 256 ∨ 0x400000 < total then f 1 8 0
  else if e 4 2 ≠ 0x0100 then f 2 4 0
  else if crc32c (bytes 0 0xC ++ leBytes 4 0 ++ bytes 0x10 (total - 0x10)) ≠ e 0xC 4 then f 3 0xC 0
  else match (List.range 8).find? (fun i => !(secOk e i)) with
  | some i => f 4 (0x30 + 8 * i) 0
  | none => match geomFault e with
  | some o => f 5 o 0
  | none => match on.find? (fun p => [0, 2, 4, 6].any (fun o => decide (portE e p o 2 % 8 ≠ 0))) with
  | some p => f 6 (entry p) p
  | none => match on.find? (fun p => !(regionSizeOk e p)) with
  | some p => f 7 (entry p) p
  | none => match on.find? (fun p => on.any (fun q => decide (q < p) && regionsMeet e p q)) with
  | some p => f 8 (entry p) p
  | none =>
    if on.foldl (fun a p => a + portE e p 4 2 * portE e p 6 2) 0 ≠ e 0x10 2 * e 0x12 2 then f 9 (secOff e 0) 0
    else if e 0x17 1 ≠ on.length then f 0xA 0x17 0
    else if e 0x2A 2 * 1000 * (tLinkFrac e (e 0x16 1)).2 < (tLinkFrac e (e 0x16 1)).1 then f 0xB 0x2A 0
    else match tableFault e with
    | some (o, p) => f 0xC o p
    | none => match curveFault e with
    | some o => f 0xD o 0
    | none => none

/-- The panel map bank in use. -/
def State.mapBank (s : State) : Nat := s.fld Reg.SEQ_PMAP_STATUS 0 0

/-- A field of the active map. -/
def State.mapF (s : State) (o n : Nat) : Nat := s.pmapLe s.mapBank o n

/-- W, H, U, V and bits per colour of the active map. -/
def State.mapW (s : State) : Nat := s.mapF 0x10 2
/-- H. -/
def State.mapH (s : State) : Nat := s.mapF 0x12 2
/-- U. -/
def State.mapU (s : State) : Nat := s.mapF 0x14 1
/-- V. -/
def State.mapV (s : State) : Nat := s.mapF 0x15 1
/-- Bits per colour. -/
def State.mapBits (s : State) : Nat := s.mapF 0x16 1

/-- A field of an active port table entry. -/
def State.portF (s : State) (p o n : Nat) : Nat := portE (s.pmapLe s.mapBank) p o n

/-- The enabled ports of the active map; none without a map. -/
def State.portsOn (s : State) : List Nat :=
  if s.seq.hasMap then Sys2Proof.Machine.portsOn (s.pmapLe s.mapBank) else []

/-- H_max of the active map (R35). -/
def State.mapLines (s : State) : Nat := if s.seq.hasMap then regionHMax (s.pmapLe s.mapBank) else 0

/-- The bytes over which GEOM_CRC runs (R41). -/
def geomBytes (e : Nat → Nat → Nat) (bytes : Nat → Nat → List Byte) : List Byte :=
  bytes 0x10 0x20 ++ bytes (secOff e 0) 2048 ++
    (if bit (e 0x29 1) 0 then bytes (secOff e 1) (e 0x14 1 * e 0x15 1 * 8) else [])

/-- The geometry sections of bank `b`. -/
def State.mapGeom (s : State) (b : Nat) : List Byte := geomBytes (s.pmapLe b) (s.pmapBytes b)

/-- The two banks have byte-identical geometry sections (R41). -/
def State.sameGeom (s : State) : Bool := decide (s.mapGeom 0 = s.mapGeom 1)

/-- SEQ_PMAP_VALIDATE: GO starts validation of BANK; ignored while BUSY (R40). -/
def State.writePmapValidate (s : State) (v : Nat) : State :=
  if !(bit v 31) ∨ s.bitAt Reg.SEQ_PMAP_STATUS 3 then s
  else { s.setBit Reg.SEQ_PMAP_STATUS 3 true with
    seq := { s.seq with validating := some (bits v 0 0), modified := false } }

/-- Validation ends: BUSY clears, ERR_CODE is written, and VALID is set if every check passed (R40, R48). The answer is
the state, and the bank and result code of the validation that ended. -/
def State.pmapChecked (s : State) : State × Option (Nat × Nat) :=
  match s.seq.validating with
  | none => (s, none)
  | some b =>
    let active := decide (s.mapBank = b) && s.seq.hasMap
    let (c, o, p) := if s.seq.modified then (0x0E, 0, 0)
      else match mapFault (s.pmapLe b) (s.pmapBytes b) with
        | some x => x
        | none => if active then (0x0F, 0, 0) else (0, 0, 0)
    let s1 := { s with seq := { s.seq with validating := none, modified := false } }
    let s2 := (((s1.setBit Reg.SEQ_PMAP_STATUS 3 false).setFld Reg.SEQ_PMAP_STATUS 15 8 c).setFld
      Reg.SEQ_PMAP_STATUS 21 16 p).wr Reg.SEQ_PMAP_ERR_OFFSET o
    let s3 := if active then s2 else s2.setBit Reg.SEQ_PMAP_STATUS (1 + b) (decide (c = 0))
    (if c = 0 then s3 else s3.raise Page.SEQ 0, some (b, c))

/-- A Gangway write reaches panel map bank `b`: an inactive bank loses VALID, and a validation of it sees
MODIFIED (R39, R40). -/
def State.mapTouched (s : State) (b : Nat) : State :=
  let s1 := s.setBit Reg.SEQ_PMAP_STATUS (1 + b) false
  if s.seq.validating = some b then { s1 with seq := { s1.seq with modified := true } } else s1

/-- Bank `b` comes into use: ACTIVE_BANK, MAP_ID, MAP_REVISION, GEOM_CRC and NO_MAP follow (R41). -/
def State.adoptMap (s : State) (b : Nat) : State :=
  let s1 := { s with seq := { s.seq with hasMap := true } }
  ((((s1.setFld Reg.SEQ_PMAP_STATUS 0 0 b).setBit Reg.SEQ_PMAP_STATUS 4 false).wr Reg.SEQ_PMAP_ACTIVE_ID
    (s.pmapLe b 0x70 4)).wr Reg.SEQ_PMAP_ACTIVE_REV (s.pmapLe b 0x74 4)).wr Reg.SEQ_PMAP_GEOM_CRC
    (crc32c (s.mapGeom b))

/-- Slope of view (u, v) of the active map as a numerator over 2^24 when it has a view table (R32). -/
def State.viewTan (s : State) (u v : Nat) : Option (Int × Int) :=
  let b := s.mapBank
  if bit (s.mapF 0x29 1) 0 then
    let o := secOff (s.pmapLe b) 1 + 8 * (v * s.mapU + u)
    some (signedOf 32 (s.pmapLe b o 4), signedOf 32 (s.pmapLe b (o + 4) 4))
  else none

/-- Index of a ray word within its hogel (R29). -/
def rayIndex (uCount u v : Nat) : Nat := v * uCount + u

/-- Index of the ray word of hogel column `hx` in the line of a region from column `x0` (R29). -/
def lineRayIndex (uCount vCount x0 hx k : Nat) : Nat := (hx - x0) * uCount * vCount + k

/-- Twice the distance of a lens centre from the panel's centre, in nm (R30). -/
def lens2Nm (count pitchNm h : Nat) : Int := (2 * (h : Int) + 1 - count) * pitchNm

end Sys2Proof.Machine
end

