-- ==== Sys2Proof/Machine/WearLedger.lean ====
section
/-! DEFINITION. The Wear ledger's values: block grid, wear header, deltas, snapshots, gains (R46, R47, R380 to
R384). -/

namespace Sys2Proof.Machine

/-- Blocks across and down of the active map (R46). -/
def State.blocksX (s : State) : Nat := s.mapW / 8
/-- Blocks down. -/
def State.blocksY (s : State) : Nat := s.mapH / 8

/-- What a ledger of the active map is for: MAP_ID and grid (R384). -/
def State.wearGeomNow (s : State) : Nat × Nat × Nat := (s.mapF 0x70 4, s.blocksX, s.blocksY)

/-- Entries of the ledger. -/
def wearEntries (g : Nat × Nat × Nat) : Nat := 3 * g.2.1 * g.2.2

/-- Ledger value of an entry (R380). -/
def State.ledger (s : State) (i : Nat) : Nat := aget 0 i s.wear.ledger

/-- Journalled value of an entry (R381). -/
def State.journal (s : State) (i : Nat) : Nat := aget 0 i s.wear.journal

/-- Gain in force of an entry (R383). -/
def State.wearGain (s : State) (i : Nat) : Nat := aget 16384 i s.wear.gains

/-- The 32-byte wear header (R382). -/
def State.wearHeader (s : State) (g : Nat × Nat × Nat) : List Byte :=
  leBytes 4 g.1 ++ leBytes 2 g.2.1 ++ leBytes 2 g.2.2 ++ leBytes 4 s.frameSeq ++
    leBytes 8 (s.now / 1000000000) ++ leBytes 12 0

/-- The payload of a WEAR_SNAPSHOT of the values `f` (R382). -/
def State.snapshotPayload (s : State) (f : Nat → Nat) : List Byte :=
  let g := s.wear.geom.getD (0, 0, 0)
  s.wearHeader g ++ (List.range (wearEntries g)).flatMap (fun i => leBytes 4 (f i))

/-- An entry's increase, at most 65,535 units; the rest goes into the next delta (R382). -/
def State.wearDelta (s : State) (i : Nat) : Nat := min 65535 (s.ledger i - s.journal i)

/-- The payload of a WEAR_DELTA (R382). -/
def State.deltaPayload (s : State) : List Byte :=
  let g := s.wear.geom.getD (0, 0, 0)
  s.wearHeader g ++ (List.range (wearEntries g)).flatMap (fun i => leBytes 2 (s.wearDelta i))

/-- DRIVE and EFFICIENCY of point `j` of colour `c`'s ageing curve (R47). -/
def State.curvePoint (s : State) (c j : Nat) : Nat × Nat :=
  let e := s.pmapLe s.mapBank
  let o := secOff e 5 + 128 * c + 8 * j
  (e o 4, e (o + 4) 2)

/-- EFFICIENCY at a ledger value as a fraction: linear in DRIVE between two points, held beyond the last
(R383). -/
def State.efficiency (s : State) (c v : Nat) : Nat × Nat :=
  match (List.range 15).find? (fun j => decide (v < 256 * (s.curvePoint c (j + 1)).1)) with
  | none => ((s.curvePoint c 15).2, 1)
  | some j =>
    let p := s.curvePoint c j
    let q := s.curvePoint c (j + 1)
    let d := 256 * (q.1 - p.1)
    (p.2 * d - (v - 256 * p.1) * (p.2 - q.2), d)

/-- The gain of a ledger value before the limit (R383). -/
def State.gainFree (s : State) (c v : Nat) : Nat :=
  let e := s.efficiency c v
  if e.1 = 0 then 0 else roundNear (2 ^ 29 * e.2) e.1

/-- WEAR_GAIN_LIMIT of the active map. -/
def State.gainLimit (s : State) : Nat := s.mapF 0x78 2

/-- Gw of an entry (R383). -/
def State.gainOf (s : State) (i : Nat) : Nat := min s.gainLimit (s.gainFree (i % 3) (s.ledger i))

/-- The set of gains that the ledger gives. -/
def State.gainSet (s : State) : List (Nat × Nat) :=
  (List.range (wearEntries (s.wear.geom.getD (0, 0, 0)))).foldl
    (fun (m : List (Nat × Nat)) (i : Nat) => aset 16384 i (s.gainOf i) m) []

/-- Some gain is clamped to WEAR_GAIN_LIMIT. -/
def State.gainClamped (s : State) : Bool :=
  (List.range (wearEntries (s.wear.geom.getD (0, 0, 0)))).any (fun i =>
    decide (s.gainLimit < s.gainFree (i % 3) (s.ledger i)))

/-- The ledger is rebuilt from the newest snapshot and the later deltas (R382): one record. -/
def wearFold (m : List (Nat × Nat)) (r : LogRec) : List (Nat × Nat) :=
  let b := r.payload.drop 32
  if r.ty = 8 then
    (List.range (b.length / 4)).foldl (fun (t : List (Nat × Nat)) (i : Nat) =>
      aset 0 i (leNat ((b.drop (4 * i)).take 4)) t) []
  else if r.ty = 7 then
    (List.range (b.length / 2)).foldl (fun (t : List (Nat × Nat)) (i : Nat) =>
      aset 0 i (aget 0 i t + leNat ((b.drop (2 * i)).take 2)) t) m
  else m

/-- The journalled values that replay of the Logbook rebuilds (R381, R382). -/
def wearReplay (rs : List LogRec) : List (Nat × Nat) := rs.foldl wearFold []

/-- MAP_ID and grid that a wear record names (R382). -/
def wearGeomOf (r : LogRec) : Nat × Nat × Nat :=
  (leNat (r.payload.take 4), leNat ((r.payload.drop 4).take 2), leNat ((r.payload.drop 6).take 2))

end Sys2Proof.Machine
end

