-- ==== Sys2Proof/Machine/Journal.lean ====
section
/-! DEFINITION. What the Logbook does (R373 to R379, R386): appending a record, compaction, mirroring, replay,
and the host's notes. -/

namespace Sys2Proof.Machine

/-- Start a compaction in the active Landing's Logbook, and in that of a standby in step with it (R377;
assumption 10). -/
def State.compactStart (s : State) : State :=
  match s.active with
  | none => s
  | some l =>
    if s.compacting || s.switching then s
    else
      let snap := s.snapshotPayload s.journal
      let t := s.compactBegin l snap
      let u := if t.bitAt Reg.LOGB_STATUS 2 then t.compactBegin l.other snap else t
      ({ u with log := { u.log with covered := (s.side l).seq } }).setBit Reg.LOGB_STATUS 1 true

/-- The old bank has no room for the record while a compaction runs (R377). -/
def State.oldBankFull (s : State) (l : Landing) (ty : Nat) (payload : List Byte) : Bool :=
  !((s.side l).cur.fits { ty := ty, seq := 0, payload := payload })

/-- The current bank has no room for a record: BANK_FULL is raised, and a compaction runs (R377, R386). -/
def State.bankFull (s : State) : State :=
  let t := if s.bitAt Reg.LOGB_STATUS 3 then s else (s.setBit Reg.LOGB_STATUS 3 true).raise Page.LOGB 2
  if t.compacting then t else t.compactStart

/-- A record goes into the Logbook (R375, R377): the active Landing appends it; it waits before the replay,
without an active Landing, during a switch-over (R23), and while a compaction's old bank is full. -/
def State.logRecord (s : State) (ty : Nat) (payload : List Byte) : State :=
  match s.active with
  | none => s.logWait ty payload
  | some l =>
    if !(s.bitAt Reg.LOGB_STATUS 0) || s.switching then s.logWait ty payload
    else if s.oldBankFull l ty payload then s.bankFull.logWait ty payload
    else
      let t := s.logAppend l ty payload
      if s.rd Reg.LOGB_COMPACT_AT ≤ (t.side l).cur.sectors.length then t.compactStart else t

/-- Append a FAULT record (R373). -/
def State.fault (s : State) (page code d0 d1 : Nat) : State :=
  s.logRecord 2 (faultPayload page code s.frameSeq s.now d0 d1)

/-- Append a FAULT record whose error code the manual does not name. -/
def State.faultKind (s : State) (page kind d0 d1 : Nat) : State :=
  s.fault page (Config.recordCode kind) d0 d1

/-- Append a CONFIG_NOTE record (R373). -/
def State.note (s : State) (kind : Nat) (vals : List Nat) : State :=
  s.logRecord 9 (notePayload kind s.frameSeq vals)

/-- Append a CONFIG_NOTE record whose kind the manual does not name. -/
def State.noteKind (s : State) (kind : Nat) (vals : List Nat) : State :=
  s.note (Config.recordCode kind) vals

/-- The records that waited are appended, oldest first. -/
def State.flushWaiting (s : State) : State :=
  s.log.waiting.foldl (fun (t : State) (r : Nat × List Byte) => t.logRecord r.1 r.2)
    { s with log := { s.log with waiting := [] } }

/-- A hour passes: the active Landing appends a HOURS record (R373). -/
def execHoursRecord (s : State) : Out :=
  if s.clk < s.log.hoursAt || s.active.isNone then done s s
  else
    let t := s.logRecord 10 (leBytes 8 (s.rd Reg.TEL_POWERED_S) ++ leBytes 8 (s.rd Reg.TEL_OUTPUT_S))
    done s { t with log := { t.log with hoursAt := s.clk + 3600000000000 } }

/-- The standby runs and its Hawser lane is up: what is sent to it arrives. -/
def State.mirrorUp (s : State) (l : Landing) : Bool :=
  decide (s.landState l = 3) && s.bitAt Reg.HAWS_STATUS 0

/-- LOG_MIRROR_APPEND: the standby appends the oldest record sent to it with the same SEQ; `none` stands for a
compaction's content, from which it builds a new bank (R375, R376). -/
def execLogMirrorAppend (s : State) : Out :=
  match s.active, s.log.mirror with
  | some l, x :: rest =>
    if !(s.mirrorUp l.other) then done s s else
    let s1 := { s with log := { s.log with mirror := rest } }
    let s2 := match x with
      | some r => s1.sideAppend l.other r
      | none =>
        let old := (s1.side l.other).cur
        let rs := compactContent (s1.bankRecs l (s1.side l).cur) (s1.snapshotPayload s1.journal)
          (s1.wear.capture.map WearCapture.seq)
        let endRec : LogRec := {
          ty := 11, seq := (s1.side l).seq
          payload := leBytes 4 (s1.side l).seq ++ leBytes 4 old.gen ++ leBytes 8 0 }
        let y := s1.bankAppendAll l.other { gen := (old.gen + 1) % 2 ^ 32 } (rs ++ [endRec])
        let z := y.1.setSide l.other { y.1.side l.other with
          cur := y.2, target := none, seq := (s1.side l).seq, crc := (s1.side l).crc }
        old.sectors.foldl (fun (u : State) (k : Nat) => u.eraseSector l.other k) z
    done s (if rest.isEmpty then (s2.setMirror true).setBit Reg.LOGB_STATUS 4 false else s2)
  | _, _ => done s s

/-- The standby `l` becomes SYNCED and reports its newest record; the active Landing resends the later ones,
or sends the content of a compaction (R376). -/
def State.logResync (s : State) (l : Landing) : State :=
  let rs := s.bankRecs l.other (s.side l.other).cur
  let mine := s.side l
  let found := rs.any (fun r => decide (r.seq = mine.seq) && decide (recCrc r = mine.crc))
  let later := if found then (rs.filter (fun r => seqNewer r.seq mine.seq)).map some else [none]
  let t := { s with log := { s.log with mirror := later } }
  if later.isEmpty then (t.setMirror true).setBit Reg.LOGB_STATUS 4 false
  else (t.setMirror false).setBit Reg.LOGB_STATUS 4 true

/-- LOGB_COMPACT_NOW.GO (R377). -/
def State.writeCompactNow (s : State) (v : Nat) : State := if bit v 0 then s.compactStart else s

/-- The standby `l` ends its compaction with the active Landing's, after the records sent to it; one whose Logbook is not in
step is sent the content of the compaction (R375 to R377; assumption 10). -/
def State.mirrorCompaction (s : State) (l : Landing) (e : LogRec) : State :=
  if (s.side l).target.isSome && !(s.log.mirror.contains none) then
    let t := (s.log.mirror.filterMap id).foldl (fun (u : State) (r : LogRec) => u.sideAppend l r) s
    let u := ({ t with log := { t.log with mirror := [] } }).compactFinish l s.log.covered e
    (u.setMirror true).setBit Reg.LOGB_STATUS 4 false
  else (({ s with log := { s.log with mirror := [none] } }).setMirror false).setBit Reg.LOGB_STATUS 4 true

/-- COMPACT_END is complete in flash: the new bank is current, the old one is erased, what waited is appended
(R377, R386). -/
def execCompactEnd (s : State) : Out :=
  match s.active with
  | none => done s s
  | some l =>
    if !s.compacting then done s s
    else
      let e := s.compactEndRec l
      let t := s.compactFinish l s.log.covered e
      let u := if !(s.synced l.other) then t else (t.mirrorCompaction l.other e)
      let v := (((u.setBit Reg.LOGB_STATUS 1 false).setBit Reg.LOGB_STATUS 3 false).inc
        Reg.LOGB_COMPACT_COUNT).raise Page.LOGB 0
      done s (((v.logRegs l).eraseRegs l).flushWaiting)

/-- LOGB_NOTE_GO: a CONFIG_NOTE of kind 0xFF with LOGB_NOTE0 to 3 (R373). -/
def State.writeNoteGo (s : State) (v : Nat) : State :=
  if bit v 0 then s.note 0xFF ((List.range 4).map (fun j => s.rd (Reg.LOGB_NOTE j))) else s

/-- Replay on one Landing's flash: the bank found, or none (R378). -/
def State.replaySide (s : State) (l : Landing) : State :=
  match s.replayBank l with
  | none => s.setSide l {}
  | some (b, rs) => match rs.getLast? with
    | some r => s.setSide l { cur := b, target := none, seq := r.seq, crc := recCrc r }
    | none => s.setSide l { cur := b }

/-- The sectors of a generation above the current bank's belong to an interrupted compaction, and are erased
(R378). -/
def State.dropInterrupted (s : State) (l : Landing) : State :=
  ((s.poolGens l).filter (fun g => decide (g ≠ (s.side l).cur.gen) || (s.side l).cur.sectors.isEmpty)).foldl
    (fun (t : State) (g : Nat) => (t.bankOf l g).sectors.foldl (fun u k => u.eraseSector l k) t) s

/-- Logbook replay ends on the active Landing `l` (R378): the current bank is found, an interrupted compaction is
erased and runs again, a torn tail starts one; the standby's Logbook is found likewise. `ms` is the time it
took. -/
def State.replayDone (s : State) (l : Landing) (ms : Nat) : State :=
  let s1 := (s.replaySide l).replaySide l.other
  let torn := s1.tornTail l (s1.side l).cur && !((s1.side l).cur.sectors.isEmpty)
  let cut := (s1.poolGens l).any (fun g => seqNewer g (s1.side l).cur.gen)
  let s2 := (s1.dropInterrupted l).dropInterrupted l.other
  let s3 := ((s2.setFld Reg.LOGB_REPLAY 15 0 (min ms 65535)).setBit Reg.LOGB_REPLAY 16 torn).setBit
    Reg.LOGB_STATUS 0 true
  let s4 := ({ s3 with
    moor := { s3.moor with logDone := true }
    log := { s3.log with hoursAt := s3.clk + 3600000000000 } }.logRegs l).eraseRegs l
  let s5 := if torn || cut || (s1.side l).cur.sectors.isEmpty then s4.compactStart else s4
  s5.flushWaiting

end Sys2Proof.Machine
end

