-- ==== Sys2Proof/Machine/Framer.lean ====
section
/-! DEFINITION. The framers: what they send on a port, and the lane map (R245 to R263, R271 to R274). -/

namespace Sys2Proof.Machine

/-- What the device keeps for tile port `p`. -/
def State.tile (s : State) (p : Nat) : TilePort := aget {} p s.link.ports

/-- Replace it. -/
def State.setTile (s : State) (p : Nat) (t : TilePort) : State :=
  { s with link := { s.link with ports := aset {} p t s.link.ports } }

/-- TPnn_STATUS.DRIVEN. -/
def State.driven (s : State) (p : Nat) : Bool := s.bitAt (Reg.TP_STATUS p) 4

/-- The port is of effective class H (R37). -/
def State.classH (s : State) (p : Nat) : Bool := s.bitAt (Reg.TP_STATUS p) 9

/-- The driven ports. -/
def State.drivenPorts (s : State) : List Nat := (List.range 64).filter s.driven

/-- TPnn_STATUS TX state: 0 OFF, 1 SLEEP, 2 DOZE, 3 ACTIVE (R273). -/
def State.setTx (s : State) (p v : Nat) : State := s.setFld (Reg.TP_STATUS p) 1 0 v

/-- TX state of a port. -/
def State.tx (s : State) (p : Nat) : Nat := s.fld (Reg.TP_STATUS p) 1 0

/-- DRIVEN of a port, in both registers that show it. -/
def State.setDriven (s : State) (p : Nat) (b : Bool) : State :=
  (s.setBit (Reg.TP_STATUS p) 4 b).setBit64 Reg.TLG_DRIVEN_LO Reg.TLG_DRIVEN_HI p b

/-- A position fault without its override (R38). -/
def State.misplaced (s : State) (p : Nat) : Bool :=
  s.bit64 Reg.SEQ_PMAP_POS_FAULT_LO Reg.SEQ_PMAP_POS_FAULT_HI p &&
    !(s.bit64 Reg.SEQ_PMAP_POS_OVR_LO Reg.SEQ_PMAP_POS_OVR_HI p)

/-- A port that is ready is driven. -/
def State.drive (s : State) (p : Nat) : State :=
  ((s.setTile p { s.tile p with phase := 5 }).setDriven p true).setTx p 1

/-- The position-fault overrides apply at a gate: a port that only its position fault keeps dark is driven while its bit
is set (R38, R267). -/
def State.posOverride (s : State) : State :=
  s.portsOn.foldl (fun (t : State) (p : Nat) =>
    if t.bit64 Reg.TLG_CAP_FAULT_LO Reg.TLG_CAP_FAULT_HI p || !(t.bit64 Reg.SEQ_PMAP_POS_FAULT_LO Reg.SEQ_PMAP_POS_FAULT_HI p)
    then t
    else if (t.tile p).phase = 4 ∧ t.misplaced p = false then t.drive p
    else if (t.tile p).phase = 5 ∧ t.misplaced p = true then
      ((t.setTile p { t.tile p with phase := 4 }).setDriven p false).setTx p 1
    else t) s

/-- Physical lane of logical lane `i` (15 is the spare). -/
def State.laneMap (s : State) (p i : Nat) : Nat :=
  if i < 8 then s.fld (Reg.TP_LANE_MAP p) (4 * i + 3) (4 * i) else s.fld (Reg.TP_LANE_MAP_HI p) (4 * i - 29) (4 * i - 32)

/-- Write it. -/
def State.setLaneMap (s : State) (p i v : Nat) : State :=
  if i < 8 then s.setFld (Reg.TP_LANE_MAP p) (4 * i + 3) (4 * i) v
  else s.setFld (Reg.TP_LANE_MAP_HI p) (4 * i - 29) (4 * i - 32) v

/-- The lane map of training (R245): logical lanes take the physical lanes in ascending order, skipping the
spare. -/
def State.firstLaneMap (s : State) (p spare : Nat) : State :=
  let lanes := (List.range 16).filter (fun k => decide (k ≠ spare))
  (lanes.zipIdx).foldl (fun (t : State) (x : Nat × Nat) => t.setLaneMap p x.2 x.1) (s.setLaneMap p 15 spare)

/-- A message of R263 with the next TAG. -/
def State.sendMgmt (s : State) (p msg : Nat) (data : List Byte) : State :=
  let g := (s.tile p).tag + 1
  (s.setTile p { s.tile p with tag := g % 256 }).emit (.mgmt p msg (g % 256) data)

/-- HOLD on a port (R260); the lanes then go to SLEEP (R273). -/
def State.sendHold (s : State) (p : Nat) (blank : Bool) (reason : Nat) : State :=
  if !(s.driven p) then s
  else (s.setBit (Reg.TP_STATUS p) 8 true).emit (.hold p blank reason (s.tile p).lastMark)

/-- HOLD after the current LINE_END, or at once when no packet is under way (R260). -/
def State.holdSoon (s : State) (p : Nat) (blank : Bool) (reason : Nat) : State :=
  if !(s.driven p) then s
  else if (s.tile p).inPacket then s.setTile p { s.tile p with holdDue := some (blank, reason) }
  else (s.sendHold p blank reason).setTx p 1

/-- HOLD by effective class: BLANK 0 to class H, BLANK 1 to class L (R234, R336). -/
def State.holdByClass (s : State) (p reason : Nat) : State := s.sendHold p (!(s.classH p)) reason

/-- A swap that LANE_SWAP named for frame `fs` applies at its FRAME_MARK (R271). -/
def State.applySwap (s : State) (p fs : Nat) : State :=
  match (s.tile p).swap with
  | some w =>
    if w.fs ≠ some fs then s
    else
      let s1 := (s.setLaneMap p w.logical w.new).setLaneMap p 15 w.old
      let t := s1.tile p
      let s2 := s1.setTile p { t with swap := none, spareOk := false, retired := w.old :: t.retired }
      ((s2.setBit (Reg.TP_STATUS p) 6 true).raise (Page.TP p) 2).logRecord 3
        ([p, w.logical, w.old, w.new].flatMap (leBytes 2) ++ leBytes 4 fs ++ leBytes 4 0)
  | none => s

/-- MODE_ID. -/
def State.modeId (s : State) : Nat := s.fld Reg.SEQ_MODE_STATUS 31 16

/-- FRAME_MARK on a port, after RESUME where the port was in HOLD (R249); a lane swap named for the frame
applies. -/
def State.sendMark (s : State) (p : Nat) (f : FrameSt) : State :=
  let s1 := if s.bitAt (Reg.TP_STATUS p) 8 then (s.setBit (Reg.TP_STATUS p) 8 false).emit (.resume p f.fs) else s
  let s2 := s1.emit (.frameMark p f.lines f.fs f.gateTime f.modeId (f.tL / 4))
  ((s2.setTile p { s2.tile p with lastMark := f.fs }).setTx p 3).applySwap p f.fs

/-- An ALIGN row (R248). In mirror, LANE_SWAP follows it, naming the next frame whose FRAME_MARK comes (R271). -/
def State.sendAlign (s : State) (p : Nat) : State :=
  let t := s.tile p
  let s1 := (s.setTile p { t with align := (t.align + 1) % 2 ^ 32 }).emit (.align p ((t.align + 1) % 2 ^ 32))
  match t.swap with
  | some w =>
    if w.fs.isSome then s1
    else
      let fs := match s1.seq.frames.find? (fun f => decide (f.nextSlot = 0)) with
        | some f => f.fs
        | none => (s1.frameSeq + 1) % 2 ^ 32
      (s1.setTile p { s1.tile p with swap := some { w with fs := some fs } }).sendMgmt p 3
        (leBytes 8 (w.logical + 16 * w.old + 256 * w.new + 4096 * fs))
  | none => s1

/-- ALIGN_ROW: the framer's row count reaches 16,384 (R248). -/
def execAlignRow (port : Nat) (s : State) : Out :=
  if s.tx port = 0 then done s s else done s (s.sendAlign port)

/-- LANE_WAKE: the lanes leave DOZE or SLEEP, with the wake preamble and an ALIGN row (R274). -/
def execLaneWake (port : Nat) (s : State) : Out :=
  if s.tx port = 2 then done s ((((s.setTx port 3).emit (.idle port 32))).sendAlign port)
  else if s.tx port = 1 then done s (((s.setTx port 3).emit (.idle port 512)).sendAlign port)
  else done s s

/-- A line packet begins on a port. -/
def State.packetBegin (s : State) (p : Nat) : State :=
  (s.setTile p { s.tile p with inPacket := true }).setTx p 3

/-- A line is sent on a port, raw or row-coded (R251, R253). -/
def State.sendLine (s : State) (p fs line : Nat) (words : List Nat) : State :=
  if !(s.driven p) then s
  else (s.packetBegin p).emit (.linePacket p fs line (bit (s.mapF 0x29 1) 2) words)

/-- An empty line on a port (R258). -/
def State.sendEmpty (s : State) (p fs line : Nat) : State :=
  if !(s.driven p) then s else (s.packetBegin p).emit (.emptyLine p fs line)

end Sys2Proof.Machine
end

