-- ==== Sys2Proof/Machine/TeleCount.lean ====
section
/-! DEFINITION. What telemetry counts as it happens: latencies, stale and late layers, line errors, ECC and
queue events (R237, R282, R400, R401). -/

namespace Sys2Proof.Machine

/-- The bin of a latency in ns (R400). -/
def histBin (ns : Nat) : Nat :=
  if ns < 2000000 then ns / 125000
  else if ns < 6000000 then 16 + (ns - 2000000) / 500000
  else if ns < 34000000 then 24 + (ns - 6000000) / 4000000
  else 31

/-- Count in a saturating 32-bit counter of a list. -/
def telBump (m : List (Nat × Nat)) (k n : Nat) : List (Nat × Nat) := aupd 0 k (fun v => min (v + n) 0xFFFFFFFF) m

/-- Count every set bit of a mask of layers. -/
def telMask (m : List (Nat × Nat)) (mask : Nat) : List (Nat × Nat) :=
  ((List.range 32).filter (fun k => mask.testBit k)).foldl (fun (x : List (Nat × Nat)) (k : Nat) => telBump x k 1) m

/-- A camera frame latency of class `c` (R400). -/
def State.telLatency (s : State) (c ns : Nat) : State :=
  let k := 32 * c + histBin ns
  { s with tel := { s.tel with hist := telBump s.tel.hist k 1, ivHist := telBump s.tel.ivHist k 1 } }

/-- Stale layers of a frame (R401). -/
def State.telStale (s : State) (mask : Nat) : State :=
  { s with tel := { s.tel with ivStale := telMask s.tel.ivStale mask } }

/-- Late layers of a gate (R401). -/
def State.telLate (s : State) (mask : Nat) : State :=
  { s with tel := { s.tel with ivLate := telMask s.tel.ivLate mask } }

/-- An ACK with RESULT 1 or 2 (R401). -/
def State.telLineErr (s : State) (p : Nat) : State :=
  { s with tel := { s.tel with ivLineErr := telBump s.tel.ivLineErr p 1 } }

/-- A corrected error in a group. -/
def State.telCe (s : State) (g : Nat) : State := { s with tel := { s.tel with ivCe := telBump s.tel.ivCe g 1 } }

/-- An uncorrectable line in a group. -/
def State.telUe (s : State) (g : Nat) : State := { s with tel := { s.tel with ivUe := telBump s.tel.ivUe g 1 } }

/-- A reset of queue `q` (R282). -/
def State.telReset (s : State) (q : Nat) : State :=
  { s with tel := { s.tel with resets := telBump s.tel.resets q 1, ivResets := telBump s.tel.ivResets q 1 } }

/-- An overflow of queue `q` (R284). -/
def State.telOverflow (s : State) (q : Nat) : State :=
  { s with tel := { s.tel with overflows := telBump s.tel.overflows q 1, ivOverflows := telBump s.tel.ivOverflows q 1 } }

end Sys2Proof.Machine
end

