-- ==== Sys2Proof/Machine/Memory.lean ====
section
/-! DEFINITION. The memory subsystem: address map, requests, refresh, self-refresh and training (R289 to
R312). -/

namespace Sys2Proof.Machine

/-- A physical rank. -/
def State.rank (s : State) (r : Nat) : MemRank := aget {} r s.ram.ranks

/-- Replace it. -/
def State.setRank (s : State) (r : Nat) (x : MemRank) : State :=
  { s with ram := { s.ram with ranks := aset {} r x s.ram.ranks } }

/-- A channel group. -/
def State.memGroup (s : State) (g : Nat) : MemGroup := aget {} g s.ram.groups

/-- Replace it. -/
def State.setMemGroup (s : State) (g : Nat) (x : MemGroup) : State :=
  { s with ram := { s.ram with groups := aset {} g x s.ram.groups } }

/-- Su in bytes: 15/16 of the rank size (R291). -/
def State.rankData (s : State) : Nat := 2 ^ (29 + s.fld Reg.DMG0_MAP_CFG 6 5) / 16 * 15

/-- The interleave grain G (R292). -/
def State.grain (s : State) : Nat := 256 * 2 ^ s.fld Reg.DMG0_MAP_CFG 3 0

/-- H6 of R292. -/
def hash6 (x : Nat) : Nat := bits x 5 0 ^^^ bits x 11 6 ^^^ bits x 17 12 ^^^ bits x 23 18

/-- H3 of R292. -/
def hash3 (y : Nat) : Nat := (List.range 8).foldl (fun (h k : Nat) => h ^^^ bits y (3 * k + 2) (3 * k)) 0

/-- Group, logical slot and rank offset of an address: the map of R292 with grain `gr`, data part `su` and
HASH_EN. -/
def addrMap (gr su : Nat) (hash : Bool) (a : Nat) : Nat × Nat × Nat :=
  if a < 64 * su then
    let i := a / gr
    let c := (i % 64) ^^^ (if hash then hash6 (i / 64) else 0)
    (c / 8, 2 * (c % 8), i / 64 * gr + a % gr)
  else
    let i := (a - 64 * su) / gr
    let g := (i % 8) ^^^ (if hash then hash3 (i / 56) else 0)
    (g, 2 * (i / 8 % 7) + 1, i / 56 * gr + a % gr)

/-- The address of a group's slot and rank offset: the inverse of R292. -/
def addrOf (gr su : Nat) (hash : Bool) (g slot off : Nat) : Nat :=
  let x := off / gr
  if slot % 2 = 0 then
    let c := 8 * g + slot / 2
    (x * 64 + (c ^^^ (if hash then hash6 x else 0))) * gr + off % gr
  else
    64 * su + (x * 56 + slot / 2 * 8 + (g ^^^ (if hash then hash3 x else 0))) * gr + off % gr

/-- Group, logical slot and rank offset of an address. -/
def State.home (s : State) (a : Nat) : Nat × Nat × Nat :=
  addrMap s.grain s.rankData (s.bitAt Reg.DMG0_MAP_CFG 4) a

/-- Physical rank in its group, 2·channel + rank, that slot `k` of group `g` maps to (R293). -/
def State.slotRank (s : State) (g k : Nat) : Nat :=
  let n := if k < 8 then s.fld (Reg.DMG_RANK_MAP_LO g) (4 * k + 3) (4 * k)
    else s.fld (Reg.DMG_RANK_MAP_HI g) (4 * k - 29) (4 * k - 32)
  2 * (n % 8) + n / 8

/-- Map slot `k` of group `g` to a physical rank in the group. -/
def State.setSlotRank (s : State) (g k r : Nat) : State :=
  let n := r / 2 + 8 * (r % 2)
  if k < 8 then s.setFld (Reg.DMG_RANK_MAP_LO g) (4 * k + 3) (4 * k) n
  else s.setFld (Reg.DMG_RANK_MAP_HI g) (4 * k - 29) (4 * k - 32) n

/-- Physical rank that holds an address. -/
def State.rankOf (s : State) (a : Nat) : Nat :=
  let h := s.home a
  16 * h.1 + s.slotRank h.1 h.2.1

/-- The channel of a physical rank, and the rank on it. -/
def chanOf (r : Nat) : Nat × Nat := (8 * (r / 16) + r % 16 / 2, r % 2)

/-- T_eff in ns (R303). -/
def State.tEff (s : State) : Nat := s.rd Reg.DMG0_LAT_TOL

/-- The stated tolerances change: T_eff and RT_URGENT follow (R297, R303). -/
def State.setTolerance (s : State) (grt plane : Nat) : State :=
  let t := ((s.wr Reg.GRT_LAT_TOL grt).wr Reg.DMG0_LAT_TOL_PLANE plane).wr Reg.DMG0_LAT_TOL (min grt plane)
  (List.range 8).foldl (fun (u : State) (g : Nat) =>
    u.setBit (Reg.DMG_STATUS g) 3 (decide (min grt plane < 1000 * u.rd (Reg.DMG_RT_URGENT g)))) t

/-- The check of R305 at a gate with line period `tL`. -/
def State.tolCheck (s : State) (tL : Nat) : State :=
  if (s.fld Reg.GRT_LEAD_CFG 4 0 - 9) * tL < 3000 then s.raise (Page.DMG 0) 4 else s

/-- Refresh multiplier index of a rank: 0 1×, 1 2×, 2 4×. -/
def State.refMul (s : State) (r : Nat) : Nat :=
  let c := chanOf r
  s.fld (Reg.DCH_REFRESH c.1) (2 * c.2 + 1) (2 * c.2)

/-- Refresh debt of a rank. -/
def State.refDebt (s : State) (r : Nat) : Nat :=
  let c := chanOf r
  s.fld (Reg.DCH_REFRESH c.1) (4 * c.2 + 7) (4 * c.2 + 4)

/-- Write it. -/
def State.setDebt (s : State) (r v : Nat) : State :=
  let c := chanOf r
  s.setFld (Reg.DCH_REFRESH c.1) (4 * c.2 + 7) (4 * c.2 + 4) v

/-- The debt limit of a rank (R299). -/
def State.debtLimit (s : State) (r : Nat) : Nat :=
  match s.refMul r with
  | 0 => s.fld (Reg.DMG_POSTPONE_MAX (r / 16)) 3 0
  | 1 => 4
  | _ => 2

/-- The group is in self-refresh. -/
def State.selfRefresh (s : State) (g : Nat) : Bool := decide (s.fld (Reg.DMG_STATUS g) 2 1 = 2)

/-- MEM_REQUEST: a request is accepted by its group controller (R290, R294, R295, R297, R308). A write is performed;
a read waits for its return. -/
def execMemRequest (cls blk addr : Nat) (write : Option (List Byte)) (s : State) : Out :=
  if s.capacity < addr + 1 then done s (s.addrErr cls blk addr)
  else
    let g := (s.home addr).1
    let r := s.rankOf addr
    let m := s.memGroup g
    let s1 := s.setMemGroup g { m with
      lastReq := s.clk, wake := s.selfRefresh g || m.wake
      recent := (s.clk, decide (cls = clsRt)) :: m.recent.filter (fun x => decide (s.clk < x.1 + 1000000))
      reads := if write.isNone then m.reads ++ [{ line := addr / 64, cls := cls, at_ := s.clk }] else m.reads }
    let s2 := s1.setRank r { s1.rank r with lastUse := s1.clk, powerDown := false }
    let s3 := if s2.fld (Reg.DMG_STATUS g) 2 1 = 1 then s2.setFld (Reg.DMG_STATUS g) 2 1 0 else s2
    done s (match write with
      | some bs => s3.dramPut cls blk addr (bs.take (64 - addr % 64))
      | none => s3)

/-- RANK_POWER_DOWN: a rank saw 64 idle controller cycles (R290). -/
def execRankPowerDown (rank : Nat) (s : State) : Out :=
  let x := s.rank rank
  let g := rank / 16
  if 127 < rank ∨ x.powerDown ∨ s.selfRefresh g ∨
      (s.clk - x.lastUse) * s.rd Reg.DMG0_DATA_RATE < 256000 then done s s
  else
    let t := s.setRank rank { x with powerDown := true }
    let all := (List.range 16).all (fun k => (t.rank (16 * g + k)).powerDown)
    done s (if all then t.setFld (Reg.DMG_STATUS g) 2 1 1 else t)

/-- Trims that wait are applied in a rank's refresh (R310). -/
def State.trimApply (s : State) (r : Nat) : State :=
  let x := s.rank r
  if x.trimWait then (s.setRank r { x with trimWait := false }).setBit (Reg.DCH_STATUS (chanOf r).1) 3 false else s

/-- n REFab commands to a rank. -/
def State.refab (s : State) (r n : Nat) : State := (s.emit (.refresh r n)).trimApply r

/-- REFRESH_DUE: a rank's refresh interval elapses (R299, R302). `busy`: it has RT or NRT0 requests waiting;
`chain`: a chain is in progress on it. -/
def execRefreshDue (rank : Nat) (busy chain : Bool) (s : State) : Out :=
  let x := s.rank rank
  let debt := s.refDebt rank
  let atLimit := decide (s.debtLimit rank ≤ debt)
  if 127 < rank ∨ s.selfRefresh (rank / 16) ∨ (s.clk - x.refAt) * 2 ^ s.refMul rank < 3904 then done s s
  else if chain && !atLimit then done s s
  else
    let s1 := s.setRank rank { x with refAt := s.clk }
    if chain then done s ((s1.inc (Reg.DMG_CHAIN_SPLIT_COUNT (rank / 16))).refab rank 1)
    else if busy && !atLimit then done s (s1.setDebt rank (debt + 1))
    else if busy then done s (s1.refab rank 1)
    else done s ((s1.setDebt rank 0).refab rank (debt + 1))

/-- One rank's MR4 value is read (R300, R301). -/
def State.mr4 (s : State) (p : Mr4Poll) : State :=
  let c := chanOf p.rank
  let g := p.rank / 16
  let old := s.refMul p.rank
  let x := s.rank p.rank
  let rate := min p.rate 2
  let m := if old ≤ rate then rate else if x.lastRate < old then max rate x.lastRate else old
  let s1 := (s.setRank p.rank { x with lastRate := rate }).setFld (Reg.DCH_MR4 c.1) (8 * c.2 + 7) (8 * c.2) p.raw
  let debt := s.refDebt p.rank
  let s2 := if old < m ∧ debt ≠ 0 then
      (((s1.refab p.rank debt).setDebt p.rank 0).inc (Reg.DMG_PAYBACK_COUNT g)).raise (Page.DMG g) 2
    else s1
  let s3 := s2.setFld (Reg.DCH_REFRESH c.1) (2 * c.2 + 1) (2 * c.2) m
  let s4 := if m = 2 ∧ old < 2 then s3.raise (Page.DMG g) 0 else s3
  if 3 ≤ p.rate then (s4.raise (Page.DMG g) 1).faultKind (Page.DMG g) 32 p.rank p.raw else s4

/-- MR4 of ranks of the groups `ok` is read. -/
def State.mr4All (s : State) (ok : Nat → Bool) (polls : List Mr4Poll) : State :=
  (polls.filter (fun p => decide (p.rank < 128) && ok (p.rank / 16))).foldl
    (fun (t : State) (p : Mr4Poll) => t.mr4 p) s

/-- MR4_POLL: the 16 ms poll (R300). A group in self-refresh is not polled (R307). -/
def execMr4Poll (polls : List Mr4Poll) (s : State) : Out :=
  if s.clk < s.ram.pollAt + 16000000 then done s s
  else done s ({ s with ram := { s.ram with pollAt := s.clk } }.mr4All (fun g => !(s.selfRefresh g)) polls)

/-- A periodic training runs in the group. -/
def State.groupTraining (s : State) (g : Nat) : Bool :=
  (List.range 8).any (fun c => s.bitAt (Reg.DCH_STATUS (8 * g + c)) 2)

/-- SR_ENTRY: a group enters self-refresh (R307). -/
def execSrEntry (group : Nat) (s : State) : Out :=
  let m := s.memGroup group
  if 7 < group ∨ s.selfRefresh group ∨ s.clk < m.lastReq + 1000 * s.rd (Reg.DMG_SR_IDLE group) ∨
      (List.range 16).any (fun k => decide (s.refDebt (16 * group + k) ≠ 0)) ∨
      s.tEff ≤ 2000 + 1000 * s.rd (Reg.DMG_SR_MARGIN group) ∨ m.mig.isSome ∨ s.groupTraining group ∨
      s.bitAt (Reg.DMG_SR_DISABLE group) 0 then done s s
  else done s (((s.setMemGroup group { m with wake := false }).setFld (Reg.DMG_STATUS group) 2 1 2).inc
    (Reg.DMG_SR_COUNT group))

/-- SR_EXIT: a request or a fall of T_eff wakes a group; its debts are 0 and MR4 is read (R308). -/
def execSrExit (group : Nat) (polls : List Mr4Poll) (s : State) : Out :=
  let m := s.memGroup group
  if !(s.selfRefresh group) ∨ (!m.wake ∧ 2000 + 1000 * s.rd (Reg.DMG_SR_MARGIN group) < s.tEff) then done s s
  else
    let s1 := (s.setMemGroup group { m with wake := false }).setFld (Reg.DMG_STATUS group) 2 1 0
    let s2 := (List.range 16).foldl (fun (t : State) (k : Nat) =>
      (t.setDebt (16 * group + k) 0).setRank (16 * group + k) { t.rank (16 * group + k) with refAt := t.clk }) s1
    done s (s2.mr4All (fun g => decide (g = group)) polls)

/-- Periodic training of a rank starts: its old trims stay, flagged STALE (R310). -/
def State.trainStart (s : State) (r : Nat) : State :=
  (s.setBit (Reg.DCH_STATUS (chanOf r).1) 2 true).setBit (Reg.DCH_STATUS (chanOf r).1) 3 true

/-- Periodic training of a rank ends: margin and count are written, and the new trims wait for the rank's next refresh; a margin
below the floor is not applied (R310, R398). `trims` are words of DCHcc_TRIMj. -/
def State.trainDone (s : State) (rank margin : Nat) (trims : List (Nat × W32)) : State :=
  let c := chanOf rank
  let s1 := ((s.setBit (Reg.DCH_STATUS c.1) 2 false).setFld (Reg.DCH_TRAIN_MARGIN c.1) (16 * c.2 + 15) (16 * c.2)
    margin).inc (Reg.DCH_TRAIN_COUNT c.1)
  if margin < s.fld Reg.BMK_FLOOR 31 24 then s1.setBit (Reg.DCH_STATUS c.1) 3 false
  else
    let s2 := trims.foldl (fun (t : State) (x : Nat × W32) => t.setReg (Reg.DCH_TRIM c.1 (x.1 % 32)) x.2) s1
    s2.setRank rank { s2.rank rank with trimWait := true }

/-- RT and NRT traffic of a group over the last millisecond, in MB/s. -/
def State.memTraffic (s : State) (g : Nat) (rt : Bool) : Nat :=
  ((s.memGroup g).recent.filter (fun x => decide (s.clk < x.1 + 1000000) && (x.2 == rt))).length * 64 / 1000

end Sys2Proof.Machine
end

