-- ==== Sys2Proof/Machine/Contexts.lean ====
section
/-! DEFINITION. Opening and closing stream contexts (R54, R56, R57, R105, R131). -/

namespace Sys2Proof.Machine

/-- A field of a context entry is out of range (R53, R131). -/
def State.ctxBadEntry (s : State) (i : Nat) : Bool :=
  let f := s.ctxF i
  let ctrl := f 0 4
  let adj := signedOf 32 (f 0x1C 4)
  bit ctrl 0 || decide (bits ctrl 31 12 ≠ 0) || decide (s.ctxType i = 3) || decide (s.ctxTsMap i = 3) ||
  bit (f 5 1) 6 || decide (16 ≤ f 6 1) || bit (f 7 1) 7 || decide (f 8 2 = 0) ||
  decide (f 0x10 4 < 1000) || decide (10000000 < f 0x10 4) || decide (1000 < f 0x14 2) ||
  decide (bits (f 0x16 2) 14 10 ≠ 0) || decide (adj < -100000000) || decide (100000000 < adj) ||
  decide (f 0x28 8 % 64 ≠ 0) || decide (f 0x30 2 < 64) || decide (8192 < f 0x30 2) ||
  decide (f 0x32 2 < 64) || decide (4352 < f 0x32 2) || decide (f 0x34 4 ≠ 0) ||
  (decide (s.ctxType i = 2) && decide (s.ctxClass i = 0))

/-- An open context shares a receiving port, UDP_PORT and SSRC (R54). -/
def State.ctxDuplicate (s : State) (i : Nat) : Bool :=
  s.openCtxs.any (fun j => decide (j ≠ i) &&
    decide (bits (s.ctxF i 0 4) 8 5 &&& bits (s.ctxF j 0 4) 8 5 ≠ 0) &&
    decide (s.ctxF i 8 2 = s.ctxF j 8 2) && decide (s.ctxF i 0xC 4 = s.ctxF j 0xC 4))

/-- Code of an OPEN, 0 when it is accepted (R56). -/
def State.ctxOpenCode (s : State) (i : Nat) : Nat :=
  if s.ctxState i ≠ 0 then 2
  else if s.ctxBadEntry i then 6
  else if s.ctxDuplicate i then 3
  else if s.ctxClass i = 0 ∧ 128 ≤ s.rd Reg.ING_CLASS0_OPEN then 4
  else if (s.ctx i).ring.any (fun r => decide (r.holders ≠ []) &&
      decide (r.gen = (s.ctxGen i + 1) % 256)) then 5
  else 0

/-- The ring of an opened context: the retained slot stays HELD, the others become FREE at once or at the
release of the frames that hold them (R105). -/
def openRing (ring : List RingSlot) : List RingSlot :=
  ring.map (fun r => if r.retained then r else if r.holders = [] then {} else { r with st := 3 })

/-- OPEN (R56, R95, R100). -/
def State.ctxOpen (s : State) (i : Nat) : State :=
  let s1 := s.setCtxF i 4 1 ((s.ctxGen i + 1) % 256)
  let s2 := (s1.setCtxF i 0x38 4 (putBits (s1.ctxF i 0x38 4) 3 0 1)).setCtxF i 0x3C 4 0
  let base := s2.ctxF i 0x28 8
  let h := fun o n => if s2.ctxType i = 2 then 0 else s2.dramLe (base + o) n
  let c : CtxRun := {
    ring := openRing (s2.ctx i).ring
    bufBase := [h 0 8, h 8 8, h 0x10 8], bufSize := h 0x18 4, dpbSize := h 0x1C 4
    rrAt := s2.clk + 1000000 * s2.rd Reg.ING_RTCP_INTERVAL }
  let s3 := s2.setCtx i c
  let s4 := if s3.ctxType i = 2 then s3
    else ((s3.putRecord i 0).putRecord i 1).putRecord i 2
  let s5 := if s4.ctxClass i = 0 then s4.wr Reg.ING_CLASS0_OPEN (s4.rd Reg.ING_CLASS0_OPEN + 1) else s4
  s5.book i

/-- Nothing of a context is in flight. -/
def CtxRun.drained (c : CtxRun) : Bool := c.aus.isEmpty && c.jobs.isEmpty && c.pairWait.isEmpty

/-- At CLOSE the newest READY or HELD slot is retained in state HELD (R105). -/
def State.retainNewest (s : State) (i : Nat) : State :=
  let ring := (s.ctx i).ring
  match newestOf ring ((List.range 3).filter (fun k => decide (2 ≤ (ring.getD k {}).st))) with
  | some k => s.putSlot i k { s.slot i k with st := 3, retained := true }
  | none => s

/-- CLOSE (R56, R95, R105, R134). -/
def State.ctxClose (s : State) (i : Nat) : State :=
  let c0 := decide (s.ctxClass i = 0)
  let s1 := if s.ctxType i ≤ 1 then (s.unbook i).retainNewest i else s.sheetCtxClosed i
  let s2 := if c0 then s1.wr Reg.ING_CLASS0_OPEN (s1.rd Reg.ING_CLASS0_OPEN - 1) else s1
  s2.setCtxState i (if (s2.ctx i).drained then 0 else 2)

/-- ING_CTX_CMD: commands complete at once; OPs other than OPEN and CLOSE name no operation (R56). -/
def State.ctxCmd (s : State) (v : Nat) : State :=
  let i := bits v 9 0
  let op := bits v 17 16
  let status (t : State) (err : Nat) : State := t.wr Reg.ING_CTX_STATUS (err * 16 + i * 0x10000)
  if op = 1 then
    let code := s.ctxOpenCode i
    if code = 0 then status (s.ctxOpen i) 0 else status s code
  else if op = 2 then
    (if s.ctxState i = 1 then status (s.ctxClose i) 0 else status s 7)
  else s

/-- CTX_DRAIN_DONE: the last item in flight has retired (R56). -/
def execCtxDrainDone (ctx : Nat) (s : State) : Out :=
  if s.ctxState ctx = 2 ∧ (s.ctx ctx).drained then done s (s.setCtxState ctx 0) else done s s

end Sys2Proof.Machine
end

