-- ==== Sys2Proof/Machine/Trig.lean ====
section
/-! DEFINITION. Sine and cosine of angles in 0.01 degree, as integers over 2^60, for the plane placement and
the view cone (R31, R149, R151). The manual gives real functions; the error here is below 2^-50
(assumption 9). -/

namespace Sys2Proof.Machine

/-- 2^60. -/
def q60 : Int := 2 ^ 60

/-- π over 2^60, rounded. -/
def piQ : Int := 3622009729038561421

/-- Terms of a Taylor series: `t` is the present term, `x2` the square of the angle, `n` the power of the
present term. -/
def taylor (x2 : Int) : Nat → Nat → Int → Int
  | 0, _, _ => 0
  | f + 1, n, t => t + taylor x2 f (n + 2) (-(t * x2 / q60) / (((n + 1) * (n + 2) : Nat) : Int))

/-- An angle in 0.01 degree, in radians over 2^60. -/
def radQ (a : Int) : Int := a * piQ / 18000

/-- sin of an angle in 0.01 degree, over 2^60. -/
def sinQ (a : Int) : Int := taylor (radQ a * radQ a / q60) 14 1 (radQ a)

/-- cos of an angle in 0.01 degree, over 2^60. -/
def cosQ (a : Int) : Int := taylor (radQ a * radQ a / q60) 14 0 q60

end Sys2Proof.Machine
end

