-- ==== Sys2Proof/Machine/Layers.lean ====
section
/-! DEFINITION. Layer descriptors, their commits and validation, and the content that a Frame Gate takes
(R137 to R154, R200, R201, R222, R223). -/

namespace Sys2Proof.Machine

/-- What the device keeps for layer `k`. -/
def State.layer (s : State) (k : Nat) : LayerSt := aget {} k s.lay.layers

/-- Replace it. -/
def State.setLayer (s : State) (k : Nat) (v : LayerSt) : State :=
  { s with lay := { s.lay with layers := aset {} k v s.lay.layers } }

/-- Active bank of layer `k`. -/
def State.layBank (s : State) (k : Nat) : Nat := s.fld Reg.LAY_ACTIVE_BANK k k

/-- The fields of layer `k`'s active descriptor. -/
def State.layDesc (s : State) (k : Nat) : Nat → Nat → Nat := s.laydF k (s.layBank k)

/-- The fields of layer `k`'s inactive descriptor. -/
def State.layNext (s : State) (k : Nat) : Nat → Nat → Nat := s.laydF k (1 - s.layBank k)

/-- The domain that owns layer `k`'s space (R139). -/
def State.layerOwner (s : State) (k : Nat) : Dom :=
  match (s.layer k).owner with
  | 1 => .p0 | 2 => .p1 | 3 => .f | _ => (s.page Page.LAY).owner

/-- Layer `k` is named by a commit under validation. -/
def State.layBusy (s : State) (k : Nat) : Bool :=
  match s.lay.check with | some c => bit c.mask k | none => false

/-- Layer `k` has a pending commit. -/
def State.layPending (s : State) (k : Nat) : Bool := (s.layer k).pendAt.isSome

/-- The owner code written for layer `k` (LAY_OWNER0, LAY_OWNER1). -/
def State.ownerCode (s : State) (k : Nat) : Nat :=
  if k < 16 then s.fld Reg.LAY_OWNER0 (2 * k + 1) (2 * k) else s.fld Reg.LAY_OWNER1 (2 * k - 31) (2 * k - 32)

/-- Written owner codes take effect for the layers that are neither BUSY nor PENDING (R140). -/
def State.syncOwners (s : State) : State :=
  (List.range 32).foldl (fun t k =>
    if t.layBusy k || t.layPending k then t else t.setLayer k { t.layer k with owner := t.ownerCode k }) s

/-- All bytes [o, o + n) are 0. -/
def zeroBytes (e : Nat → Nat → Nat) (o n : Nat) : Bool := (List.range n).all (fun i => decide (e (o + i) 1 = 0))

/-- TYPE of a descriptor. -/
def dType (e : Nat → Nat → Nat) : Nat := e 0 1

/-- A bit of FLAGS: 0 GATING, 1 INSET_OK, 2 PREMULT, 3 NO_WRITEBACK, 4 POSE_OVR, 5 PAUSE. -/
def dFlag (e : Nat → Nat → Nat) (i : Nat) : Bool := bit (e 1 1) i

/-- CTX_EN of a PLANE descriptor. -/
def dCtxEn (e : Nat → Nat → Nat) : Bool := bit (e 0x22 2) 15

/-- Stream context of a PLANE descriptor. -/
def dCtx (e : Nat → Nat → Nat) : Nat := bits (e 0x22 2) 9 0

/-- BAD_TYPE: TYPE, KERNEL or a reserved field (R143, R144, R200). -/
def badType (e : Nat → Nat → Nat) : Bool :=
  let t := dType e
  decide (3 < t) || decide (bits (e 1 1) 7 6 ≠ 0) || (decide (t ≠ 3) && decide (bits (e 4 1) 7 6 ≠ 0)) ||
  decide (e 5 1 ≠ 0) || (dFlag e 4 && decide (t ≠ 3)) ||
  (decide (t = 1) && (decide (1 < e 3 1) || decide (bits (e 0x22 2) 14 13 ≠ 0) || !(zeroBytes e 0x3C 0x24) ||
    !(zeroBytes e 0x64 0x1C))) ||
  (decide (t = 2) && (decide (2 < e 3 1) || decide (63 < e 8 1) || decide (e 0xB 1 ≠ 0) ||
    !(zeroBytes e 0x1A 6) || !(zeroBytes e 0x28 0x38) || decide (e 0x65 1 ≠ 0) || !(zeroBytes e 0x6A 0x16))) ||
  (decide (t = 3) && (decide (1 < e 3 1) || decide (63 < e 8 1) || !(zeroBytes e 9 0x17) ||
    (!(dFlag e 4) && !(zeroBytes e 0x20 0x40)) || decide (15 < e 0x60 1) || !(zeroBytes e 0x61 0x1F)))

/-- Bytes per luma or packed pixel of a PLANE format (R145). -/
def planePixel (f : Nat) : Nat := if f ≤ 4 then fmtBytes f else 4

/-- Format, size, stride and alignment of a PLANE source (R145). -/
def planeSourceOk (e : Nat → Nat → Nat) : Bool :=
  let f := e 0x20 1
  let w := e 0x1C 2
  let h := e 0x1E 2
  let st := e 0x18 4
  let taps := e 0x21 1
  let tapsOk := decide (2 ≤ bits taps 3 0) && decide (bits taps 3 0 ≤ 8) && decide (2 ≤ bits taps 7 4) &&
    decide (bits taps 7 4 ≤ 6)
  if dCtxEn e then tapsOk && zeroBytes e 8 0x19
  else tapsOk && decide (f ≤ 6) && decide (e 8 8 % 256 = 0) && decide (e 0x10 8 % 256 = 0) &&
    (decide (f < 4) || decide (e 0x10 8 = 0)) &&
    decide (16 ≤ w) && decide (w ≤ 8192) && decide (16 ≤ h) && decide (h ≤ 8192) &&
    (decide (4 ≤ f) || decide (w % 2 = 0)) && (decide (2 ≤ f) || decide (h % 2 = 0)) &&
    decide (st % 256 = 0) && decide (w * planePixel f ≤ st)

/-- BAD_FORMAT (R143 to R146, R201). -/
def badFormat (e : Nat → Nat → Nat) : Bool :=
  let t := dType e
  let bias := signedOf 32 (e 0x10 4)
  decide (32768 < e 6 2) ||
  (dFlag e 2 && !(decide (t = 1) && !(dCtxEn e) && decide (5 ≤ e 0x20 1) && decide (e 0x20 1 ≤ 6))) ||
  (decide (t = 1) && (!(planeSourceOk e) || decide (100000 < e 0x60 4))) ||
  (decide (t = 2) && (decide (e 9 1 = 0) || decide (16 < e 9 1) || decide (1 < e 0xA 1) ||
    decide (e 0xC 4 = 0) || decide (1000000 < e 0xC 4) || decide (1000000000 < bias.natAbs) ||
    decide (e 0x14 4 < 10000) || decide (1000000000 < e 0x14 4) || decide (e 0x20 8 % 64 ≠ 0) ||
    decide (4 < e 0x60 1) || decide (e 0x61 1 = 1) || decide (16 < e 0x61 1) ||
    decide (50000 < e 0x62 2) || decide (1 < e 0x64 1)))

/-- BAD_PLACEMENT of a PLANE layer against the map's depth limits in mm (R145, R149). -/
def badPlacement (e : Nat → Nat → Nat) (limits : Option (Int × Int)) : Bool :=
  let d := signedOf 32 (e 0x24 4)
  decide (dType e = 1) &&
  ((match limits with
    | some (far, near) => decide (d < far * 1000) || decide (near * 1000 < d)
    | none => false) ||
   decide (6000 < (signedOf 16 (e 0x28 2)).natAbs) || decide (6000 < (signedOf 16 (e 0x2A 2)).natAbs) ||
   decide (e 0x34 4 < 1000) || decide (2000000 < e 0x34 4) || decide (e 0x38 4 < 1000) ||
   decide (2000000 < e 0x38 4))

/-- Depth limits of the active map: DEPTH_FAR_MM and DEPTH_NEAR_MM. -/
def State.depthLimits (s : State) : Option (Int × Int) :=
  if s.seq.hasMap then some (signedOf 16 (s.mapF 0x26 2), signedOf 16 (s.mapF 0x24 2)) else none

/-- Sy of R151 as a fraction: 2 tan(Ay), or the span of TAN_Y in the view table. -/
def State.viewSpan (s : State) : Int × Int :=
  if bit (s.mapF 0x29 1) 0 then
    let t := (List.range (s.mapU * s.mapV)).map (fun k =>
      signedOf 32 (s.pmapLe s.mapBank (secOff (s.pmapLe s.mapBank) 1 + 8 * k + 4) 4))
    match t with
    | [] => (0, 1)
    | x :: r => (r.foldl max x - r.foldl min x, 2 ^ 24)
  else (2 * sinQ (s.mapF 0x22 2), cosQ (s.mapF 0x22 2))

/-- ceil(P + G) of R151 for a PLANE descriptor. -/
def State.lbufSpan (s : State) (e : Nat → Nat → Nat) : Nat :=
  let srcH : Int := if dCtxEn e then s.ctxF (dCtx e) 0x32 2 else e 0x1E 2
  let h : Int := e 0x38 4
  let w : Int := e 0x34 4
  let tx := signedOf 16 (e 0x28 2)
  let ty := signedOf 16 (e 0x2A 2)
  let zmax2 := 2 * (signedOf 32 (e 0x24 4)).natAbs * q60 + h * (sinQ tx).natAbs + w * (sinQ ty).natAbs
  let (sn, sd) := s.viewSpan
  let num := zmax2 * sn * srcH * 1000 + 2 * sd * (s.mapF 0x1C 4 : Int) * srcH * q60
  let den := 2 * sd * h * cosQ tx * 1000
  if den ≤ 0 then 0 else ((num + den - 1) / den).toNat

/-- The line buffer check of a PLANE descriptor: the required line count when it is refused, else the reduced
vertical taps, 0 for the requested ones (R151, R152). -/
def State.lbufCheck (s : State) (e : Nat → Nat → Nat) : Nat ⊕ Nat :=
  let tv := bits (e 0x21 1) 7 4
  let c := s.lbufSpan e
  let n := tv + c + 1
  if n ≤ 96 then .inr 0
  else if s.bitAt Reg.LAY_AUTO_TAPS 0 ∧ c + 3 ≤ 96 then .inr (96 - c - 1)
  else .inl n

/-- BAD_SOURCE (R143). -/
def State.badSource (s : State) (e : Nat → Nat → Nat) : Bool :=
  match dType e with
  | 1 => dCtxEn e && decide (s.ctxType (dCtx e) ≠ 0)
  | 2 => !(s.groupEn (bits (e 8 1) 5 0))
  | 3 => !(s.sheetEn (bits (e 8 1) 5 0))
  | _ => false

/-- The view parameter block that a VIEWSET descriptor names (R147). -/
def State.vpbBytes (s : State) (e : Nat → Nat → Nat) : List Byte := s.dramBytes (e 0x20 8) (64 * e 9 1)

/-- Word `w` of entry `v` of a view parameter block. -/
def vpbWord (b : List Byte) (v w : Nat) : Nat := leNat ((b.drop (64 * v + 4 * w)).take 4)

/-- A view matrix is singular or not finite (BAD_POSE). -/
def viewMatrixBad (b : List Byte) (v : Nat) : Bool :=
  let m := fun i => f32Scaled (vpbWord b v (4 + i))
  (List.range 12).any (fun i => f32NotFinite (vpbWord b v (4 + i))) ||
  decide (det3 (m 0) (m 1) (m 2) (m 4) (m 5) (m 6) (m 8) (m 9) (m 10) = 0)

/-- BAD_POSE (R115, R143). -/
def State.badPose (s : State) (e : Nat → Nat → Nat) : Bool :=
  match dType e with
  | 2 => (List.range (e 9 1)).any (fun v => viewMatrixBad (s.vpbBytes e) v)
  | 3 => dFlag e 4 && (poseFault ((List.range 16).map (fun i => e (0x20 + 4 * i) 4))).isSome
  | _ => false

/-- VPB_ERR: the block's read returned poison, or a value is not finite (R143). -/
def State.vpbErr (s : State) (e : Nat → Nat → Nat) : Bool :=
  decide (dType e = 2) &&
  (s.dramPoison (e 0x20 8) (64 * e 9 1) ||
   (List.range (e 9 1)).any (fun v => (List.range 4).any (fun i => f32NotFinite (vpbWord (s.vpbBytes e) v i))))

/-- The layers of a mask in ascending order. -/
def maskLayers (m : Nat) : List Nat := (List.range 32).filter (fun k => bit m k)

/-- The first failure among the checks of codes 0x04 to 0x0C: code, layer, detail (R143). -/
def State.layersFault (s : State) (mask : Nat) : Option (Nat × Nat × Nat) :=
  let ls := maskLayers mask
  let e := fun k => s.layNext k
  let map := s.seq.hasMap
  let first (p : Nat → Bool) (c : Nat) : Option (Nat × Nat × Nat) :=
    (ls.find? p).map (fun k => (c, k, k))
  let lbuf : Option (Nat × Nat × Nat) :=
    if !map then none
    else ls.findSome? (fun k => if dType (e k) = 1 then
      (match s.lbufCheck (e k) with | .inl n => some (0x07, k, n) | .inr _ => none) else none)
  ((((((((first (fun k => badType (e k)) 0x04).orElse
    (fun _ => first (fun k => badFormat (e k)) 0x05)).orElse
    (fun _ => first (fun k => badPlacement (e k) s.depthLimits) 0x06)).orElse
    (fun _ => lbuf)).orElse
    (fun _ => first (fun k => s.badSource (e k)) 0x08)).orElse
    (fun _ => first (fun k => s.badPose (e k)) 0x09)).orElse
    (fun _ => first (fun k => s.vpbErr (e k)) 0x0A)).orElse
    (fun _ => if map then none else first (fun k => decide (dType (e k) ≠ 0)) 0x0C))

/-- A layer commit fails: LAY_ERR, STATUS.ERR of each named layer, COMMIT_ERR (R141, R143). -/
def State.layFail (s : State) (mask code layer detail : Nat) : State :=
  let s1 := (s.wr Reg.LAY_ERR (code + layer * 0x100 + (detail % 65536) * 0x10000)).raise Page.LAY 0
  (maskLayers mask).foldl (fun t k => t.setLayer k { t.layer k with err := code, detail := detail }) s1

/-- A commit of the layers in `mask` by domain `d` (R141). -/
def State.layCommit (s : State) (d : Dom) (byPage : Bool) (mask : Nat) : State :=
  if mask = 0 then (if byPage then s.makeCommit Page.LAY else s)
  else if s.bitAt Reg.LAY_STATUS 0 then s.layFail mask 0x01 0 0
  else match (maskLayers mask).find? (fun k => !(s.layerOwner k = d)) with
  | some k => s.layFail mask 0x02 k k
  | none => match (maskLayers mask).find? (fun k => s.layPending k) with
    | some k => s.layFail mask 0x03 k k
    | none =>
      { s.setBit Reg.LAY_STATUS 0 true with
        lay := { s.lay with check := some {
          mask := mask, byPage := byPage, modified := false
          snap := if byPage then s.snapshot Page.LAY else [] } } }

/-- LAYER_SPACE_COMMIT: the owner of a layer space writes a mask to its COMMIT, one of the commits that R334 counts
(R138, R141). -/
def State.laySpaceCommit (s : State) (d : Dom) (k mask : Nat) : State :=
  if s.layerOwner k = d then
    ({ s with moor := { s.moor with writes := s.moor.writes + 1 } }).layCommit d false mask
  else s

/-- LAYER_SPACE_COMMIT. -/
def execLayerSpaceCommit (d : Dom) (layer : Nat) (mask : W32) (s : State) : Out :=
  done s (s.laySpaceCommit d (layer % 32) mask.toNat)

/-- The reduced taps of a descriptor that passed its checks. -/
def State.tapsFor (s : State) (e : Nat → Nat → Nat) : Nat :=
  if dType e = 1 ∧ s.seq.hasMap then (match s.lbufCheck e with | .inr t => t | .inl _ => 0) else 0

/-- LAYER_VALIDATE_DONE: all named layers become PENDING at one instant, or none does (R141 to R143). -/
def execLayerValidateDone (s : State) : Out :=
  match s.lay.check with
  | none => done s s
  | some c =>
    let s1 := { s.setBit Reg.LAY_STATUS 0 false with lay := { s.lay with check := none } }
    let fault := if c.modified then some (0x0B, (maskLayers c.mask).headD 0, (maskLayers c.mask).headD 0)
      else s.layersFault c.mask
    match fault with
    | some (code, k, detail) => done s ((s1.layFail c.mask code k detail).syncOwners)
    | none =>
      let s2 := (maskLayers c.mask).foldl (fun t k => t.setLayer k { t.layer k with
        pendAt := some s.clk, err := 0, detail := 0
        vpbPend := if dType (s.layNext k) = 2 then s.vpbBytes (s.layNext k) else []
        tapsPend := s.tapsFor (s.layNext k) }) s1
      done s (if c.byPage then s2.commitSet Page.LAY c.snap else s2)

/-- A write of LAY_OWNER0 or LAY_OWNER1 (R140). -/
def State.writeLayOwner (s : State) (a v : Nat) : State := (s.wr a v).syncOwners

/-- STATUS of a layer space (R138). -/
def State.layStatusWord (s : State) (k : Nat) : Nat :=
  let l := s.layer k
  (if s.layBusy k then 1 else 0) + (if s.layPending k then 2 else 0) + s.layBank k * 4 +
    l.err % 256 * 0x100 + l.detail % 65536 * 0x10000

/-- Mask of the layers with a pending commit (R142). -/
def State.layPendMask (s : State) : Nat :=
  (List.range 32).foldl (fun m k => if s.layPending k then m + 2 ^ k else m) 0

/-- A Gangway write to bank `b` of layer `k` is refused (R139). -/
def State.laydWriteRefused (s : State) (k b : Nat) : Bool :=
  decide (b = s.layBank k) || s.layPending k

/-- A Gangway write reaches the inactive bank of layer `k`: a validation of it sees MODIFIED (R139). -/
def State.laydTouched (s : State) (k : Nat) : State :=
  match s.lay.check with
  | some c => if bit c.mask k then { s with lay := { s.lay with check := some { c with modified := true } } } else s
  | none => s

/-- Layer `k` is on, not paused, and not kept dark by R153. -/
def State.layOn (s : State) (k : Nat) : Bool :=
  decide (dType (s.layDesc k) ≠ 0) && !(dFlag (s.layDesc k) 5) && !(s.layer k).failed

/-- Layer `k` is in the gating set (R222). -/
def State.layGating (s : State) (k : Nat) : Bool :=
  dFlag (s.layDesc k) 0 && decide (dType (s.layDesc k) ≠ 0) && !(dFlag (s.layDesc k) 5) &&
    !(bit (s.inForce Reg.SEQ_GATING_IGNORE) k)

/-- The newest READY or HELD picture of context `i` that the gate sees (R154). -/
def State.newestPic (s : State) (i : Nat) : Option Nat :=
  newestOf (s.ctx i).ring ((List.range 3).filter (fun n =>
    decide (2 ≤ (s.slot i n).st) && s.visible (s.slot i n).readyAt))

/-- An event at `t` is visible now and was not at the last gate (R223). -/
def State.newEvent (s : State) (t : Nat) : Bool := s.visible t && !(visibleAt s.seq.gateClk t)

/-- Layer `k` is ready for the coming gate (R154, R223). -/
def State.layReady (s : State) (k : Nat) : Bool :=
  let e := s.layDesc k
  let commit := match (s.layer k).pendAt with
    | some t => s.visible t && decide (dType (s.layNext k) = 1) && !(dCtxEn (s.layNext k))
    | none => false
  commit ||
  (match dType e with
  | 1 => dCtxEn e && (List.range 3).any (fun n => decide (2 ≤ (s.slot (dCtx e) n).st) &&
      s.newEvent (s.slot (dCtx e) n).readyAt)
  | 2 => (match (s.group (bits (e 8 1) 5 0)).latest with
      | some x => !x.partialInst && s.newEvent x.doneAt
      | none => false)
  | 3 =>
    let a := bits (e 8 1) 5 0
    s.sheetBit a 2 && !(s.sheetSlot a).clearPend && s.visible (s.sheetSlot a).pendAt
  | _ => false)

/-- LAY_READY. -/
def State.layReadyMask (s : State) : Nat :=
  (List.range 32).foldl (fun m k => if s.layReady k then m + 2 ^ k else m) 0

/-- Layers of the gating set that are not ready. -/
def State.lateMask (s : State) : Nat :=
  (List.range 32).foldl (fun m k => if s.layGating k && !(s.layReady k) then m + 2 ^ k else m) 0

/-- The pending bank of every layer whose commit the gate sees becomes active (R142, R152). -/
def State.layGate (s : State) (fs : Nat) : State :=
  let t := (List.range 32).foldl (fun (t : State) k =>
    let l := t.layer k
    let seen := match l.pendAt with | some p => t.visible p | none => false
    if seen then
      let u := (t.setFld Reg.LAY_ACTIVE_BANK k k (1 - t.layBank k)).setLayer k { l with
        pendAt := none, commitSeq := fs, vpb := l.vpbPend, vpbPend := [], taps := l.tapsPend, tapsPend := 0
        failed := false, quiet := 0 }
      let v := u.setBit Reg.LAY_TAPS_REDUCED k (decide (l.tapsPend ≠ 0))
      if l.tapsPend ≠ 0 then v.raise Page.LAY 1 else v
    else t.setLayer k { l with quiet := min 255 (l.quiet + 1) }) s
  (t.commitTake Page.LAY fs).syncOwners

/-- The slots of a group instance that still hold their pictures. -/
def State.instSlots (s : State) (x : GroupInst) : List (Nat × Nat × Nat) :=
  (x.pics.filter (fun p => decide (2 ≤ (s.slot p.ctx p.slot).st) &&
    decide ((s.slot p.ctx p.slot).picSeq = p.picSeq))).map (fun p => (p.ctx, p.slot, p.picSeq))

/-- View indices that the members of an instance supply (R146): each member supplies as many views as its
picture has, from VIEW on. -/
def State.viewSupplied (s : State) (l : List (Nat × Nat × Nat)) (v : Nat) : Bool :=
  l.any (fun (p : Nat × Nat × Nat) =>
    let v0 := bits (s.ctxF p.1 6 1) 3 0
    decide (v0 ≤ v) && decide (v < v0 + (s.slot p.1 p.2.1).views))

/-- A picture carries PARTIAL, REF_TAINT or DEPTH_STALE (R157). -/
def State.picFlagged (s : State) (p : Nat × Nat × Nat) : Bool :=
  let r := s.slot p.1 p.2.1
  r.partialPic || r.taint || r.depthStale

/-- What one layer takes at a gate (R154): the new state, whether it took new content. `late`: it shows
its previous content (R230); `skip` (R394): it takes no new picture of a context whose class is not 0. -/
def State.takeLayer (s : State) (fs k : Nat) (late skip : Bool) : State × Bool :=
  let e := s.layDesc k
  let l := s.layer k
  let committed := decide (l.commitSeq = fs) && decide (l.quiet = 0)
  match dType e with
  | 1 =>
    if !(dCtxEn e) then (s.setLayer k { l with shown := [], partStale := false }, committed && !late)
    else
      let i := dCtx e
      let keep := late || (skip && decide (s.ctxClass i ≠ 0))
      (match if keep then none else s.newestPic i with
      | none => (s, false)
      | some n =>
        let p := (i, n, (s.slot i n).picSeq)
        if l.shown = [p] then (s, false)
        else (s.setLayer k { l with shown := [p], partStale := s.picFlagged p }, true))
  | 2 =>
    (match (s.group (bits (e 8 1) 5 0)).latest with
    | none => (s, false)
    | some x =>
      let skipped := skip && x.pics.all (fun p => decide (s.ctxClass p.ctx ≠ 0))
      if late || skipped || !(s.visible x.doneAt) || decide (x.serial ≤ l.serial) then (s, false)
      else
        let sl := s.instSlots x
        let missing := (List.range (e 9 1)).any (fun v => !(s.viewSupplied sl v))
        let noDepth := decide (e 0xA 1 = 0) && sl.any (fun p => decide ((s.slot p.1 p.2.1).depthSlot = 0xFF))
        (s.setLayer k { l with
          shown := sl, serial := x.serial
          partStale := x.partialInst || missing || noDepth || sl.any s.picFlagged }, true))
  | 3 =>
    let a := bits (e 8 1) 5 0
    (s.setLayer k { l with shown := [], partStale := false },
      decide (s.rd (Reg.ATL_SLOT_COMMIT_SEQ a) = fs) && s.sheetShown a && !late)
  | _ => (s.setLayer k { l with shown := [], partStale := false }, false)

/-- The result of taking content for all layers: state, STALE mask, partially stale mask, the pictures that
are new. -/
structure Taken where
  st : State
  stale : Nat
  part : Nat
  fresh : List (Nat × Nat)

/-- Every layer takes its content at the gate with new FRAME_SEQ `fs`; the slots it shows are HELD for the
frame (R104, R154, R157, R230, R231). `late` is the mask of late gating layers; `skip` applies to
non-gating layers (R394). -/
def State.takeContent (s : State) (fs late : Nat) (skip : Bool) : Taken :=
  let r := (List.range 32).foldl (fun (r : Taken) k =>
    if !(r.st.layOn k) then
      (if dType (r.st.layDesc k) = 0 then { r with st := (r.st.takeLayer fs k false false).1 } else r)
    else
      let g := r.st.layGating k
      let (t, new) := r.st.takeLayer fs k (bit late k) (skip && !g)
      let shown := (t.layer k).shown
      let u := shown.foldl (fun (v : State) (p : Nat × Nat × Nat) =>
        if (v.slot p.1 p.2.1).picSeq = p.2.2 then v.holdSlot p.1 p.2.1 fs else v) t
      { st := u
        stale := if bit late k || (!new && !g) then r.stale + 2 ^ k else r.stale
        part := if (t.layer k).partStale then r.part + 2 ^ k else r.part
        fresh := if new then r.fresh ++ shown.map (fun p => (p.1, p.2.1)) else r.fresh })
    { st := s, stale := 0, part := 0, fresh := [] }
  -- slots that no layer shows any more are released (R104)
  { r with st := r.st.releaseSlots (2 ^ 32) }

/-- A mode crossing or panel map switch re-checks every PLANE layer against the new map (R153). -/
def State.recheckLayers (s : State) : State :=
  (List.range 32).foldl (fun (t : State) k =>
    if dType (t.layDesc k) ≠ 1 then t
    else match t.lbufCheck (t.layDesc k) with
    | .inl n => (t.wr Reg.LAY_ERR (0x07 + k * 0x100 + (n % 65536) * 0x10000)).setLayer k
        { t.layer k with failed := true }
    | .inr p =>
      let u := (t.setLayer k { t.layer k with taps := p }).setBit Reg.LAY_TAPS_REDUCED k
        (decide (p ≠ 0))
      if p ≠ 0 then u.raise Page.LAY 1 else u) s

end Sys2Proof.Machine
end

