-- ==== Sys2Proof/Machine/Inset.lean ====
section
/-! DEFINITION. The Inset cache (R160 to R162), and the frames that Survey writeback takes (R165). -/

namespace Sys2Proof.Machine

/-- n·C of a PLANE descriptor in µm over 2^60 (R149, R160). -/
def planeDist (e : Nat → Nat → Nat) : Int :=
  let tx := signedOf 16 (e 0x28 2)
  let ty := signedOf 16 (e 0x2A 2)
  (sinQ ty * signedOf 32 (e 0x2C 4) * q60 - sinQ tx * cosQ ty * signedOf 32 (e 0x30 4) +
    cosQ tx * cosQ ty * signedOf 32 (e 0x24 4)) / q60

/-- e_s·C of a PLANE descriptor in µm over 2^60 (R149). -/
def planeS (e : Nat → Nat → Nat) : Int :=
  let tx := signedOf 16 (e 0x28 2)
  let ty := signedOf 16 (e 0x2A 2)
  (cosQ ty * signedOf 32 (e 0x2C 4) * q60 + sinQ tx * sinQ ty * signedOf 32 (e 0x30 4) -
    cosQ tx * sinQ ty * signedOf 32 (e 0x24 4)) / q60

/-- e_t·C of a PLANE descriptor in µm over 2^60 (R149). -/
def planeT (e : Nat → Nat → Nat) : Int :=
  cosQ (signedOf 16 (e 0x28 2)) * signedOf 32 (e 0x30 4) +
    sinQ (signedOf 16 (e 0x28 2)) * signedOf 32 (e 0x24 4)

/-- Two PLANE layers lie on one plane: identical tilts and n·C within 1 µm (R160). -/
def samePlane (e f : Nat → Nat → Nat) : Bool :=
  decide (e 0x28 2 = f 0x28 2) && decide (e 0x2A 2 = f 0x2A 2) &&
    decide ((planeDist e - planeDist f).natAbs ≤ q60.natAbs)

/-- A PLANE layer may be flattened: INSET_OK, and no GATING, PAUSE or CTX_EN (R160). -/
def insetOk (e : Nat → Nat → Nat) : Bool :=
  decide (dType e = 1) && dFlag e 1 && !(dFlag e 0) && !(dFlag e 5) && !(dCtxEn e)

/-- The flattening set of layer `k`, when it is a candidate: no other PLANE layer lies on its plane. -/
def State.insetSet (s : State) (k : Nat) : Option (List Nat) :=
  let on := (List.range 32).filter (fun j => decide (dType (s.layDesc j) = 1) &&
    samePlane (s.layDesc k) (s.layDesc j))
  if insetOk (s.layDesc k) ∧ on.all (fun j => insetOk (s.layDesc j)) then some on else none

/-- Smallest and largest value of a list, 0 for none. -/
def minMax : List Int → Int × Int
  | [] => (0, 0)
  | x :: r => (r.foldl min x, r.foldl max x)

/-- Samples of a span of `w2` half-µm over 2^60 at a pitch in nm: ceil(width / pitch) + 1 (R161). -/
def pitchSamples (w2 : Int) (pitchNm : Nat) : Nat :=
  let d := 2 * q60 * pitchNm
  if d ≤ 0 then 0 else ((w2 * 1000 + d - 1) / d).toNat + 1

/-- 64 KiB units of a set's plane (R161). -/
def State.insetUnits (s : State) (ls : List Nat) : Nat :=
  let edge (c : (Nat → Nat → Nat) → Int) (o : Nat) (sgn : Int) : List Int :=
    ls.map (fun j => 2 * c (s.layDesc j) + sgn * (s.layDesc j o 4 : Int) * q60)
  let w2 := (minMax (edge planeS 0x34 1)).2 - (minMax (edge planeS 0x34 (-1))).1
  let h2 := (minMax (edge planeT 0x38 1)).2 - (minMax (edge planeT 0x38 (-1))).1
  ceilDiv (pitchSamples w2 (s.mapF 0x18 4) * pitchSamples h2 (s.mapF 0x1C 4) * 8) 65536

/-- Replace the sets of the Inset cache; INS_USED and INS_FLAT_MASK follow. -/
def State.setSets (s : State) (l : List FlatSet) : State :=
  (({ s with lay := { s.lay with sets := l } }).wr Reg.INS_USED (l.foldl (fun (n : Nat) (x : FlatSet) => n + x.units) 0)).wr
    Reg.INS_FLAT_MASK ((l.filter (fun (x : FlatSet) => x.st = 2)).foldl
      (fun (m : Nat) (x : FlatSet) => x.members.foldl (fun (n k : Nat) => n ||| 2 ^ k) m) 0)

/-- INSET_FLATTEN_START: a stable candidate set is flattened if its whole allocation is free (R161, R162). -/
def execInsetFlattenStart (layer : Nat) (s : State) : Out :=
  if !(s.bitAt Reg.INS_CTRL 0) || !s.seq.hasMap then done s s
  else match s.insetSet layer with
  | none => done s s
  | some ls =>
    let stable := ls.all (fun j => decide (s.rd Reg.INS_STABLE_FRAMES ≤ (s.layer j).quiet))
    let taken := s.lay.sets.any (fun x => decide (x.st ≠ 3) && x.members.any (fun j => ls.contains j))
    if !stable || taken then done s s
    else
      let u := s.insetUnits ls
      if 1024 < s.rd Reg.INS_USED + u then done s ((s.inc Reg.INS_NOROOM_COUNT).raise Page.INS 0)
      else done s (s.setSets ({ members := ls, units := u, st := 0, lastFrame := 0 } :: s.lay.sets))

/-- INSET_FLATTEN_DONE: flattening ends; with a poisoned read the set is left unflattened (R161, R162). -/
def execInsetFlattenDone (layer : Nat) (poison : Bool) (s : State) : Out :=
  match s.lay.sets.find? (fun x => decide (x.st = 0) && x.members.contains layer) with
  | none => done s s
  | some x =>
    let rest := s.lay.sets.filter (fun y => !(decide (y.st = 0) && y.members.contains layer))
    if poison then done s (s.setSets rest)
    else done s ((s.setSets ({ x with st := 1 } :: rest)).inc Reg.INS_FLATTEN_COUNT)

/-- Un-flatten the sets that `cut` names: a set that is not shown is dropped at once, a shown one is counted
and keeps its space until the last line of frame `lastFs` (R162). -/
def State.unflatten (s : State) (lastFs : Nat) (finished : Bool) (cut : FlatSet → Bool) : State :=
  let hit := s.lay.sets.filter (fun x => decide (x.st = 2) && cut x)
  let keep := (s.lay.sets.filter (fun x => decide (x.st = 3) || !(cut x)))
  let drained := if finished then [] else hit.map (fun x => { x with st := 3, lastFrame := lastFs })
  (s.setSets (keep ++ drained)).addCnt Reg.INS_UNFLATTEN_COUNT hit.length

/-- The Inset cache's part of a Frame Gate with new FRAME_SEQ `fs` (R161, R162). -/
def State.insetGate (s : State) (fs : Nat) (finished : Bool) : State :=
  let off := !(s.bitAt Reg.INS_CTRL 0)
  let s1 := s.unflatten ((fs + 2 ^ 32 - 1) % 2 ^ 32) finished (fun x => off ||
    x.members.any (fun k => bit s.lay.forceUnflat k || decide ((s.layer k).quiet = 0)))
  let s2 := { s1 with lay := { s1.lay with forceUnflat := 0 } }
  s2.setSets (s2.lay.sets.map (fun x => if x.st = 1 then { x with st := 2 } else x))

/-- Space of un-flattened sets is freed after the last line of the last frame that reads it (R162). -/
def State.insetDrained (s : State) (fs : Nat) : State :=
  s.setSets (s.lay.sets.filter (fun x => !(decide (x.st = 3) && decide (0 ≤ wrapDiff 32 fs x.lastFrame))))

/-- A write of INS_FORCE_UNFLAT (R162). -/
def State.writeForceUnflat (s : State) (v : Nat) : State :=
  { s with lay := { s.lay with forceUnflat := s.lay.forceUnflat ||| v } }

/-- DRAM address of writeback buffer `i` in force. -/
def State.wbkBase (s : State) (i : Nat) : Nat :=
  s.inForce (Reg.WBK_BUF_LO i) / 4096 * 4096 + s.forceFld (Reg.WBK_BUF_HI i) 7 0 * 2 ^ 32

/-- The hogel rectangle that is written back: WBK_AREA clamped to the panel's last hogel (R163). -/
def State.wbkArea (s : State) : Nat × Nat × Nat × Nat :=
  (s.forceFld Reg.WBK_AREA_LO 12 0, s.forceFld Reg.WBK_AREA_LO 28 16,
   min (s.forceFld Reg.WBK_AREA_HI 12 0) (s.mapW - 1), min (s.forceFld Reg.WBK_AREA_HI 28 16) (s.mapH - 1))

/-- The writeback's part of the Frame Gate that starts frame `f`: a frame is due, and a buffer is free for it (R165). -/
def State.wbkGate (s : State) (f : FrameSt) : State :=
  if !(bit (s.inForce Reg.WBK_CTRL) 0) then s
  else
    let due := (s.lay.wbkLast.toList ++ s.lay.wbk.map (fun (w : WbkFrame) => w.gate)).all (fun t =>
      decide (t + 1000 * s.inForce Reg.WBK_MIN_PERIOD ≤ s.clk))
    if !due then s
    else
      let newest := s.fld Reg.WBK_STATUS 1 0
      match (List.range 3).find? (fun i => !(bit (s.inForce Reg.WBK_HOLD) i) &&
          !(s.bitAt Reg.WBK_STATUS 2 && decide (newest = i)) && !(s.lay.wbk.any (fun w => decide (w.buf = i)))) with
      | none => s.inc Reg.WBK_SKIP_COUNT
      | some i =>
        let w : WbkFrame := {
          buf := i, seq := f.fs, gate := s.clk, format := s.forceFld Reg.WBK_CTRL 1 1
          width := s.forceFld Reg.WBK_SIZE 12 0, height := s.forceFld Reg.WBK_SIZE 28 16
          stride := s.inForce Reg.WBK_STRIDE, chromaOffset := s.inForce Reg.WBK_CHROMA_OFFSET, base := s.wbkBase i
          colour := s.forceFld Reg.WBK_CTRL 3 2, u := s.forceFld Reg.WBK_VIEW 11 0, v := s.forceFld Reg.WBK_VIEW 27 16
          area := s.wbkArea, frame := f }
        { s with lay := { s.lay with wbk := s.lay.wbk ++ [w] } }

end Sys2Proof.Machine
end

