-- ==== Sys2Proof/Machine/Plan.lean ====
section
/-! DEFINITION. Column assignment, gangs, ray queue shares and the planning cost of the Graticule (R193 to
R195, R206 to R209). -/

namespace Sys2Proof.Machine

/-- A non-negative fraction. -/
abbrev Frac := Nat × Nat

/-- a ≤ b. -/
def fracLe (a b : Frac) : Bool := decide (a.1 * b.2 ≤ b.1 * a.2)

/-- The larger of two fractions. -/
def fracMax (a b : Frac) : Frac := if fracLe a b then b else a

/-- Column `n`. -/
def State.col (s : State) (n : Nat) : GratCol := aget {} n s.grt.cols

/-- Replace it. -/
def State.setCol (s : State) (n : Nat) (c : GratCol) : State :=
  { s with grt := { s.grt with cols := aset {} n c s.grt.cols } }

/-- Columns with at least one active engine (R193). -/
def State.usableCols (s : State) : List Nat :=
  (List.range 32).filter (fun n => !((s.col n).active.isEmpty))

/-- FIRST_COL and COL_COUNT of a port in an assignment. -/
def assignOf (m : List (Nat × Nat)) (p : Nat) : Nat × Nat := (aget 0 p m % 256, aget 0 p m / 256)

/-- Columns of a port. -/
def assignCols (m : List (Nat × Nat)) (p : Nat) : List Nat :=
  (List.range (assignOf m p).2).map (fun i => (assignOf m p).1 + i)

/-- The key that is best by `better`, the first of equals; none of an empty list. -/
def pickBy (better : Nat → Nat → Bool) : List Nat → Option Nat
  | [] => none
  | x :: xs => some (xs.foldl (fun (b y : Nat) => if better y b then y else b) x)

/-- Add one to the number of key `k`. -/
def bump (m : List (Nat × Nat)) (k d : Nat) : List (Nat × Nat) := aupd 0 k (· + d) m

/-- Load of a port: REGION_W × REGION_H (R193). -/
def portLoad (e : Nat → Nat → Nat) (p : Nat) : Nat := portE e p 4 2 * portE e p 6 2

/-- Sort keys by descending weight, ties to the lower key. -/
def byWeight (w : Nat → Nat) : List Nat → List Nat
  | [] => []
  | x :: xs => ins x (byWeight w xs)
where
  /-- Insert a key. -/
  ins (x : Nat) : List Nat → List Nat
    | [] => [x]
    | y :: ys => if w y < w x || (w y = w x && x < y) then x :: y :: ys else y :: ins x ys

/-- The default assignment with at least as many ports as columns (R193). -/
def assignShared (e : Nat → Nat → Nat) (ports cols : List Nat) : List (Nat × Nat) :=
  ((byWeight (portLoad e) ports).foldl
    (fun (x : List (Nat × Nat) × List (Nat × Nat)) (p : Nat) =>
      match pickBy (fun a b => decide (aget 0 a x.2 < aget 0 b x.2)) cols with
      | none => x
      | some c => (aset 0 p (c + 256) x.1, bump x.2 c (portLoad e p))) ([], [])).1

/-- The column counts np with fewer ports than columns (R193). -/
def assignCounts (e : Nat → Nat → Nat) (ports : List Nat) (c : Nat) : List (Nat × Nat) :=
  let total := (ports.map (portLoad e)).sum
  let cp := fun (p : Nat) => ceilDiv (portE e p 4 2) 256
  let n0 := ports.foldl (fun (m : List (Nat × Nat)) (p : Nat) =>
    aset 0 p (max 1 (min (cp p) (c * portLoad e p / total))) m) []
  let sum := fun (m : List (Nat × Nat)) => (ports.map (fun p => aget 0 p m)).sum
  -- ℓp / np compared by cross products
  let less := fun (m : List (Nat × Nat)) (a b : Nat) =>
    portLoad e a * aget 0 b m < portLoad e b * aget 0 a m
  let same := fun (m : List (Nat × Nat)) (a b : Nat) =>
    portLoad e a * aget 0 b m = portLoad e b * aget 0 a m
  let down := (List.range 32).foldl (fun (m : List (Nat × Nat)) _ =>
    if sum m ≤ c then m
    else match pickBy (fun a b => decide (less m a b) || (decide (same m a b) && decide (b < a)))
        (ports.filter (fun p => decide (1 < aget 0 p m))) with
      | some p => aupd 0 p (· - 1) m
      | none => m) n0
  if c < sum n0 then down
  else (List.range 32).foldl (fun (m : List (Nat × Nat)) _ =>
    if c ≤ sum m then m
    else match pickBy (fun a b => decide (less m b a) || (decide (same m a b) && decide (a < b)))
        (ports.filter (fun p => decide (aget 0 p m < cp p))) with
      | some p => bump m p 1
      | none => m) n0

/-- Each port, in ascending order, takes the next np usable columns (R193). -/
def assignRuns (counts : List (Nat × Nat)) (cols : List Nat) : List Nat → List (Nat × Nat)
  | [] => []
  | p :: ps =>
    let n := aget 0 p counts
    let mine := cols.take n
    let rest := assignRuns counts (cols.drop n) ps
    match mine, mine.getLast? with
    | f :: _, some l => aset 0 p (f + 256 * (l + 1 - f)) rest
    | _, _ => rest

/-- The default assignment of the map bank `b` (R193). -/
def State.defaultAssign (s : State) (b : Nat) : List (Nat × Nat) :=
  let e := s.pmapLe b
  let ports := Sys2Proof.Machine.portsOn e
  let cols := s.usableCols
  if cols.isEmpty then []
  else if cols.length ≤ ports.length then assignShared e ports cols
  else assignRuns (assignCounts e ports cols.length) cols ports

/-- A staged assignment is valid (R193). -/
def State.assignValid (s : State) (m : List (Nat × Nat)) : Bool :=
  (List.range 64).all (fun p =>
    let cs := assignCols m p
    if s.portsOn.contains p then
      decide (1 ≤ cs.length) && cs.all (fun c => decide (c < 32)) &&
      (decide (cs.length = 1) || (List.range 64).all (fun q =>
        decide (q = p) || (assignCols m q).all (fun c => !(cs.contains c))))
    else decide ((assignOf m p).2 = 0))

/-- Ports served by a column under the assignment in force. -/
def State.colPorts (s : State) (n : Nat) : List Nat :=
  s.portsOn.filter (fun p => (assignCols s.grt.assign p).contains n)

/-- Engines of each port on a column that several ports share (R194): `es` active engines, widths `w`. -/
def shareEngines (w : Nat → Nat) (es : Nat) (ports : List Nat) : List (Nat × Nat) :=
  if es < ports.length then
    (ports.take es).foldl (fun (m : List (Nat × Nat)) (p : Nat) => aset 0 p 1 m) []
  else
    let total := (ports.map w).sum
    let m0 := ports.foldl (fun (m : List (Nat × Nat)) (p : Nat) => aset 0 p (es * w p / total) m) []
    let left := es - (ports.map (fun p => aget 0 p m0)).sum
    let m1 := ((byWeight (fun p => es * w p % total) ports).take left).foldl
      (fun (m : List (Nat × Nat)) (p : Nat) => bump m p 1) m0
    -- a port left with no engine takes one from the richest, of equals the higher-numbered
    ports.foldl (fun (m : List (Nat × Nat)) (p : Nat) =>
      if aget 0 p m ≠ 0 then m
      else match pickBy (fun a b => decide (aget 0 b m < aget 0 a m) ||
          (decide (aget 0 a m = aget 0 b m) && decide (b < a))) ports with
        | some q => bump (aupd 0 q (· - 1) m) p 1
        | none => m) m1

/-- The gang of a port under an assignment: columns and engines in ascending order (R194). On a shared column,
the ports take its active engines in ascending port order (assumption 14). -/
def State.gangOf (s : State) (e : Nat → Nat → Nat) (a : List (Nat × Nat)) (p : Nat) : List (Nat × Nat) :=
  let cs := assignCols a p
  if cs.length = 1 then
    cs.flatMap (fun c =>
      let es := (s.col c).active
      let ports := (Sys2Proof.Machine.portsOn e).filter (fun q => (assignCols a q).contains c)
      let m := shareEngines (fun q => portE e q 4 2) es.length ports
      let before := ((ports.filter (fun q => decide (q < p))).map (fun q => aget 0 q m)).sum
      ((es.drop before).take (aget 0 p m)).map (fun x => (c, x)))
  else cs.flatMap (fun c => (s.col c).active.map (fun x => (c, x)))

/-- The gang of a port under the assignment in force. -/
def State.gang (s : State) (p : Nat) : List (Nat × Nat) := s.gangOf (s.pmapLe s.mapBank) s.grt.assign p

/-- Worst-case line of a port in bytes, of `segs` segments: raw size plus 0.4 %, plus 31 bytes per segment and
64 per line (R195, R257). -/
def worstLine (e : Nat → Nat → Nat) (p segs : Nat) : Nat :=
  ceilDiv (portE e p 4 2 * e 0x14 1 * e 0x15 1 * 3 * e 0x16 1 * 1004) 8000 + 31 * segs + 64

/-- Worst-case lines of the ports of map bank `b`, with the gangs of its default assignment. -/
def State.worstLines (s : State) (b : Nat) : List (Nat × Nat) :=
  let e := s.pmapLe b
  let a := s.defaultAssign b
  (Sys2Proof.Machine.portsOn e).map (fun p => (p, worstLine e p (min (s.gangOf e a p).length (portE e p 4 2 / 8))))

/-- Ray queue shares in 4 KiB units of ports with worst-case lines `l` (R195): 48 MiB are 12,288 units. -/
def queueShares (l : List (Nat × Nat)) : List (Nat × Nat) :=
  let ports := l.map Prod.fst
  let w := fun (p : Nat) => aget 0 p l
  let total := max 1 (l.map Prod.snd).sum
  let m0 := ports.foldl (fun (m : List (Nat × Nat)) (p : Nat) => aset 0 p (12288 * w p / total) m) []
  let left := 12288 - (ports.map (fun p => aget 0 p m0)).sum
  ((byWeight (fun p => 12288 * w p % total) ports).take left).foldl
    (fun (m : List (Nat × Nat)) (p : Nat) => bump m p 1) m0

/-- Each port's share holds two worst-case lines (R195). -/
def queueSpaceOk (l : List (Nat × Nat)) : Bool :=
  l.all (fun x => decide (2 * x.2 ≤ 4096 * aget 0 x.1 (queueShares l)))

/-- Slope of view (u, v) over 2^60 (R31, R32). -/
def State.slope (s : State) (u v : Nat) : Int × Int :=
  match s.viewTan u v with
  | some (x, y) => (x * 2 ^ 36, y * 2 ^ 36)
  | none =>
    let f := fun (a n i : Nat) =>
      if n = 0 then (0 : Int) else sinQ a * q60 / cosQ a * (2 * (i : Int) + 1 - n) / n
    (f (s.mapF 0x20 2) s.mapU u, f (s.mapF 0x22 2) s.mapV v)

/-- Twice the corners of the bounding rectangle of PLANE layers on one plane, in µm over 2^60 (R149, R206). -/
def State.rectCorners (s : State) (ls : List Nat) : List (Int × Int × Int) :=
  match ls with
  | [] => []
  | k :: _ =>
    let e := s.layDesc k
    let sx := sinQ (signedOf 16 (e 0x28 2))
    let cx := cosQ (signedOf 16 (e 0x28 2))
    let sy := sinQ (signedOf 16 (e 0x2A 2))
    let cy := cosQ (signedOf 16 (e 0x2A 2))
    let edge (c : (Nat → Nat → Nat) → Int) (o : Nat) (sgn : Int) : List Int :=
      ls.map (fun j => 2 * c (s.layDesc j) + sgn * (s.layDesc j o 4 : Int) * q60)
    let s0 := (minMax (edge planeS 0x34 (-1))).1
    let s1 := (minMax (edge planeS 0x34 1)).2
    let t0 := (minMax (edge planeT 0x38 (-1))).1
    let t1 := (minMax (edge planeT 0x38 1)).2
    let d := 2 * planeDist e
    [(s0, t0), (s0, t1), (s1, t0), (s1, t1)].map (fun (c : Int × Int) =>
      ((c.1 * cy + d * sy) / q60,
       (c.1 * (sx * sy / q60) + c.2 * cx - d * (sx * cy / q60)) / q60,
       (-(c.1 * (cx * sy / q60)) + c.2 * sx + d * (cx * cy / q60)) / q60))

/-- The rectangle of PLANE layers on one plane, projected along the slopes of the four corner views, overlaps
the region of port `p` (R206): by bounding boxes (assumption 14). -/
def State.rectMeets (s : State) (ls : List Nat) (p : Nat) : Bool :=
  let us := [0, s.mapU - 1]
  let vs := [0, s.mapV - 1]
  let pts : List (Int × Int) := (s.rectCorners ls).flatMap (fun c => us.flatMap (fun u => vs.map (fun v =>
    let t := s.slope u v
    (c.1 - c.2.2 * t.1 / q60, c.2.1 - c.2.2 * t.2 / q60))))
  let edge2 := fun (n count pitch : Nat) => (2 * (n : Int) - count) * pitch * q60
  let bx := minMax (pts.map (fun q => q.1 * 1000))
  let by_ := minMax (pts.map (fun q => q.2 * 1000))
  let x0 := s.portF p 0 2
  let y0 := s.portF p 2 2
  decide (bx.1 < edge2 (x0 + s.portF p 4 2) s.mapW (s.mapF 0x18 4)) &&
  decide (edge2 x0 s.mapW (s.mapF 0x18 4) < bx.2) &&
  decide (by_.1 < edge2 (y0 + s.portF p 6 2) s.mapH (s.mapF 0x1C 4)) &&
  decide (edge2 y0 s.mapH (s.mapF 0x1C 4) < by_.2)

/-- MAX_LAYERS of the sheet a slot shows; 0 for a slot that shows none. -/
def State.sheetLayers (s : State) (a : Nat) : Nat :=
  if s.sheetShown a then s.dramLe (s.sheetBase a (1 - s.inactiveBank a) + 0x1E) 1 else 0

/-- Depth layers that an ATLAS descriptor uses (R201, R206). -/
def State.depthLayers (s : State) (e : Nat → Nat → Nat) : Nat :=
  let n := s.sheetLayers (bits (e 8 1) 5 0)
  let m := e 0x60 1
  ((List.range n).filter (fun l => decide (m = 0) || bit m l)).length

/-- Cost and samples per ray of a VIEWSET descriptor (R201, R206). -/
def viewsetCost (e : Nat → Nat → Nat) : Nat :=
  let vm := if e 0x60 1 = 0 then 2 else e 0x60 1
  let st := if e 0x61 1 = 0 then 4 else e 0x61 1
  if e 3 1 = 2 then 20 + 8 + 6 * st else 20 + vm * (8 + 6 * st)

/-- The flattened sets that are shown, and their members. -/
def State.flatShown (s : State) : List FlatSet := s.lay.sets.filter (fun (x : FlatSet) => decide (x.st = 2))

/-- Layer `k` is a member of a flattened set that is shown. -/
def State.flatMember (s : State) (k : Nat) : Bool := s.flatShown.any (fun (x : FlatSet) => x.members.contains k)

/-- Cost and samples of layer `k` for port `p` (R206). -/
def State.layerCost (s : State) (p k : Nat) : Nat × Nat :=
  let e := s.layDesc k
  match dType e with
  | 1 => if s.flatMember k || !(s.rectMeets [k] p) then (0, 0) else (12, 1)
  | 2 => (viewsetCost e, 1)
  | 3 => (14 + 12 * s.depthLayers e, s.depthLayers e)
  | _ => (0, 0)

/-- Planning cost cp of port `p` with the layers of mask `shed` left out (R206). -/
def State.portCost (s : State) (shed p : Nat) : Nat :=
  let ls := (List.range 32).filter (fun k => s.layOn k && !(bit shed k))
  let cs := ls.map (s.layerCost p)
  let sets := s.flatShown.filter (fun (x : FlatSet) =>
    x.members.any (fun k => ls.contains k) && s.rectMeets x.members p)
  let samples := (cs.map Prod.snd).sum + sets.length
  6 + (cs.map Prod.fst).sum + 8 * sets.length + (4 + 3 * min 16 samples) + 2 + 28

/-- The cost term of R207 in ns, with the port and cost of the largest cp. -/
def State.costTerm (s : State) (shed : Nat) : Frac × Nat × Nat :=
  let h := s.mapLines
  (s.portsOn).foldl (fun (x : Frac × Nat × Nat) (p : Nat) =>
    let c := s.portCost shed p
    let e := (s.gang p).length
    let top := if x.2.2 < c then (p, c) else x.2
    if e = 0 then (x.1, top)
    else (fracMax x.1 (h * s.portF p 4 2 * s.mapU * s.mapV * c * 100000,
      e * 64 * s.rd Reg.GRT_CLOCK_MHZ * max 1 (s.rd Reg.GRT_PLAN_EFF)), top)) ((0, 1), (0, 0))

/-- The order in which layers are shed: non-gating ones first, each in descending number (R209). -/
def State.shedOrder (s : State) : List Nat :=
  let on := ((List.range 32).filter (fun k => s.layOn k)).reverse
  on.filter (fun k => !(s.layGating k)) ++ on.filter (fun k => s.layGating k)

/-- Layers are shed until the cost term does not exceed PANEL_MAX_PERIOD_US (R209). -/
def State.shedFrom (s : State) : List Nat → Nat → Nat
  | [], m => m
  | k :: ks, m => if fracLe (s.costTerm m).1 (s.mapF 0x2A 2 * 1000, 1) then m else s.shedFrom ks (m + 2 ^ k)

/-- The mask of the layers shed at a gate. -/
def State.shedMask (s : State) : Nat := s.shedFrom s.shedOrder 0

end Sys2Proof.Machine
end

