-- ==== Sys2Proof/Machine/Graticule.lean ====
section
/-! DEFINITION. Engines and columns of the Graticule: test, sparing, retirement, assignment and lead (R193,
R196, R197, R209 to R216). -/

namespace Sys2Proof.Machine

/-- Engine `e` of column `c` is retired. -/
def State.retired (s : State) (c e : Nat) : Bool := s.bit64 (Reg.GCOL_RETIRED_LO c) (Reg.GCOL_RETIRED_HI c) e

/-- GCOL_STATUS, GCOL_GANGS and the count of columns without a spare follow the columns and the assignment. -/
def State.grtRegs (s : State) : State :=
  let t := (List.range 32).foldl (fun (u : State) (c : Nat) =>
    let g := u.col c
    let ports := u.colPorts c
    let least := (ports.map (fun p => (u.gang p).length)).foldl min (if ports.isEmpty then 0 else 63)
    (((u.setFld (Reg.GCOL_STATUS c) 5 0 g.active.length).setBit (Reg.GCOL_STATUS c) 6
      (g.spare.isSome && !g.testing)).setFld (Reg.GCOL_STATUS c) 13 8 (g.spare.getD 0)).wr (Reg.GCOL_GANGS c)
      (ports.length + min least 63 * 256)) s
  (t.setFld Reg.GRT_STATUS 5 0 ((List.range 32).filter (fun c => (s.col c).spare.isNone)).length).setBit
    Reg.GRT_STATUS 6 ((List.range 32).any (fun c => t.bitAt (Reg.GCOL_STATUS c) 7))

/-- The unfinished segments of an engine go to no engine until another of their gang is free (R212). -/
def State.orphan (s : State) (c e : Nat) : State :=
  let seg := fun (x : SegRun) =>
    if x.col = c ∧ x.engine = some e ∧ x.words.isNone then { x with engine := none } else x
  { s with seq := { s.seq with frames := s.seq.frames.map (fun (f : FrameSt) =>
    { f with rows := f.rows.map (fun (r : Nat × LineRun) => (r.1, { r.2 with segs := r.2.segs.map seg })) }) } }

/-- An engine is retired (R212, R213): its column runs degraded if no spare is left to replace it. `cause`: 1
BIST, 2 local store, 3 segment timeout, 4 GCOLnn_RETIRE. -/
def State.retire (s : State) (c e cause : Nat) : State :=
  if 32 < e ∨ 31 < c ∨ s.retired c e then s
  else
    let g := s.col c
    let s1 := (((s.setBit64 (Reg.GCOL_RETIRED_LO c) (Reg.GCOL_RETIRED_HI c) e true).inc
      Reg.GRT_RETIRED_COUNT).raise Page.GRT 3).raise (Page.GCOL c) 0
    let s2 := s1.logRecord 5 ([c, e, cause, s.frameSeq].flatMap (leBytes 4))
    let s3 := s2.orphan c e
    let lost := (g.active.contains e && (g.spare.isNone || g.fill)) || (decide (g.spare = some e) && g.fill)
    let g1 : GratCol :=
      if g.spare = some e then { g with spare := none, testing := false, fill := false, rotDue := none }
      else if g.active.contains e then
        { g with active := g.active.filter (fun x => !(x = e)), fill := g.spare.isSome }
      else g
    let s4 := s3.setCol c g1
    let s5 := if lost && g.ready then (s4.setBit (Reg.GCOL_STATUS c) 7 true).raise Page.GRT 4 else s4
    s5.grtRegs

/-- The column's engines are chosen among those not retired: 32 active, the next one the spare (R210). -/
def State.chooseEngines (s : State) (c : Nat) : State :=
  let ok := (List.range 33).filter (fun e => !(s.retired c e))
  s.setCol c { s.col c with
    ready := true, active := ok.take 32, spare := (ok.drop 32).head?, testing := false, rotDue := none
    fill := false, bistFrom := s.clk }

/-- Bring-up BIST ends with the engines `fails` (column, engine) failing; each column chooses its active, spare and
retired engines (R210). -/
def State.bistDone (s : State) (fails : List (Nat × Nat)) : State :=
  let s1 := fails.foldl (fun (t : State) (x : Nat × Nat) => t.retire x.1 x.2 1) s
  let s2 := (List.range 32).foldl (fun (t : State) (c : Nat) => t.chooseEngines c) s1
  { s2.grtRegs with moor := { s2.moor with grtDone := true } }

/-- Engines that the Logbook holds as retired stay so (R212, R378): `l` are the SPARE_ENGINE records' columns
and engines. -/
def State.restoreRetired (s : State) (l : List (Nat × Nat)) : State :=
  let s1 := l.foldl (fun (t : State) (x : Nat × Nat) =>
    if 31 < x.1 ∨ 32 < x.2 ∨ t.retired x.1 x.2 then t
    else (t.setBit64 (Reg.GCOL_RETIRED_LO x.1) (Reg.GCOL_RETIRED_HI x.1) x.2 true).inc Reg.GRT_RETIRED_COUNT) s
  ((List.range 32).foldl (fun (t : State) (c : Nat) =>
    if (t.col c).ready then t.chooseEngines c else t) s1).grtRegs

/-- BIST_PERIOD: the online BIST period of a column expires, and a rotation is due (R211). -/
def execBistPeriod (col : Nat) (s : State) : Out :=
  let g := s.col col
  if s.rd Reg.GRT_BIST_PERIOD = 0 ∨ g.spare.isNone ∨ s.clk < g.bistFrom + 60000000000 * s.rd Reg.GRT_BIST_PERIOD then
    done s s
  else done s (s.setCol col { g with rotDue := some s.clk, bistFrom := s.clk })

/-- GCOLnn_BIST_NOW.GO: a rotation at the next gate (R211). -/
def State.writeBistNow (s : State) (c v : Nat) : State :=
  if bit v 0 then s.setCol c { s.col c with rotDue := some s.clk } else s

/-- GCOLnn_RETIRE.GO retires an engine at once (R212). -/
def State.writeGcolRetire (s : State) (c v : Nat) : State :=
  if bit v 31 then s.retire c (bits v 5 0) 4 else s

/-- ENGINE_BIST_DONE: the engine under test passes and stays the spare, or is retired (R211). -/
def execEngineBistDone (col : Nat) (pass : Bool) (s : State) : Out :=
  let g := s.col col
  match g.spare with
  | some e =>
    if !g.testing then done s s
    else
      let a := Reg.GCOL_BIST_STATUS col
      let s1 := ((s.setCol col { g with testing := false }).setBit a 8 pass).setFld a 31 16 (s.fld a 31 16 + 1)
      done s (if pass then s1.grtRegs else s1.retire col e 1)
  | none => done s s

/-- LOCAL_STORE_UE: an engine whose local store reports an uncorrectable error is retired (R212). -/
def execLocalStoreUe (col engine : Nat) (s : State) : Out := done s (s.retire col engine 2)

/-- SEGMENT_TIMEOUT: an engine that did not finish a segment within 4 × tL of starting it is retired (R212). -/
def execSegmentTimeout (col engine : Nat) (s : State) : Out :=
  let late := s.seq.frames.any (fun (f : FrameSt) => f.rows.any (fun (r : Nat × LineRun) =>
    r.2.segs.any (fun x => decide (x.col = col) && decide (x.engine = some engine) && x.words.isNone &&
      decide (x.start + 4 * f.tL < s.clk))))
  done s (if late then s.retire col engine 3 else s)

/-- Insert an engine into an ascending list. -/
def insertEngine (e : Nat) : List Nat → List Nat
  | [] => [e]
  | x :: xs => if e < x then e :: x :: xs else x :: insertEngine e xs

/-- At a gate a working spare takes a retired engine's place (R212). -/
def GratCol.filled (g : GratCol) : GratCol :=
  match g.spare with
  | some e => if g.fill && !g.testing then
      { g with active := insertEngine e g.active, spare := none, fill := false } else g
  | none => { g with fill := false }

/-- The next active engine in ascending rotation order from pointer `p`. -/
def rotNext (p : Nat) (active : List Nat) : Option Nat :=
  match active.find? (fun e => decide (p ≤ e)) with
  | some e => some e
  | none => active.head?

/-- BIST_ROTATION: at a gate the spare takes the place of the next active engine, which runs BIST (R211). -/
def State.rotate (s : State) (c : Nat) : State :=
  let g := s.col c
  match g.rotDue, g.spare, rotNext (s.fld (Reg.GCOL_BIST_STATUS c) 5 0) g.active with
  | some t, some sp, some e =>
    if g.testing || g.fill || !(s.visible t) then s
    else (s.setCol c { g with
        active := insertEngine sp (g.active.filter (fun x => !(x = e)))
        spare := some e, testing := true, rotDue := none }).setFld (Reg.GCOL_BIST_STATUS c) 5 0 ((e + 1) % 33)
  | _, _, _ => s

/-- The Graticule's part of a gate: spares fill, a rebalance that is visible takes effect, rotations start. -/
def State.grtGate (s : State) : State :=
  let s1 := (List.range 32).foldl (fun (t : State) (c : Nat) =>
    (t.setCol c (t.col c).filled).rotate c) s
  (match s1.grt.rebal with
   | some (m, t) => if s1.visible t then { s1 with grt := { s1.grt with assign := m, rebal := none } } else s1
   | none => s1).grtRegs

/-- A map comes into use: the default assignment and the ray queue partition are applied, and a waiting
rebalance is discarded (R193, R195). -/
def State.grtAdopt (s : State) (b : Nat) : State :=
  { s with grt := { s.grt with
    assign := s.defaultAssign b, rebal := none, share := queueShares (s.worstLines b) } }.grtRegs

/-- The staged manual assignment. -/
def State.stagedAssign (s : State) : List (Nat × Nat) :=
  (List.range 64).foldl (fun (m : List (Nat × Nat)) (p : Nat) =>
    aset 0 p (s.fld (Reg.GRT_PORT_MAP p) 4 0 + 256 * s.fld (Reg.GRT_PORT_MAP p) 13 8) m) []

/-- GRT_REBALANCE.GO (R193): an assignment waits for the next gate, or the request is refused. -/
def State.writeRebalance (s : State) (v : Nat) : State :=
  if !(bit v 0) then s
  else
    let m := if bit v 1 then s.stagedAssign else s.defaultAssign s.mapBank
    if !s.seq.hasMap || (bit v 1 && !(s.assignValid m)) then
      (s.setBit Reg.GRT_STATUS 9 true).raise Page.GRT 7
    else { s with grt := { s.grt with rebal := some (m, s.clk) } }.setBit Reg.GRT_STATUS 9 false

/-- The columns' prefetch leads and the smallest PLANE lead during slot `n` of a frame of `lines` lines (R196, R197,
R303): the smallest lead is recorded, a lead below the warning level raises LEAD_LOW unless the frame is ending,
and the stated tolerances follow. -/
def State.noteLeads (s : State) (leads : List (Nat × Nat)) (planeLead n lines tL : Nat) : State :=
  let act := leads.filter (fun x => decide (x.1 < 32) && !((s.col x.1).active.isEmpty))
  let s1 := act.foldl (fun (t : State) (x : Nat × Nat) => t.setFld (Reg.GCOL_STATUS x.1) 20 16 x.2) s
  let full := act.filter (fun x => decide (n + x.2 + 1 < lines))
  let s2 := full.foldl (fun (t : State) (x : Nat × Nat) =>
    if x.2 < t.fld Reg.GRT_LEAD_MIN 4 0 then t.wr Reg.GRT_LEAD_MIN (x.2 % 32 + x.1 * 256) else t) s1
  let low := full.any (fun x => decide (x.2 < s.fld Reg.GRT_LEAD_CFG 12 8))
  let s3 := if low && !(s.bitAt Reg.GRT_STATUS 8) then s2.raise Page.GRT 2 else s2
  let least := (act.map Prod.snd).foldl min 31
  (s3.setBit Reg.GRT_STATUS 8 low).setTolerance (if act.isEmpty then 0 else (least - 8) * tL) ((planeLead - 8) * tL)

end Sys2Proof.Machine
end

