-- ==== Sys2Proof/Machine/AtlasRay.lean ====
section
/-! DEFINITION. Rays (R30 to R32, R163), and the atlas-decode kernel: the surface patches of a sheet that a ray meets (R115,
R119, R123, R124, R148, R201). -/

namespace Sys2Proof.Machine

/-- A ray: the hogel whose block it lies in, the place in µm over 2^60 where it leaves the lens plane, and its slope
over 2^60 (R30, R31). -/
structure Ray where
  hx : Nat
  hy : Nat
  x : Int
  y : Int
  tx : Int
  ty : Int
  deriving DecidableEq, Repr

/-- Slope along one axis of the view at i / k of an axis of `n` views with half angle `a` in 0.01 degree, over 2^60 (R31). -/
def axisSlope (a n i k : Nat) : Int :=
  if n = 0 ∨ k = 0 then 0 else sinQ a * q60 / cosQ a * (2 * (i : Int) + k - n * k) / (n * k)

/-- Slope of entry (u, v) of the view table (R32). -/
def tableSlope (e : Nat → Nat → Nat) (u v : Nat) : Int × Int :=
  let o := secOff e 1 + 8 * (v * e 0x14 1 + u)
  (signedOf 32 (e o 4) * 2 ^ 36, signedOf 32 (e (o + 4) 4) * 2 ^ 36)

/-- Slope of view (u, v) over 2^60 in the map with fields `e` (R31, R32). -/
def slopeOf (e : Nat → Nat → Nat) (u v : Nat) : Int × Int :=
  if bit (e 0x29 1) 0 then tableSlope e u v
  else (axisSlope (e 0x20 2) (e 0x14 1) u 1, axisSlope (e 0x22 2) (e 0x15 1) v 1)

/-- Slope of the fractional view (u / 256, v / 256): with a view table, bilinear in its entries (R163). -/
def slopeAt (e : Nat → Nat → Nat) (u v : Nat) : Int × Int :=
  if bit (e 0x29 1) 0 then
    let t := fun (i j : Nat) => tableSlope e (min (u / 256 + i) (e 0x14 1 - 1)) (min (v / 256 + j) (e 0x15 1 - 1))
    let a : Int := ((u % 256 : Nat) : Int)
    let b : Int := ((v % 256 : Nat) : Int)
    let mix := fun (p : Int × Int → Int) =>
      ((256 - a) * (256 - b) * p (t 0 0) + a * (256 - b) * p (t 1 0) + (256 - a) * b * p (t 0 1) + a * b * p (t 1 1)) / 65536
    (mix Prod.fst, mix Prod.snd)
  else (axisSlope (e 0x20 2) (e 0x14 1) u 256, axisSlope (e 0x22 2) (e 0x15 1) v 256)

/-- The ray of view (u, v) of hogel (hx, hy) in the map with fields `e`. -/
def hogelRay (e : Nat → Nat → Nat) (hx hy u v : Nat) : Ray :=
  let t := slopeOf e u v
  { hx := hx, hy := hy, tx := t.1, ty := t.2
    x := lens2Nm (e 0x10 2) (e 0x18 4) hx * q60 / 2000
    y := lens2Nm (e 0x12 2) (e 0x1C 4) hy * q60 / 2000 }

/-- A little-endian field of a descriptor's bytes. -/
def descF (bs : List Byte) (o n : Nat) : Nat := leNat ((bs.drop o).take n)

/-- Descriptor bytes of a layer in the frame. -/
def FrameSt.desc (f : FrameSt) (k : Nat) : Option (List Byte) := (f.layers.find? (fun x => x.1 = k)).map Prod.snd

/-- Slot of an Atlas layer of the frame; none for another layer. -/
def FrameSt.atlasSlot (f : FrameSt) (k : Nat) : Option Nat :=
  match f.desc k with
  | some bs => if dType (descF bs) = 3 then some (bits (descF bs 8 1) 5 0) else none
  | none => none

/-- The bank of an Atlas layer's slot that the frame shows. -/
def FrameSt.sheetBank (f : FrameSt) (slot : Nat) : Option Nat := (f.sheets.find? (fun x => decide (x.1 = slot))).map Prod.snd

/-- A surface patch: depth layer, texel, depth code, alpha code, colour codes (R123, R124). -/
structure Patch where
  sub : Nat
  s : Nat
  t : Nat
  z : Nat
  a : Nat
  rgb : List Nat
  deriving DecidableEq, Repr

/-- The sheet that an Atlas layer shows in a frame, as its rays read it: the pose times 2^149, row by row, and the
patches of its tiles. -/
structure SheetView where
  layer : Nat
  pose : List Int
  scale : Nat
  bias : Int
  bits : Nat
  flags : Nat
  patches : List Patch
  deriving DecidableEq, Repr

/-- The present texels of depth layer `l` of a decoded tile (tx, ty) (R119, R123). -/
def tilePatches (alpha : Bool) (tx ty l : Nat) (c : List (List (List Nat))) : List Patch :=
  let o := if alpha then 2 else 1
  (List.range 1024).filterMap (fun i =>
    let at_ := fun (n : Nat) => texelAt (c.getD n []) (i % 32) (i / 32)
    if at_ 0 = 0xFFFF then none
    else some { sub := l, s := 32 * tx + i % 32, t := 32 * ty + i / 32, z := at_ 0
                a := if alpha then at_ 1 else 255, rgb := [at_ o, at_ (o + 1), at_ (o + 2)] })

/-- The content of tile (tx, ty) of the sheet at DRAM address `a`; none of an empty tile and of one that breaks
R118 to R123. -/
def State.tileOf (s : State) (a tx ty : Nat) : Option (List (List (List (List Nat)))) :=
  let e := fun (o n : Nat) => s.dramLe (a + o) n
  let i := 0x80 + 16 * (ty * e 0x18 2 + tx)
  if e 0x18 2 ≤ tx ∨ e 0x1A 2 ≤ ty ∨ e (i + 4) 2 = 0 then none
  else
    let pay := s.dramBytes (a + e i 4) (e (i + 4) 2)
    if crc32c pay ≠ e (i + 0xC) 4 then none
    else decodeTile (e 0x1C 1) (bit (e 0x1D 1) 0) (e (i + 6) 1) (e (i + 8) 2) (e (i + 0xA) 2) pay

/-- The sheet of Atlas layer `k` of the frame without the tiles `cut`; none for another layer and for a slot that shows
no surface (R124, R129, R130, R148, R201). -/
def State.sheetView (s : State) (f : FrameSt) (cut : List (Nat × Nat × Nat)) (k : Nat) (bs : List Byte) :
    Option SheetView :=
  match f.atlasSlot k with
  | none => none
  | some slot => match f.sheetBank slot with
    | none => none
    | some b =>
      let d := descF bs
      let a := s.sheetBase slot b
      let e := fun (o n : Nat) => s.dramLe (a + o) n
      let tiles := (List.range (e 0x1A 2)).flatMap (fun ty => (List.range (e 0x18 2)).map (fun tx => (tx, ty)))
      let used := fun (l : Nat) => decide (bits (d 0x60 1) 3 0 = 0) || bit (d 0x60 1) l
      some { layer := k, scale := e 0x20 4, bias := signedOf 32 (e 0x24 4), bits := e 0x1C 1, flags := e 0x1D 1
             pose := (List.range 12).map (fun i =>
               f32Scaled (if dFlag d 4 then d (0x20 + 4 * i) 4 else e (0x28 + 4 * i) 4))
             patches := tiles.flatMap (fun x =>
               if cut.contains (k, x.1, x.2) then []
               else match s.tileOf a x.1 x.2 with
                 | none => []
                 | some t => t.zipIdx.flatMap (fun c =>
                     if used c.2 then tilePatches (bit (e 0x1D 1) 0) x.1 x.2 c.2 c.1 else [])) }

/-- n / d rounded down, for a divisor of either sign. -/
def floorDiv (n d : Int) : Int := if d < 0 then (-n) / (-d) else n / d

/-- Row `r` of the adjugate of a pose's upper-left part, applied to a vector. -/
def poseRow (m : List Int) (r : Nat) (v : List Int) : Int :=
  let a := fun (i j : Nat) => m.getD (4 * (i % 3) + j % 3) 0
  let cof := fun (c : Nat) => a (c + 1) (r + 1) * a (c + 2) (r + 2) - a (c + 1) (r + 2) * a (c + 2) (r + 1)
  cof 0 * v.getD 0 0 + cof 1 * v.getD 1 0 + cof 2 * v.getD 2 0

/-- Where a ray meets the sheet plane of a patch: the panel depth, a fraction in mm, when the ray lies in the patch's
square (R115, R124). Within 1/256 texel of an edge, either neighbour may be taken. -/
def SheetView.meets (w : SheetView) (r : Ray) (p : Patch) : Option (Int × Int) :=
  let m := fun (i : Nat) => w.pose.getD i 0
  let big : Int := 1000 * q60
  let org := [2 ^ 149 * r.x - big * m 3, 2 ^ 149 * r.y - big * m 7, -(big * m 11)]
  let dir := [2 ^ 149 * r.tx, 2 ^ 149 * r.ty, 2 ^ 149 * q60]
  let det := det3 (m 0) (m 1) (m 2) (m 4) (m 5) (m 6) (m 8) (m 9) (m 10)
  let g := poseRow w.pose 2 dir
  if g = 0 ∨ det = 0 then none
  else
    let n := (sheetDepth w.scale w.bias p.z * det * big - poseRow w.pose 2 org * 1000000) * q60
    let d := g * 1000000 * big
    let inside := fun (k axis : Nat) (lo : Nat) =>
      let num := poseRow w.pose k org * d * q60 + n * poseRow w.pose k dir * big
      let den := big * d * q60 * det
      let sh := max (-4096) (min 4096 (Config.edgeShift
        [(w.layer : Int), r.x, r.y, r.tx, r.ty, (p.sub : Int), (p.z : Int), (axis : Int)]))
      decide (floorDiv (num * 2 ^ 20 + sh * den) (den * 2 ^ 20) = (lo : Int))
    if inside 0 0 p.s && inside 1 1 p.t then some (if d < 0 then (-n, -d) else (n, d)) else none

/-- The nearest patch of each depth layer of a sheet that a ray meets, with its panel depth in 2^-32 mm (R124). -/
def SheetView.hits (w : SheetView) (r : Ray) : List (Patch × Int) :=
  (List.range 4).filterMap (fun l =>
    ((w.patches.filter (fun p => decide (p.sub = l))).foldl (fun (b : Option (Patch × Int × Int)) (p : Patch) =>
      match w.meets r p with
      | none => b
      | some (n, d) => match b with
        | none => some (p, n, d)
        | some (_, n0, d0) => if n0 * d < n * d0 then some (p, n, d) else b) none).map
      (fun x => (x.1, x.2.1 * 2 ^ 32 / x.2.2)))

end Sys2Proof.Machine
end

