-- ==== Sys2Proof/Machine/Cartouche.lean ====
section
/-! DEFINITION. The Cartouche: pane store, commit, faults, the stale pattern, the store check and the pane
probe (R170 to R177, R184 to R191). -/

namespace Sys2Proof.Machine

/-- ACTIVE_BANK. -/
def State.paneBank (s : State) : Nat := s.fld Reg.CART_STATUS 0 0

/-- ARMED (R176). -/
def State.armed (s : State) : Bool := s.bitAt Reg.CART_STATUS 1

/-- A field of pane `p` in bank `b` (R173). -/
def State.paneF (s : State) (b p o n : Nat) : Nat := leNat (s.paneBytes b (32 * p + o) n)

/-- Pane `p` of bank `b` is enabled. -/
def State.paneOn (s : State) (b p : Nat) : Bool := bit (s.paneF b p 0 1) 0

/-- The enabled panes of a bank. -/
def State.panesOn (s : State) (b : Nat) : List Nat := (List.range 8).filter (fun p => s.paneOn b p)

/-- An entry breaks R173 in a field other than placement. -/
def State.paneBad (s : State) (b p : Nat) : Bool :=
  if !(s.paneOn b p) then (s.paneBytes b (32 * p) 32).any (fun x => decide (x ≠ 0))
  else
    let f := s.paneF b p
    let w := f 8 2
    let h := f 0xA 2
    decide (4 ≤ f 0 1) || decide (f 1 1 < 1) || decide (4 < f 1 1) || decide (f 2 2 ≠ 0) ||
    decide (w < 1) || decide (1024 < w) || decide (h < 1) || decide (256 < h) ||
    decide (f 0xC 4 % 256 ≠ 0) || decide (f 0xC 4 < 0x1000) || decide (f 0x10 4 % 4 ≠ 0) ||
    decide (f 0x10 4 < 4 * w) || decide (0x200000 < f 0xC 4 + (h - 1) * f 0x10 4 + 4 * w) ||
    (s.paneBytes b (32 * p + 0x14) 12).any (fun x => decide (x ≠ 0))

/-- An enabled pane extends beyond the panel (R173). -/
def State.paneOutside (s : State) (b p : Nat) : Bool :=
  let f := s.paneF b p
  decide (s.mapW < f 4 2 + f 1 1 * f 8 2) || decide (s.mapH < f 6 2 + f 1 1 * f 0xA 2)

/-- The bytes over which STORE_CRC runs (R176). -/
def State.storeBytes (s : State) (b : Nat) : List Byte :=
  s.paneBytes b 0 256 ++ (s.panesOn b).flatMap (fun p =>
    (List.range (s.paneF b p 0xA 2)).flatMap (fun j =>
      s.paneBytes b (s.paneF b p 0xC 4 + j * s.paneF b p 0x10 4) (4 * s.paneF b p 8 2)))

/-- STORE_CRC of a bank. -/
def State.storeCrc (s : State) (b : Nat) : Nat := crc32c (s.storeBytes b)

/-- Result of the validation of a pane bank (R177). -/
def State.paneCode (s : State) (c : PaneCommit) : Nat :=
  let b := c.bank
  if s.cart.modified then 9
  else if c.early ≠ 0 then c.early
  else if (List.range 8).any (s.paneBad b) || (s.paneBytes b 0x100 0xF00).any (fun x => decide (x ≠ 0)) then 4
  else if !s.seq.hasMap then 5
  else if c.geomCrc ≠ s.rd Reg.SEQ_PMAP_GEOM_CRC then 6
  else if (s.panesOn b).any (s.paneOutside b) then 7
  else if c.storeCrc ≠ s.storeCrc b then 8
  else 0

/-- A commit fails: COMMIT_ERR is written and raised (R177, R191). -/
def State.paneFail (s : State) (code : Nat) : State :=
  (s.setFld Reg.CART_STATUS 15 8 code).raise Page.CART 2

/-- PANE_COMMIT starts validation of a bank, or is reported BUSY (R176, R177). -/
def State.paneCommit (s : State) (bank storeCrc geomCrc : Nat) : State :=
  if s.bitAt Reg.CART_STATUS 3 then s.paneFail 1
  else
    ({ s with cart := { s.cart with
      validating := some { bank := bank, storeCrc := storeCrc, geomCrc := geomCrc, at_ := 0,
                           early := if s.cart.pend.isSome then 2
                             else if s.paneBank = bank then 3 else 0 }
      modified := false } }).setBit Reg.CART_STATUS 3 true

/-- PANE_VALIDATE_DONE: the bank becomes PENDING, or COMMIT_ERR is raised (R176, R177). -/
def execPaneValidateDone (s : State) : Out :=
  match s.cart.validating with
  | none => done s s
  | some c =>
    let code := s.paneCode c
    let t := ({ s with cart := { s.cart with validating := none, modified := false } }).setBit Reg.CART_STATUS 3 false
    if code ≠ 0 then done s (t.paneFail code)
    else done s ((({ t with cart := { t.cart with pend := some { c with at_ := t.clk } } }).setFld
      Reg.CART_STATUS 15 8 0).setBit Reg.CART_STATUS 2 true)

/-- A pane store write to bank `b` is refused: the active, the pending or a draining bank (R182). -/
def State.paneLocked (s : State) (b : Nat) : Bool :=
  decide (s.paneBank = b) ||
  (match s.cart.pend with | some c => decide (c.bank = b) | none => false) ||
  (s.cart.drainEnd.isSome && decide (s.paneBank ≠ b))

/-- Bytes are written to the pane store (R172, R183). -/
def State.panePut (s : State) (a : Nat) (bs : List Byte) : State :=
  let hit := match s.cart.validating with | some c => decide (c.bank = a / 0x200000) | none => false
  { s with
    mem := { s.mem with
      pane := asetMany 0 a bs s.mem.pane
      paneBad := s.mem.paneBad.filter (fun w => decide (8 * w + 8 ≤ a) || decide (a + bs.length ≤ 8 * w)) }
    cart := { s.cart with modified := s.cart.modified || hit } }

/-- Causes of CART_FAULT that persist (R188): an expired timer, a failed store check, a map that is not the
one of the panes, no output. -/
def State.cartCauses (s : State) : Nat :=
  (if s.cart.hbLate then 1 else 0) + (if s.cart.storeBad then 2 else 0) +
  (if s.armed && decide (s.rd Reg.SEQ_PMAP_GEOM_CRC ≠ s.cart.geom) then 8 else 0) +
  (if s.armed && !s.cart.output then 32 else 0)

/-- CART_FAULT_LATCH: bits that are not set yet latch; FAULT is raised and each new bit writes a FAULT record
(R188, R189, R191). -/
def State.cartLatch (s : State) (m : Nat) : State :=
  let old := s.fld Reg.CART_FAULT 5 0
  let new := (List.range 6).filter (fun i => bit m i && !(bit old i))
  if new.isEmpty then s
  else
    let s1 := if old = 0 then s.wr Reg.CART_FAULT_FRAME s.frameSeq else s
    let s2 := new.foldl (fun (t : State) (i : Nat) => t.setBit Reg.CART_FAULT i true) s1
    let s3 := (if old = 0 then { s2 with cart := { s2.cart with faultAt := s2.clk } } else s2).raise Page.CART 0
    new.foldl (fun (t : State) (i : Nat) => t.faultKind Page.CART (16 + i) (2 ^ i) t.frameSeq) s3

/-- Latch the causes that persist. -/
def State.cartCheck (s : State) : State := s.cartLatch s.cartCauses

/-- A W1C write of CART_FAULT; a bit sets again at once if its cause persists (R188). -/
def State.writeCartFault (s : State) (m : Nat) : State :=
  (s.wr Reg.CART_FAULT (s.rd Reg.CART_FAULT &&& (0xFFFFFFFF ^^^ m))).cartCheck

/-- Panel output starts or stops (R188). -/
def State.setOutput (s : State) (b : Bool) : State :=
  ({ s with cart := { s.cart with output := b } }).cartCheck

/-- Level of SFT_FAULT_N: low unless ARMED with no enabled fault (R189). -/
def State.sftFaultN (s : State) : Bool :=
  s.armed && decide (s.rd Reg.CART_FAULT &&& s.rd Reg.CART_FAULT_PIN_EN = 0)

/-- Level of IRQ_S_N: low while a page of S has a pending interrupt (R189). -/
def State.irqSN (s : State) : Bool := (s.pendingPagesOf .s).isEmpty

/-- The deadline in ns: CART_DEADLINE ms. -/
def State.hbDeadline (s : State) : Option Nat :=
  s.cart.timer.map (fun t => t + 1000000 * s.rd Reg.CART_DEADLINE)

/-- The timer starts, or restarts (R184). -/
def State.hbRestart (s : State) : State := { s with cart := { s.cart with timer := some s.clk, hbLate := false } }

/-- The deadline passes: HB_STALE latches and the miss is counted (R184). -/
def State.hbMiss (s : State) : State :=
  (({ s with cart := { s.cart with hbLate := true } }).inc Reg.CART_HB_MISS_COUNT).cartLatch 1

/-- HB_STALE: the Cartouche deadline passes without an accepted heartbeat (R184, R285). -/
def execHbStale (s : State) : Out :=
  match s.hbDeadline with
  | none => done s s
  | some t => if s.clk ≤ t || s.cart.hbLate then done s s else done s s.hbMiss

/-- A write of CART_DEADLINE takes effect at once, measured from the last restart (R184). -/
def State.writeCartDeadline (s : State) (v : Nat) : State :=
  let t := s.wr Reg.CART_DEADLINE v
  match t.hbDeadline with
  | none => t
  | some d => if t.clk ≤ d || t.cart.hbLate then t else t.hbMiss

/-- CART_HB_RESYNC.GO: the next heartbeat is accepted with any sequence (R184). -/
def State.writeHbResync (s : State) (v : Nat) : State :=
  if bit v 0 then { s with cart := { s.cart with hbAny := true } } else s

/-- A write of CART_CTRL: EN takes effect at the first visible gate (R175). -/
def State.writeCartCtrl (s : State) (v : Nat) : State :=
  { s.wr Reg.CART_CTRL v with cart := { s.cart with enAt := s.clk } }

/-- Whether a heartbeat with this sequence is accepted (R184). -/
def State.hbAccepts (s : State) (seq : Nat) : Bool :=
  s.cart.hbAny || decide (seq = s.fld Reg.CART_HB_SEQ 15 0)

/-- An accepted heartbeat: the next sequence is expected and the timer restarts (R184). -/
def State.hbAccept (s : State) (seq : Nat) : State :=
  ({ s with cart := { s.cart with hbAny := false } }.wr Reg.CART_HB_SEQ ((seq + 1) % 65536)).hbRestart

/-- The Cartouche at a gate with new FRAME_SEQ `fs`: a visible pending bank becomes active, EN and the stale
pattern take effect (R175, R176, R185). `finished` says that every earlier frame is synthesised. -/
def State.cartGate (s : State) (fs : Nat) (finished : Bool) : State :=
  let s1 := match s.cart.pend with
    | none => s
    | some c =>
      if !(s.visible c.at_) then s
      else
        let first := !s.armed
        let t := { s with cart := { s.cart with
          pend := none, geom := c.geomCrc
          drainEnd := if first || finished then none else some ((fs + 2 ^ 32 - 1) % 2 ^ 32) } }
        let u := ((((t.setFld Reg.CART_STATUS 0 0 c.bank).setBit Reg.CART_STATUS 1 true).setBit
          Reg.CART_STATUS 2 false).wr Reg.CART_STORE_CRC c.storeCrc).wr Reg.CART_COMMIT_SEQ fs
        let w := (u.wr (Reg.COMMIT_SEQ Page.CART) fs).raise Page.CART 1
        if first && w.cart.timer.isNone then w.hbRestart else w
  let s2 := if s1.visible s1.cart.enAt then
      { s1 with cart := { s1.cart with enForce := s1.bitAt Reg.CART_CTRL 0 } } else s1
  let fault := decide (s2.fld Reg.CART_FAULT 5 0 ≠ 0)
  let stale := if fault then s2.bitAt Reg.CART_STATUS 4 || s2.visible s2.cart.faultAt else false
  let s3 := (s2.setBit Reg.CART_STATUS 4 stale).cartCheck
  let on := s3.armed && s3.cart.enForce && !((s3.panesOn s3.paneBank).isEmpty)
  let view := if s3.bitAt Reg.CART_PROBE_CFG 1 then s3.fld Reg.CART_PROBE_CFG 23 16
    else fs % max 1 (s3.mapU * s3.mapV)
  let probe : List ProbeRun := if on && s3.bitAt Reg.CART_PROBE_CFG 0 then
      [{ fs := fs, view := view, stale := stale, bank := s3.paneBank, broken := false }] else []
  { s3 with cart := { s3.cart with
    probes := s3.cart.probes ++ probe
    check := if s3.armed then some (fs, s3.paneBank) else none } }

/-- The last line of frame `fs` is synthesised: a bank that only it read is inactive (R176). -/
def State.cartDrained (s : State) (fs : Nat) : State :=
  if s.cart.drainEnd = some fs then { s with cart := { s.cart with drainEnd := none } } else s

/-- Words of the store are found uncorrectable, and corrected errors are counted (R172). -/
def State.paneEcc (s : State) (corrected : Nat) (bad : List Nat) : State :=
  let t := s.addCnt Reg.CART_STORE_ECC_COUNT corrected
  if bad.isEmpty then t
  else ({ t with mem := { t.mem with paneBad := bad ++ t.mem.paneBad.filter (fun w => !(bad.contains w)) } }).cartLatch 16

/-- STORE_CHECK: the frame's CRC over the active bank is written, and a difference latches STORE_CRC (R186).
`wrong` are the bytes that the check's own read path returned wrong; `corrected` and `bad` are the store's
ECC events of the pass (R172). -/
def execStoreCheck (wrong : List (Nat × Byte)) (corrected : Nat) (bad : List Nat) (s : State) : Out :=
  match s.cart.check with
  | none => done s s
  | some (_, b) =>
    let seen := { s with mem := { s.mem with
      pane := wrong.foldl (fun (m : List Host.Cell) (x : Nat × Byte) => aset 0 x.1 x.2 m) s.mem.pane } }
    let v := seen.storeCrc b
    let badNow := decide (v ≠ s.rd Reg.CART_STORE_CRC)
    let t := ({ s with cart := { s.cart with check := none, storeBad := badNow } }).wr Reg.CART_STORE_LAST v
    done s ((t.paneEcc corrected bad).cartLatch (if badNow then 2 else 0))

/-- Bit-building root: the largest r below 2^k with r^5 ≤ v. -/
def root5 (v : Nat) : Nat → Nat → Nat
  | 0, r => r
  | k + 1, r => if (r + 2 ^ k) ^ 5 ≤ v then root5 v k (r + 2 ^ k) else root5 v k r

/-- The BT.1886 EOTF (code / 255)^2.4 in units of 2^-60 (R174): the fifth root of the twelfth power. -/
def eotf (code : Nat) : Nat := root5 (code ^ 12 * 2 ^ 300 / 255 ^ 12) 61 0

/-- The BT.2087 matrix from BT.709 to BT.2020 primaries, in units of 10^-4 (assumption 12). -/
def bt2087 (i : Nat) : List Nat :=
  if i = 0 then [6274, 3293, 433] else if i = 1 then [691, 9195, 114] else [164, 880, 8956]

/-- The nearest binary16 number to n / d, in units of 2^-24. -/
def toHalf (n d : Nat) : Nat :=
  let q := n * 2 ^ 24 / d
  let e := if q < 2048 then 0 else q.log2 - 10
  roundNear (n * 2 ^ 24) (d * 2 ^ e) * 2 ^ e

/-- The binary16 bit pattern of a number in units of 2^-24. -/
def halfBits (v : Nat) : Nat :=
  if v < 1024 then v
  else
    let e := v.log2 - 10
    (e + 1) * 1024 + (v / 2 ^ e) % 1024

/-- A pane pixel's colour in the working space: component `i` of an RGB triple under WHITE_GAIN (R174). -/
def paneColour (gain : Nat) (rgb : List Nat) (i : Nat) : Nat :=
  toHalf (((bt2087 i).zipWith (fun m c => m * eotf c) rgb).sum * gain) (10000 * 2 ^ 60 * 4096)

/-- Pixel (i, j) of pane `p` of bank `b`: R, G, B, A (R174). -/
def State.panePixel (s : State) (b p i j : Nat) : List Nat :=
  (s.paneBytes b (s.paneF b p 0xC 4 + j * s.paneF b p 0x10 4 + 4 * i) 4).map BitVec.toNat

/-- The pixel in the stale pattern, with whether it is opaque border (R185). -/
def stalePixel (w h i j : Nat) (px : List Nat) : List Nat × Bool :=
  if i < 8 || j < 8 || w < i + 9 || h < j + 9 then
    (if (i + j) / 4 % 2 = 0 then [255, 200, 0, 255] else [0, 0, 0, 255], true)
  else ((px.take 3).map (fun c => 255 - c) ++ px.drop 3, false)

/-- Pane `p` of bank `b` as the ray of hogel (hx, hy) meets it: colour components and alpha as a fraction of
255 (R174, R185); none where the ray does not meet it. -/
def State.paneSample (s : State) (b : Nat) (stale : Bool) (hx hy p : Nat) : Option (List Nat × Nat) :=
  let f := s.paneF b p
  let sc := max 1 (f 1 1)
  if !(s.paneOn b p) || hx < f 4 2 || hy < f 6 2 || f 4 2 + sc * f 8 2 ≤ hx || f 6 2 + sc * f 0xA 2 ≤ hy then none
  else
    let i := (hx - f 4 2) / sc
    let j := (hy - f 6 2) / sc
    let px := s.panePixel b p i j
    let (q, opaque_) := if stale then stalePixel (f 8 2) (f 0xA 2) i j px else (px, false)
    let g := s.fld Reg.CART_WHITE_GAIN 15 0
    some ((List.range 3).map (paneColour g (q.take 3)),
      if opaque_ || !(bit (f 0 1) 1) then 255 else (q.drop 3).headD 255)

/-- A premultiplied colour and alpha in units of 2^-24. -/
abbrev Rgba := List Nat × Nat

/-- n / d as a binary16 number, in units of 2^-24 (assumption 13). -/
def halfNat (n d : Nat) : Nat := (Config.roundHalf (n : Int) d).toNat

/-- One step of the loop of R156: sample (c, α) behind what is composed so far. Each value becomes a binary16
number (assumption 13). -/
def compose (acc sample : Rgba) : Rgba :=
  let rest := 2 ^ 24 - acc.2
  let mix := fun (x y : Nat) => halfNat (x * 2 ^ 24 + rest * y) (2 ^ 48)
  (acc.1.zipWith mix sample.1, mix acc.2 sample.2)

/-- Composition ends at A ≥ 1023/1024 (R156). -/
def opaqueEnough (a : Nat) : Bool := decide (1023 * 2 ^ 24 ≤ 1024 * a)

/-- The loop of R156 over samples, nearest first. -/
def composeAll : Rgba → List Rgba → Rgba
  | acc, [] => acc
  | acc, x :: xs => if opaqueEnough acc.2 then acc else composeAll (compose acc x) xs

/-- The Cartouche sample of the rays of hogel (hx, hy) (R175): pane 0 frontmost; none where no pane is met. An
opaque pane in front gives its own colour. -/
def State.cartSample (s : State) (b : Nat) (stale : Bool) (hx hy : Nat) : Option Rgba :=
  match (List.range 8).filterMap (s.paneSample b stale hx hy) with
  | [] => none
  | l@((c, a) :: _) =>
    if a = 255 then some (c, 2 ^ 24)
    else some (composeAll ([0, 0, 0], 0) (l.map (fun x =>
      let al := halfNat x.2 255
      (x.1.map (fun v => if x.2 = 255 then v else halfNat (v * al) (2 ^ 48)), al))))

/-- The values of one probed ray, little-endian (R187): the Cartouche sample, and the composed colour where
alpha is 1.0. -/
def probeBytes (x : Rgba) : List Byte :=
  (x.1 ++ [x.2]).flatMap (fun v => leBytes 2 (halfBits v)) ++
    (if x.2 = 2 ^ 24 then x.1.flatMap (fun v => leBytes 2 (halfBits v)) else [])

/-- The reference generator's bytes for one port: the probed rays of its region in emission order, line by line
(R187). -/
def State.probePort (s : State) (r : ProbeRun) (p : Nat) : List Byte :=
  (List.range (s.portF p 6 2)).flatMap (fun y => (List.range (s.portF p 4 2)).flatMap (fun x =>
    match s.cartSample r.bank r.stale (s.portF p 0 2 + x) (s.portF p 2 2 + y) with
    | some v => probeBytes v
    | none => []))

/-- The reference CRC: the ports' values in port order (R187). -/
def State.probeRef (s : State) (r : ProbeRun) : Nat :=
  crc32c ((s.portsOn).flatMap (s.probePort r))

/-- PANE_PROBE: the frame's probe CRC is compared with the reference (R187). A frame with a probed line that
was not synthesised is counted instead. -/
def execPaneProbe (crc : W32) (s : State) : Out :=
  match s.cart.probes with
  | [] => done s s
  | r :: rest =>
    let t := { s with cart := { s.cart with probes := rest } }
    if r.broken then done s (t.inc Reg.CART_PROBE_SKIP_COUNT)
    else
      let u := (t.setReg Reg.CART_PROBE_LAST crc).wr Reg.CART_PROBE_VIEW (r.view % 256)
      done s (if s.bitAt Reg.CART_PROBE_CFG 0 && decide (crc.toNat ≠ s.probeRef r) then u.cartLatch 4 else u)

/-- A line of frame `fs` is not synthesised: its probe is not compared if a pane covers the line (R187). -/
def State.probeMiss (s : State) (fs port line : Nat) : State :=
  let y := s.portF port 2 2 + line
  let hit := fun (r : ProbeRun) => (s.panesOn r.bank).any (fun p =>
    let f := s.paneF r.bank p
    decide (f 6 2 ≤ y) && decide (y < f 6 2 + f 1 1 * f 0xA 2))
  { s with cart := { s.cart with probes := s.cart.probes.map (fun r =>
    if r.fs = fs && hit r then { r with broken := true } else r) } }

/-- RESET_N: ARMED clears, a pending bank is discarded, the timer's heartbeat state stays (R348). -/
def State.cartReset (s : State) : State :=
  ({ s with cart := { s.cart with
    validating := none, modified := false, pend := none, drainEnd := none, check := none, probes := [], output := false } }).wr
    Reg.CART_STATUS (s.rd Reg.CART_STATUS &&& 0xFF01)

end Sys2Proof.Machine
end

