-- ==== Sys2Proof/Machine/Colour.lean ====
section
/-! DEFINITION. The colour pipeline of the layers (R158) and the encoding of Survey writeback (R164): matrices, transfer
functions and primaries. Values of codes and of light are integers over 2^60, computed with an error below 2^-50
(assumption 9); the standards' constants are those of assumption 51. -/

namespace Sys2Proof.Machine

/-- ln 2 over 2^60. -/
def ln2Q : Int := 799144290325165979

/-- z + z^3/3 + z^5/5 + … over 2^60: `t` is the present power of z, `n` its exponent, `z2` the square of z. -/
def atanhQ (z2 : Int) : Nat → Nat → Int → Int
  | 0, _, _ => 0
  | f + 1, n, t => t / (n : Int) + atanhQ z2 f (n + 2) (t * z2 / q60)

/-- The natural logarithm of a positive number x, both over 2^60. -/
def lnQ (x : Nat) : Int :=
  let m : Int := ((x * 2 ^ 60 / 2 ^ x.log2 : Nat) : Int)
  let z := (m - q60) * q60 / (m + q60)
  2 * atanhQ (z * z / q60) 20 1 z + ((x.log2 : Int) - 60) * ln2Q

/-- 1 + r + r^2/2 + … over 2^60: `t` is the present term, `n` its exponent. -/
def expSeries (r : Int) : Nat → Nat → Int → Int
  | 0, _, _ => 0
  | f + 1, n, t => t + expSeries r f (n + 1) (t * r / q60 / ((n : Int) + 1))

/-- The exponential function, over 2^60. -/
def expQ (y : Int) : Int :=
  let k := y / ln2Q
  let m := expSeries (y - k * ln2Q) 24 0 q60
  if 0 ≤ k then m * 2 ^ k.toNat else m / 2 ^ (-k).toNat

/-- The power p / q of a number over 2^60; 0 of numbers that are not positive. -/
def powQ (x p q : Int) : Int := if x ≤ 0 then 0 else expQ (lnQ x.toNat * p / q)

/-- A number over 2^60 clamped to [0, 1]. -/
def unitQ (x : Int) : Int := max 0 (min x q60)

/-- Luma weights of red and blue of BT.709 and BT.2020, in units of 10^-4. -/
def lumaWeights (bt2020 : Bool) : Int × Int := if bt2020 then (2627, 593) else (2126, 722)

/-- A code as the share of its largest value 2^b - 1, over 2^60; `w` is the code over 2^b, in 2^-24. -/
def fullScale (b w : Nat) : Int := (w : Int) * 2 ^ (36 + b) / (2 ^ b - 1)

/-- R'G'B' over 2^60 of luma and colour differences over 2^60. -/
def fromYcc (bt2020 : Bool) (y cb cr : Int) : List Int :=
  let (kr, kb) := lumaWeights bt2020
  let r := y + 2 * (10000 - kr) * cr / 10000
  let bl := y + 2 * (10000 - kb) * cb / 10000
  [r, (10000 * y - kr * r - kb * bl) / (10000 - kr - kb), bl]

/-- Step 1 of R158: the colour matrix for the scaled codes (Y', Cb', Cr'), each over 2^b in 2^-24. MATRIX 4 to 7 are
the custom matrices `csc`, 12 coefficients each. -/
def colourMatrix (matrix b : Nat) (csc : List Nat) (w : List Nat) : List Int :=
  let f := fun (i : Nat) => fullScale b (w.getD i 0)
  let mid : Int := 2 ^ (b - 1) * q60 / (2 ^ b - 1)
  let lim := fun (i off den : Nat) => ((w.getD i 0 : Int) * 2 ^ 44 - off * q60) / den
  let rgb :=
    if matrix < 4 then
      if matrix % 2 = 0 then fromYcc (decide (2 ≤ matrix)) (lim 0 16 219) (lim 1 128 224) (lim 2 128 224)
      else fromYcc (decide (2 ≤ matrix)) (f 0) (f 1 - mid) (f 2 - mid)
    else
      let g := fun (i : Nat) => signedOf 16 (csc.getD (12 * (matrix - 4) + i) 0)
      (List.range 3).map (fun r =>
        (g (4 * r) * f 0 + g (4 * r + 1) * f 1 + g (4 * r + 2) * f 2 + g (4 * r + 3) * q60) / 4096)
  rgb.map unitQ

/-- The inverse of the BT.2100 HLG OETF. -/
def hlgScene (x : Int) : Int :=
  if 2 * x ≤ q60 then x * x / q60 / 3
  else (expQ ((x * 100000000 - 55991073 * q60) / 17883277) + 28466892 * q60 / 100000000) / 12

/-- Luminance of a triple with BT.2020 primaries. -/
def lumaQ (l : List Int) : Int := (2627 * l.getD 0 0 + 6780 * l.getD 1 0 + 593 * l.getD 2 0) / 10000

/-- The luminance of a BT.2100 PQ code value, in cd/m² over 2^60. -/
def pqLight (x : Int) : Int :=
  let e := powQ x 32 2523
  10000 * powQ (max 0 (4096 * e - 3424 * q60) * q60 / (77216 * q60 - 76544 * e)) 8192 1305

/-- Step 2 of R158: TRANSFER maps R'G'B' to linear light with 1.0 at `white` cd/m². -/
def linearise (transfer white : Nat) (rgb : List Int) : List Int :=
  let w : Int := ((max 1 white : Nat) : Int)
  if transfer = 0 then rgb.map (fun x => powQ x 12 5)
  else if transfer = 1 then rgb.map (fun x => pqLight x / w)
  else if transfer = 2 then
    let l := rgb.map hlgScene
    let g := powQ (lumaQ l) 1 5
    l.map (fun x => 1000 * g * x / q60 / w)
  else rgb

/-- Steps 3 and 4 of R158: BT.709 primaries become BT.2020, and each component, a binary16 number of the working
space in 2^-24 (assumption 13), is clamped to [0, 16.0]. -/
def toWorking (bt2020 : Bool) (l : List Int) : List Nat :=
  let x := fun (i : Nat) => (l.getD i 0).toNat
  (List.range 3).map (fun i => min (16 * 2 ^ 24)
    (if bt2020 then halfNat (x i) (2 ^ 60)
    else halfNat (((bt2087 i).zipWith (fun m k => m * x k) [0, 1, 2]).sum) (10000 * 2 ^ 60)))

/-- Component `i` of a colour with BT.2020 primaries in BT.709 primaries: the inverse of the matrix of R158. -/
def toBt709 (l : List Int) (i : Nat) : Int :=
  let m := fun (r c : Nat) => (((bt2087 (r % 3)).getD (c % 3) 0 : Nat) : Int)
  let cof := fun (r c : Nat) => m (r + 1) (c + 1) * m (r + 2) (c + 2) - m (r + 1) (c + 2) * m (r + 2) (c + 1)
  let det := m 0 0 * cof 0 0 + m 0 1 * cof 0 1 + m 0 2 * cof 0 2
  10000 * (cof 0 i * l.getD 0 0 + cof 1 i * l.getD 1 0 + cof 2 i * l.getD 2 0) / det

/-- The BT.2100 PQ code value of a luminance in cd/m² over 2^60. -/
def pqCode (f : Int) : Int :=
  let y := powQ (unitQ (f / 10000)) 1305 8192
  powQ ((3424 * q60 + 77216 * y) * q60 / (4096 * q60 + 76544 * y)) 2523 32

/-- The BT.2100 HLG OETF. -/
def hlgCode (x : Int) : Int :=
  if 12 * x ≤ q60 then powQ (3 * x) 1 2
  else 17883277 * lnQ (12 * x - 28466892 * q60 / 100000000).toNat / 100000000 + 55991073 * q60 / 100000000

/-- R'G'B' over 2^60 of a working colour in 2^-24, under WBK_CTRL.COLOUR, with 1.0 at `white` cd/m² (R164). -/
def encodeLight (colour white : Nat) (c : List Nat) : List Int :=
  let l : List Int := c.map (fun (x : Nat) => (x : Int) * 2 ^ 36)
  if colour = 0 then (List.range 3).map (fun i => powQ (unitQ (toBt709 l i)) 5 12)
  else if colour = 1 then l.map (fun (x : Int) => unitQ (pqCode (x * white)))
  else
    let d : List Int := l.map (fun (x : Int) => x * white / 1000)
    let g := powQ (lumaQ d) (-1) 6
    d.map (fun x => unitQ (hlgCode (unitQ (x * g / q60))))

/-- The luma code of `b` bits of R'G'B' over 2^60, limited range (R164); the rounding is a free value. -/
def lumaCode (colour b : Nat) (rgb : List Int) : Nat :=
  let (kr, kb) := lumaWeights (decide (colour ≠ 0))
  let y := (kr * rgb.getD 0 0 + (10000 - kr - kb) * rgb.getD 1 0 + kb * rgb.getD 2 0) / 10000
  (Config.roundCode ((219 * y + 16 * q60) * 2 ^ (b - 8)) (2 ^ 60)).toNat % 2 ^ b

end Sys2Proof.Machine
end

