-- ==== Sys2Proof/Machine/RayStage.lean ====
section
/-! DEFINITION. One ray word: the samples of its layers, composition, the Cartouche and the output stage (R149, R155 to
R159, R201 to R203, R252). -/

namespace Sys2Proof.Machine

/-- Where a ray meets the plane of descriptor `d`: depth λ, and P·e_s and P·e_t, in µm over 2^60; none where n·D < 2^-8
(R149). -/
def planeMeet (d : Nat → Nat → Nat) (r : Ray) : Option (Int × Int × Int) :=
  let sx := sinQ (signedOf 16 (d 0x28 2))
  let cx := cosQ (signedOf 16 (d 0x28 2))
  let sy := sinQ (signedOf 16 (d 0x2A 2))
  let cy := cosQ (signedOf 16 (d 0x2A 2))
  let nD := (sy * r.tx - sx * cy / q60 * r.ty) / q60 + cx * cy / q60
  if nD < q60 / 256 then none
  else
    let lam := (planeDist d - (sy * r.x - sx * cy / q60 * r.y) / q60) * q60 / nD
    let dS := (cy * r.tx + sx * sy / q60 * r.ty - cx * sy) / q60
    let dT := cx * r.ty / q60 + sx
    some (lam, (cy * r.x + sx * sy / q60 * r.y) / q60 + lam * dS / q60, cx * r.y / q60 + lam * dT / q60)

/-- Distance of the ray's point from the nearest edge of the rectangle of PLANE descriptor `d`, in µm over 2^61,
with the depth in µm over 2^60; none outside the rectangle (R149). -/
def planeHit (d : Nat → Nat → Nat) (r : Ray) : Option (Int × Int) :=
  match planeMeet d r with
  | none => none
  | some (lam, ps, pt) =>
    let s2 := 2 * (ps - planeS d)
    let t2 := 2 * (pt - planeT d)
    let w := (d 0x34 4 : Int) * q60
    let h := (d 0x38 4 : Int) * q60
    if -w ≤ s2 ∧ s2 < w ∧ -h ≤ t2 ∧ t2 < h then
      some (lam, min (min (s2 + w) (w - s2)) (min (t2 + h) (h - t2)))
    else none

/-- Layer `k` is the first member of a flattened set that the frame shows, or a further member. -/
def FrameSt.setOf (f : FrameSt) (k : Nat) : Option (List Nat) := f.sets.find? (fun l => l.contains k)

/-- A sample ready for composition: depth, ORDER, layer, depth layer, premultiplied colour and alpha. -/
structure DepthSample where
  depth : Int
  order : Nat
  layer : Nat
  sub : Nat
  rgba : Rgba
  deriving DecidableEq, Repr

/-- The tie order of R155: nearest first, then ORDER, layer number, depth layer. -/
def DepthSample.before (a b : DepthSample) : Bool :=
  if a.depth ≠ b.depth then decide (b.depth < a.depth)
  else if a.order ≠ b.order then decide (a.order < b.order)
  else if a.layer ≠ b.layer then decide (a.layer < b.layer)
  else decide (a.sub ≤ b.sub)

/-- Insert a sample. -/
def insertSample (x : DepthSample) : List DepthSample → List DepthSample
  | [] => [x]
  | y :: ys => if x.before y then x :: y :: ys else y :: insertSample x ys

/-- Colour premultiplied by its alpha, each value a binary16 number (assumption 13). -/
def premult (rgb : List Nat) (al : Nat) : Rgba := (rgb.map (fun c => halfNat (c * al) (2 ^ 48)), al)

/-- A PLANE sample's alpha under FEATHER_UM and ALPHA, as a binary16 number (R156, R201). `edge` is the distance
from the nearest edge in µm over 2^61. -/
def planeAlpha (d : Nat → Nat → Nat) (alpha : Nat) (edge : Int) : Nat :=
  let fe := d 0x60 4
  let full : Int := 2 * (fe : Int) * q60
  if fe = 0 ∨ full ≤ edge then halfNat (alpha * d 6 2) (2 ^ 39)
  else halfNat (alpha * d 6 2 * edge.toNat) (2 ^ 39 * full.toNat)

/-- Bits of a code of a PLANE or VIEWSET layer: of its FORMAT, or of the picture it shows (R101, R145, R158). -/
def FrameSt.codeBits (f : FrameSt) (k : Nat) (d : Nat → Nat → Nat) : Nat :=
  if dType d = 2 ∨ dCtxEn d then aget 8 k f.depths
  else
    let m := d 0x20 1
    if m = 4 then 16 else if m = 1 ∨ m = 3 ∨ m = 6 then 10 else 8

/-- The colour pipeline of a PLANE or VIEWSET layer for the scaled codes of a sample (R158): RGBA and Y16 sources skip
the matrix. -/
def FrameSt.pipeline (f : FrameSt) (k : Nat) (d : Nat → Nat → Nat) (w : List Nat) : List Nat :=
  let c := d 4 1
  let b := max 1 (f.codeBits k d)
  let m := if dType d = 2 ∨ dCtxEn d then 0 else d 0x20 1
  let rgb :=
    if m = 4 then List.replicate 3 (unitQ (fullScale b (w.getD 0 0)))
    else if m = 5 ∨ m = 6 then (List.range 3).map (fun i => unitQ (fullScale b (w.getD i 0)))
    else colourMatrix (bits c 2 0) b f.csc w
  toWorking (bit c 5) (linearise (bits c 4 3) f.refWhite rgb)

/-- One operand sample of a PLANE or VIEWSET layer as the ray keeps it; none where the layer yields no sample (R33, R149,
R155 to R158, R161, R201, R209, R214). A source without alpha has alpha 1.0 (R145). -/
def FrameSt.keep (f : FrameSt) (e : Nat → Nat → Nat) (r : Ray) (x : RaySample) : Option DepthSample :=
  match f.desc x.layer with
  | none => none
  | some bs =>
    let d := descF bs
    let mk := fun (z : Int) (c : Rgba) =>
      some ({ depth := z, order := d 2 1, layer := x.layer, sub := 0, rgba := c } : DepthSample)
    let mm := fun (lam : Int) => lam / (1000 * 2 ^ 28)
    if f.dark.contains (x.layer, r.hx / 8, r.hy / 8) then none
    else match dType d with
      | 1 => (match f.setOf x.layer with
        | some (k :: ks) =>
          let hit := (k :: ks).any (fun j => match f.desc j with
            | some b => (planeHit (descF b) r).isSome
            | none => false)
          if k ≠ x.layer || !hit then none
          else (planeMeet d r).bind (fun m =>
            mk (mm m.1) ((x.code.take 3).map (fun c => min c (16 * 2 ^ 24)), min x.alpha (2 ^ 24)))
        | _ => (planeHit d r).bind (fun m =>
            let rgba := !(dCtxEn d) && decide (5 ≤ d 0x20 1)
            let a := planeAlpha d (if rgba then min x.alpha (2 ^ 24) else 2 ^ 24) m.2
            let rgb := f.pipeline x.layer d x.code
            mk (mm m.1) (if dFlag d 2 then (rgb, a) else premult rgb a)))
      | 2 =>
        let lim := fun (o : Nat) => signedOf 16 (e o 2) * 2 ^ 32
        let z := max (lim 0x26) (min (lim 0x24) x.depth)
        mk z (premult (f.pipeline x.layer d x.code) (halfNat (d 6 2) (2 ^ 15)))
      | _ => none

/-- The samples that a sheet gives a ray: colour and alpha under R114, R123, R156 and R158. -/
def FrameSt.sheetSamples (f : FrameSt) (r : Ray) (w : SheetView) : List DepthSample :=
  match f.desc w.layer with
  | none => []
  | some bs =>
    let d := descF bs
    (w.hits r).map (fun x =>
      let rgb := toWorking (decide (bits w.flags 3 2 = 1)) (linearise (bits w.flags 5 4) f.refWhite
        (x.1.rgb.map (fun (c : Nat) => unitQ ((c : Int) * q60 / (2 ^ w.bits - 1)))))
      let a := halfNat (x.1.a * d 6 2) (255 * 2 ^ 15)
      { depth := x.2, order := d 2 1, layer := w.layer, sub := x.1.sub
        rgba := if bit w.flags 1 then (rgb, a) else premult rgb a })

/-- The sheets that the Atlas layers of a frame show, without the tiles `cut`. -/
def State.sheetViews (s : State) (f : FrameSt) (cut : List (Nat × Nat × Nat)) : List SheetView :=
  f.layers.filterMap (fun x => s.sheetView f cut x.1 x.2)

/-- The samples of a ray in order, nearest first. -/
def FrameSt.samples (f : FrameSt) (e : Nat → Nat → Nat) (ws : List SheetView) (r : Ray) (xs : List RaySample) :
    List DepthSample :=
  (xs.filterMap (f.keep e r) ++ ws.flatMap (f.sheetSamples r)).foldl
    (fun (l : List DepthSample) (x : DepthSample) => insertSample x l) []

/-- The composed colour of a ray over the background, in 2^-24 (R156): at most 16 samples. -/
def FrameSt.colour (f : FrameSt) (l : List DepthSample) : List Nat :=
  let c := composeAll ([0, 0, 0], 0) ((l.take 16).map DepthSample.rgba)
  let bg := (List.range 3).map (fun i => halfNat (bits f.background (10 * i + 9) (10 * i) * 2 ^ 24) (1023 * 2 ^ 24))
  let rest := 2 ^ 24 - c.2
  c.1.zipWith (fun x b => halfNat (x * 2 ^ 24 + rest * b) (2 ^ 48)) bg

/-- The Cartouche sample over a colour (R156). -/
def overlay (pane : Option Rgba) (c : List Nat) : List Nat :=
  match pane with
  | none => c
  | some (p, a) => p.zipWith (fun x y => halfNat (x * 2 ^ 24 + (2 ^ 24 - a) * y) (2 ^ 48)) c

/-- The tile matrix: component `i` in 2^-40, clamped to [0, 1] (R44, R202). -/
def tileMatrix (e : Nat → Nat → Nat) (port i : Nat) (c : List Nat) : Nat :=
  let o := secOff e 2 + 48 * portE e port 0xD 1 + 16 * i
  let g := fun (j : Nat) => signedOf 32 (e (o + 4 * j) 4)
  let x := ((List.range 3).map (fun j => g j * (c.getD j 0 : Int))).sum + g 3 * 2 ^ 24
  (max 0 (min x (2 ^ 40 : Int))).toNat

/-- The transfer LUT: the drive code of colour `i` for x / 2^40 (R45, R202). -/
def driveCode (e : Nat → Nat → Nat) (i x : Nat) : Nat :=
  let p := x * 1023
  let j := min (p / 2 ^ 40) 1022
  let lut := fun (k : Nat) => e (secOff e 3 + 2048 * i + 2 * k) 2
  roundNear (lut j * 2 ^ 40 + (p - j * 2 ^ 40) * (lut (j + 1) - lut j)) (2 ^ 40)

/-- The gains: uniformity and wear gain in 2^-14 (R202). -/
def gained (code gu gw : Nat) : Nat := min 65535 (roundNear (code * gu * gw) (2 ^ 28))

/-- The 4 × 4 ordered matrix D[y][x] (R203). -/
def ditherD (y x : Nat) : Nat :=
  ([[0, 8, 2, 10], [12, 4, 14, 6], [3, 11, 1, 9], [15, 7, 13, 5]].getD y []).getD x 0

/-- The threshold of ray (hx, hy, u, v) for colour `i` at `b` bits (R203). -/
def ditherT (e : Nat → Nat → Nat) (b fs : Nat) (still : Bool) (hx hy u v i : Nat) : Nat :=
  let sh := 16 - b
  if !(bit (e 0x29 1) 1) then 2 ^ (sh - 1)
  else
    let x := (hx * e 0x14 1 + u + (if i = 1 then 2 else 0)) % 4
    let y := (hy * e 0x15 1 + v + (if i = 2 then 2 else 0)) % 4
    let lv := 4 * ditherD y x + (if still then 0 else [0, 2, 3, 1].getD (fs % 4) 0)
    (2 * lv + 1) * 2 ^ sh / 128

/-- A code reduced to `b` bits with threshold `t` (R203). -/
def reduced (b code t : Nat) : Nat := min (2 ^ b - 1) ((code + t) / 2 ^ (16 - b))

/-- Three components packed into a ray word (R252). -/
def packWord (b : Nat) (c : List Nat) : Nat := c.getD 0 0 * 2 ^ (2 * b) + c.getD 1 0 * 2 ^ b + c.getD 2 0

/-- Uniformity gain of colour `i` of the block of hogel (hx, hy) (R46). -/
def unifGain (e : Nat → Nat → Nat) (hx hy i : Nat) : Nat :=
  e (secOff e 4 + 6 * (hy / 8 * (e 0x10 2 / 8) + hx / 8) + 2 * i) 2

/-- What one ray gives: its word, the word of the signature tap, its gained codes, whether it lost samples. -/
structure RayOut where
  word : Nat
  tap : Nat
  codes : List Nat
  tooMany : Bool
  deriving DecidableEq, Repr

/-- The output stage for a colour (R202, R203). UNIF_EN and WEAR_EN do not affect the codes that the statistics
take (R204). The tap word has the codes of step 2 without gains and dither
(R167; assumption 8). -/
def outputStage (e : Nat → Nat → Nat) (f : FrameSt) (port hx hy u v : Nat) (c : List Nat) (tooMany : Bool) : RayOut :=
  let b := e 0x16 1
  let codes := (List.range 3).map (fun i => driveCode e i (tileMatrix e port i c))
  let wear := fun (i : Nat) => aget 16384 (3 * (hy / 8 * (e 0x10 2 / 8) + hx / 8) + i) f.gains
  let g := (List.range 3).map (fun i => gained (codes.getD i 0)
    (if bit f.grtCtrl 0 then unifGain e hx hy i else 16384) (if bit f.grtCtrl 1 then wear i else 16384))
  let stat := (List.range 3).map (fun i => gained (codes.getD i 0) (unifGain e hx hy i) (wear i))
  { word := packWord b ((List.range 3).map (fun i =>
      reduced b (g.getD i 0) (ditherT e b f.fs (bit f.grtCtrl 2) hx hy u v i)))
    tap := packWord b (codes.map (fun k => reduced b k 0))
    codes := stat, tooMany := tooMany }

/-- The composed colour of a ray under the Cartouche, with whether it lost samples (R155, R156). -/
def State.rayColour (s : State) (f : FrameSt) (ws : List SheetView) (r : Ray) (xs : List RaySample) : List Nat × Bool :=
  let l := f.samples (s.pmapLe f.map) ws r xs
  let pane := match f.panes with
    | some (b, stale) => s.cartSample b stale r.hx r.hy
    | none => none
  (overlay pane (f.colour l), decide (16 < l.length))

/-- A whole ray (R155, R156, R202). -/
def State.rayOut (s : State) (f : FrameSt) (ws : List SheetView) (port hx hy u v : Nat) (xs : List RaySample) : RayOut :=
  let e := s.pmapLe f.map
  let c := s.rayColour f ws (hogelRay e hx hy u v) xs
  outputStage e f port hx hy u v c.1 c.2

/-- The rays of `count` hogels from local column `first` of a line of a port, in word order (R29), without the Atlas
tiles `cut`. -/
def State.segRays (s : State) (f : FrameSt) (cut : List (Nat × Nat × Nat)) (port line first count : Nat)
    (rays : List (List RaySample)) : List RayOut :=
  let e := s.pmapLe f.map
  let uc := e 0x14 1
  let uv := uc * e 0x15 1
  let ws := s.sheetViews f cut
  (List.range (count * uv)).map (fun j =>
    s.rayOut f ws port (portE e port 0 2 + first + j / uv) (portE e port 2 2 + line) (j % uv % uc) (j % uv / uc)
      (rays.getD j []))

end Sys2Proof.Machine
end

