-- ==== Sys2Proof/Machine/Signature.lean ====
section
/-! DEFINITION. Region signatures (R166 to R168). -/

namespace Sys2Proof.Machine

/-- A field of a region's settings through an accessor: X0, Y0, X1, Y1, U0, U1, V0, V1. -/
def sigRect (f : Nat → Nat → Nat → Nat) (r : Nat) : List Nat :=
  [f (Reg.SIGR_RECT_LO r) 12 0, f (Reg.SIGR_RECT_LO r) 28 16, f (Reg.SIGR_RECT_HI r) 12 0,
   f (Reg.SIGR_RECT_HI r) 28 16, f (Reg.SIGR_VIEWS r) 3 0, f (Reg.SIGR_VIEWS r) 11 8,
   f (Reg.SIGR_VIEWS r) 19 16, f (Reg.SIGR_VIEWS r) 27 24]

/-- The port whose tile region holds a rectangle of hogels. -/
def State.portHolding (s : State) (x0 y0 x1 y1 : Nat) : Option Nat :=
  s.portsOn.find? (fun p => decide (s.portF p 0 2 ≤ x0) && decide (x1 < s.portF p 0 2 + s.portF p 4 2) &&
    decide (s.portF p 2 2 ≤ y0) && decide (y1 < s.portF p 2 2 + s.portF p 6 2))

/-- A region lies within one tile region and the view grid (R166). -/
def State.sigRegionOk (s : State) (q : List Nat) : Bool :=
  match q with
  | [x0, y0, x1, y1, u0, u1, v0, v1] =>
    decide (x0 ≤ x1) && decide (y0 ≤ y1) && decide (u0 ≤ u1) && decide (v0 ≤ v1) && decide (u1 < s.mapU) &&
      decide (v1 < s.mapV) && (s.portHolding x0 y0 x1 y1).isSome
  | _ => false

/-- The first enabled region whose written settings break R166. -/
def State.sigBadRegion (s : State) : Option Nat :=
  (List.range 16).find? (fun r => s.bitAt (Reg.SIGR_CFG r) 0 &&
    !(s.sigRegionOk (sigRect (fun a hi lo => s.fld a hi lo) r)))

/-- A commit of the region settings, or its refusal with BAD_REGION (R166, R426). -/
def State.sigCommit (s : State) : State :=
  match s.sigBadRegion with
  | some r => s.wr Reg.SIG_STATUS (1 + r * 0x100)
  | none => (s.wr Reg.SIG_STATUS 0).makeCommit Page.SIG

/-- The signatures of a frame that a gate starts, with the settings in force (R168). `dither` is the map's
DITHER flag. -/
def State.sigStart (s : State) (fs : Nat) : State :=
  if !(bit (s.inForce Reg.SIG_CTRL) 0) then s
  else
    let dither := bit (s.mapF 0x29 1) 1
    let runs := (List.range 16).filterMap (fun r =>
      let cfg := s.inForce (Reg.SIGR_CFG r)
      let tap := bit (s.inForce Reg.SIG_TAP) r
      if !(bit cfg 0) then none
      else match sigRect (fun a hi lo => s.forceFld a hi lo) r with
        | [x0, y0, x1, y1, u0, u1, v0, v1] =>
          (s.portHolding x0 y0 x1 y1).map (fun p => ({
            region := r, fs := fs, port := p, l0 := y0 - s.portF p 2 2, l1 := y1 - s.portF p 2 2
            x0 := x0 - s.portF p 0 2, x1 := x1 - s.portF p 0 2, u0 := u0, u1 := u1, v0 := v0, v1 := v1
            check := bit cfg 1, tap := tap
            expect := s.inForce (Reg.SIGR_EXPECT r (if dither && !tap then fs % 4 else 0))
            crc := 0xFFFFFFFF, broken := false } : SigRun))
        | _ => none)
    { s with lay := { s.lay with sigs := s.lay.sigs ++ runs } }

/-- A ray word zero-extended to 32 bits, least significant byte first (R167). -/
def sigBytes (w : Nat) : List Byte := leBytes 4 w

/-- Feed the words of one line, in emission order; `words` and `taps` are indexed by
(hx − X0) · U · V + v · U + u (R29, R167). -/
def SigRun.feed (g : SigRun) (uCount vCount : Nat) (words taps : List Nat) : SigRun :=
  let src := if g.tap then taps else words
  let idx := (List.range (g.x1 + 1 - g.x0)).flatMap (fun dx =>
    (List.range (g.v1 + 1 - g.v0)).flatMap (fun dv =>
      (List.range (g.u1 + 1 - g.u0)).map (fun du =>
        (g.x0 + dx) * uCount * vCount + (g.v0 + dv) * uCount + (g.u0 + du))))
  { g with crc := idx.foldl (fun c i => word c (src.getD i 0)) g.crc }
where
  /-- One word of the running CRC-32. -/
  word (c w : Nat) : Nat := crc32Step c (sigBytes w)

/-- A region's last line is synthesised: VALUE, FRAME and the comparison (R168). -/
def State.sigFinish (s : State) (g : SigRun) : State :=
    let v := g.crc ^^^ 0xFFFFFFFF
    let s1 := (s.wr (Reg.SIGR_VALUE g.region) v).wr (Reg.SIGR_FRAME g.region) g.fs
    if !g.check then s1
    else
      let s2 := if s1.lay.sigFrame = g.fs then s1
        else ({ s1 with lay := { s1.lay with sigFrame := g.fs } }).wr Reg.SIG_MISMATCH_MASK 0
      if v = g.expect then s2
      else ((s2.inc (Reg.SIGR_MISMATCH_COUNT g.region)).setBit Reg.SIG_MISMATCH_MASK g.region true).raise
        Page.SIG 0

/-- A line of a port is synthesised: its regions take its words, and a region whose last line it is
finishes (R167, R168). -/
def State.sigLine (s : State) (fs port line : Nat) (words taps : List Nat) : State :=
  let mine (g : SigRun) : Bool := decide (g.fs = fs) && decide (g.port = port) && decide (g.l0 ≤ line) &&
    decide (line ≤ g.l1)
  let sigs := s.lay.sigs.map (fun g => if mine g then g.feed s.mapU s.mapV words taps else g)
  let ends (g : SigRun) : Bool := mine g && decide (g.l1 = line) && !g.broken
  let s1 := { s with lay := { s.lay with sigs := sigs.filter (fun g => !(ends g)) } }
  (sigs.filter ends).foldl (fun t g => t.sigFinish g) s1

/-- A line of a port was not synthesised: its regions are not compared (R168). -/
def State.sigMiss (s : State) (fs port line : Nat) : State :=
  { s with lay := { s.lay with sigs := s.lay.sigs.map (fun g =>
    if g.fs = fs ∧ g.port = port ∧ g.l0 ≤ line ∧ line ≤ g.l1 then { g with broken := true } else g) } }

/-- A frame with a region that did not finish is not compared, and is counted once (R168). -/
def State.sigFrameEnd (s : State) (fs : Nat) : State :=
  let left := s.lay.sigs.any (fun g => g.fs = fs)
  let s1 := { s with lay := { s.lay with sigs := s.lay.sigs.filter (fun g => !(g.fs = fs)) } }
  if left then s1.inc Reg.SIG_SKIP_COUNT else s1

end Sys2Proof.Machine
end

