-- ==== Sys2Proof/Machine/Wear.lean ====
section
/-! DEFINITION. The Wear ledger's accumulation, captures, gains and commands (R380 to R386). -/

namespace Sys2Proof.Machine

/-- Largest ledger value, and its entry. -/
def ledgerMax (m : List (Nat × Nat)) : Nat × Nat :=
  m.foldl (fun (b : Nat × Nat) (x : Nat × Nat) => if b.2 < x.2 then x else b) (0, 0)

/-- WEAR_MAX_DRIVE and WEAR_MAX_BLOCK follow the ledger. -/
def State.wearMaxRegs (s : State) : State :=
  let x := ledgerMax s.wear.ledger
  let w := max 1 (s.wear.geom.getD (0, 1, 1)).2.1
  (s.wr Reg.WEAR_MAX_DRIVE x.2).wr Reg.WEAR_MAX_BLOCK
    ((x.1 / 3) % w % 1024 + (x.1 / 3) / w % 1024 * 1024 + x.1 % 3 * 1048576)

/-- The gains in force change: WEAR_GAIN_MAX follows. -/
def State.setGains (s : State) (g : List (Nat × Nat)) : State :=
  let n := wearEntries (s.wear.geom.getD (0, 0, 0))
  let base := if g.length < n || n = 0 then 16384 else 0
  ({ s with wear := { s.wear with gains := g } }).wr Reg.WEAR_GAIN_MAX
    (g.foldl (fun (m : Nat) (x : Nat × Nat) => max m x.2) base)

/-- LIMITED: some gain is clamped (R383). -/
def State.setLimited (s : State) : State :=
  let c := s.gainClamped
  let t := if c && !(s.bitAt Reg.WEAR_STATUS 3) then s.raise Page.WEAR 3 else s
  t.setBit Reg.WEAR_STATUS 3 c

/-- The gains are recomputed; a changed set waits for the next gate unless GAIN_HOLD is set (R383). -/
def State.regain (s : State) : State :=
  if s.bitAt Reg.WEAR_CTRL 1 || s.bitAt Reg.WEAR_STATUS 1 then s
  else
    let t := s.setLimited
    let g := t.gainSet
    { t with wear := { t.wear with next := if g = t.wear.gains then none else some g } }

/-- A changed set of gains takes effect at a gate with new FRAME_SEQ `fs` (R205, R383). -/
def State.wearGate (s : State) (fs : Nat) : State :=
  match s.wear.next with
  | none => s
  | some g =>
    if s.bitAt Reg.WEAR_CTRL 1 then s
    else ((({ s with wear := { s.wear with next := none } }).setGains g).wr Reg.WEAR_GAIN_SEQ fs).raise
      Page.WEAR 0

/-- The block grid or MAP_ID of the map in use is compared with that of the ledger (R384). -/
def State.wearGeomCheck (s : State) : State :=
  match s.wear.geom with
  | none =>
    if s.bitAt Reg.WEAR_STATUS 0 then { s with wear := { s.wear with geom := some s.wearGeomNow } } else s
  | some g =>
    if g = s.wearGeomNow then
      if s.bitAt Reg.WEAR_STATUS 1 then (s.setBit Reg.WEAR_STATUS 1 false).regain else s
    else if s.bitAt Reg.WEAR_STATUS 1 then s
    else ((({ s with wear := { s.wear with next := none } }).setGains []).setBit Reg.WEAR_STATUS 1 true).raise
      Page.WEAR 1

/-- One ledger unit of 1.40625 s at full drive, as sum of codes times ns for a block of `rays` rays (R204,
R380). -/
def wearUnit (rays : Nat) : Nat := 65535 * rays * 1406250000

/-- Add a block's mean drive over a frame period of `t` ns to an entry: `sum` is the sum of its codes over
`rays` rays (R204, R380). The sub-unit remainder is kept. -/
def State.wearAdd (s : State) (i sum rays t : Nat) : State :=
  if rays = 0 then s
  else
    let n := aget 0 i s.wear.rem + sum * t
    let u := wearUnit rays
    { s with wear := { s.wear with
      ledger := aset 0 i (min (s.ledger i + n / u) 0xFFFFFFFF) s.wear.ledger
      rem := aset 0 i (n % u) s.wear.rem } }

/-- The sums of codes of the lines of a frame, by ledger entry (R204): `lines` holds, for key 8192 × port +
line, the sums of the region's block columns and colours. -/
def State.blockSums (s : State) (lines : List (Nat × List Nat)) : List (Nat × Nat) :=
  lines.foldl (fun (m : List (Nat × Nat)) (x : Nat × List Nat) =>
    let p := x.1 / 8192
    let y := s.portF p 2 2 + x.1 % 8192
    x.2.zipIdx.foldl (fun (m2 : List (Nat × Nat)) (v : Nat × Nat) =>
      let b := y / 8 * s.blocksX + s.portF p 0 2 / 8 + v.2 / 3
      aupd 0 (3 * b + v.2 % 3) (· + v.1) m2) m) []

/-- WEAR_ACCUMULATE: at a frame's last line each block's mean drive times the frame period is added (R380);
nothing is added while EN is 0 or after a change of geometry (R384). -/
def State.wearAccumulate (s : State) (lines : List (Nat × List Nat)) (period : Nat) : State :=
  let t := if !(s.bitAt Reg.WEAR_CTRL 0) || s.bitAt Reg.WEAR_STATUS 1 || !(s.bitAt Reg.WEAR_STATUS 0) then s
    else ((s.blockSums lines).foldl (fun (u : State) (x : Nat × Nat) =>
      u.wearAdd x.1 x.2 (64 * s.mapU * s.mapV) period) s).wearMaxRegs
  { t with wear := { t.wear with lines := lines } }

/-- A wear record goes into the Logbook at once (R375, R377). -/
def State.wearFits (s : State) (ty : Nat) (payload : List Byte) : Bool :=
  match s.active with
  | some l => s.bitAt Reg.LOGB_STATUS 0 && !s.switching && !(s.oldBankFull l ty payload)
  | none => false

/-- A wear record that the bank has no room for is not captured (R377). -/
def State.wearFull (s : State) (ty : Nat) (payload : List Byte) : State :=
  match s.active with
  | some l => if s.bitAt Reg.LOGB_STATUS 0 && !s.switching && s.oldBankFull l ty payload then s.bankFull else s
  | none => s

/-- A WEAR_SNAPSHOT of the ledger is captured and appended, or falls due as soon as the Logbook takes it (R382, R384). -/
def State.takeSnapshot (s : State) : State :=
  if !(s.wearFits 8 (s.snapshotPayload s.ledger)) then
    ({ s with wear := { s.wear with snapAt := s.clk } }).wearFull 8 (s.snapshotPayload s.ledger)
  else
  let t := s.logRecord 8 (s.snapshotPayload s.ledger)
  let q := t.rd Reg.LOGB_SEQ
  ({ t with wear := { t.wear with
    capture := some { snapshot := true, ledger := t.wear.ledger, seq := q }
    snapAt := t.clk + 3600000000000 * t.rd Reg.WEAR_SNAP_H
    deltaAt := t.clk + 1000000000 * t.rd Reg.WEAR_DELTA_S } }).regain

/-- A capture may be made: the ledger is ready, its geometry holds, no capture is under way, and the
Logbook's old bank is not full, and no switch-over is in progress (R23, R377, R384). -/
def State.wearReady (s : State) : Bool :=
  s.bitAt Reg.WEAR_STATUS 0 && !(s.bitAt Reg.WEAR_STATUS 1) && s.wear.capture.isNone &&
    !(s.bitAt Reg.LOGB_STATUS 3) && s.active.isSome && !s.switching

/-- Entries whose read returned poison take the other copy's value, or the Logbook's (R381). -/
def State.wearHeal (s : State) (bad badJournal : List Nat) : State :=
  if bad.isEmpty && badJournal.isEmpty then s
  else
    let old := match s.active with
      | some l => wearReplay (s.bankRecs l (s.side l).cur)
      | none => []
    let pick := fun (i : Nat) (mine other : List Nat) (mv ov : Nat) =>
      if !(mine.contains i) then mv else if other.contains i then aget 0 i old else ov
    let all := bad ++ badJournal
    let led := all.foldl (fun (m : List (Nat × Nat)) (i : Nat) =>
      aset 0 i (pick i bad badJournal (s.ledger i) (s.journal i)) m) s.wear.ledger
    let jou := all.foldl (fun (m : List (Nat × Nat)) (i : Nat) =>
      aset 0 i (pick i badJournal bad (s.journal i) (s.ledger i)) m) s.wear.journal
    ((({ s with wear := { s.wear with ledger := led, journal := jou } }).setBit Reg.WEAR_STATUS 2 true).raise
      Page.WEAR 2).faultKind Page.WEAR 1 bad.length badJournal.length

/-- WEAR_DELTA_CAPTURE: the delta interval expires (R382); `bad` and `badJournal` are the entries of the
ledger and of the journalled ledger whose read returned poison. -/
def execWearDeltaCapture (bad badJournal : List Nat) (s : State) : Out :=
  if !s.wearReady || s.clk < s.wear.deltaAt then done s s
  else
    let s1 := s.wearHeal bad badJournal
    if !(s1.wearFits 7 s1.deltaPayload) then done s (s1.wearFull 7 s1.deltaPayload) else
    let led := (List.range (wearEntries (s1.wear.geom.getD (0, 0, 0)))).foldl
      (fun (m : List (Nat × Nat)) (i : Nat) => aset 0 i (s1.journal i + s1.wearDelta i) m) []
    let t := s1.logRecord 7 s1.deltaPayload
    done s ({ t with wear := { t.wear with
      capture := some { snapshot := false, ledger := led, seq := t.rd Reg.LOGB_SEQ }
      deltaAt := t.clk + 1000000000 * t.rd Reg.WEAR_DELTA_S } }).regain

/-- WEAR_SNAPSHOT: the snapshot interval expires, and a snapshot stands in place of the delta (R382). -/
def execWearSnapshot (bad badJournal : List Nat) (s : State) : Out :=
  if !s.wearReady || s.clk < s.wear.snapAt then done s s
  else done s (s.wearHeal bad badJournal).takeSnapshot

/-- WEAR_RECORD_COMPLETE: the record is complete in flash, and the journalled ledger takes the values it
carries (R381). -/
def execWearRecordComplete (s : State) : Out :=
  match s.wear.capture with
  | none => done s s
  | some c =>
    let t := { s with wear := { s.wear with journal := c.ledger, capture := none, cmd := false } }
    done s ((t.wr Reg.WEAR_LAST_SEQ c.seq).setBit Reg.WEAR_CMD_STATUS 0 false)

/-- Entries of the blocks of a port's region. -/
def State.portEntries (s : State) (p : Nat) : List Nat :=
  let bx0 := s.portF p 0 2 / 8
  let by0 := s.portF p 2 2 / 8
  (List.range (s.portF p 6 2 / 8)).flatMap (fun j =>
    (List.range (s.portF p 4 2 / 8)).flatMap (fun i =>
      (List.range 3).map (fun c => 3 * ((by0 + j) * s.blocksX + bx0 + i) + c)))

/-- A WEAR_CMD operation starts: BUSY until its snapshot is complete. -/
def State.wearCmdBusy (s : State) : State :=
  (({ s with wear := { s.wear with cmd := true } }).setBit Reg.WEAR_CMD_STATUS 0 true).setFld
    Reg.WEAR_CMD_STATUS 7 4 0

/-- WEAR_CMD (R384): SNAPSHOT_NOW captures a snapshot; ADOPT starts a zero ledger for the active map;
RESET_PORT zeroes one port's entries; ERR 1 while an operation is under way, 2 for a port that is not
enabled. -/
def State.writeWearCmd (s : State) (v : Nat) : State :=
  if !(bit v 31) then s
  else if s.wear.cmd || s.wear.capture.isSome then s.setFld Reg.WEAR_CMD_STATUS 7 4 1
  else
    let op := bits v 1 0
    let p := bits v 13 8
    if op = 1 then if s.wear.geom.isNone then s else s.wearCmdBusy.takeSnapshot
    else if op = 2 then
      if !s.seq.hasMap then s
      else
        let t := { s.wearCmdBusy with wear := { s.wear with
          ledger := [], journal := [], rem := [], geom := some s.wearGeomNow, cmd := true } }
        (((t.setBit Reg.WEAR_STATUS 1 false).wearMaxRegs).takeSnapshot).noteKind 2 [2, s.mapF 0x70 4]
    else if op = 3 then
      if !(s.portsOn.contains p) then s.setFld Reg.WEAR_CMD_STATUS 7 4 2
      else
        let es := s.portEntries p
        let t := s.wearCmdBusy
        let led := es.foldl (fun (m : List (Nat × Nat)) (i : Nat) => aset 0 i 0 m) t.wear.ledger
        let rm := es.foldl (fun (m : List (Nat × Nat)) (i : Nat) => aset 0 i 0 m) t.wear.rem
        ((({ t with wear := { t.wear with ledger := led, rem := rm } }).wearMaxRegs).takeSnapshot).noteKind 2 [3, p]
    else s

/-- At bring-up both ledgers are the newest snapshot plus the later deltas, and the gains are loaded (R350, R382).
Without a wear record the ledger is zero for the active map. -/
def State.ledgerRestored (s : State) (l : Landing) : State :=
  let rs := s.bankRecs l (s.side l).cur
  let m := wearReplay rs
  let g := match newestWear rs with
    | some r => some (wearGeomOf r)
    | none => if s.seq.hasMap then some s.wearGeomNow else none
  let q := match newestWear rs with | some r => r.seq | none => 0
  let s1 := { s with
    moor := { s.moor with wearDone := true }
    wear := { s.wear with
      ledger := m, journal := m, rem := [], geom := g, capture := none, cmd := false, next := none
      deltaAt := s.clk + 1000000000 * s.rd Reg.WEAR_DELTA_S
      snapAt := s.clk + 3600000000000 * s.rd Reg.WEAR_SNAP_H } }
  let s2 := ((s1.setBit Reg.WEAR_STATUS 0 true).wr Reg.WEAR_LAST_SEQ q).wearMaxRegs
  if !s2.seq.hasMap then s2
  else
    let s3 := s2.wearGeomCheck
    if s3.bitAt Reg.WEAR_STATUS 1 then s3 else s3.setLimited.setGains s3.gainSet

end Sys2Proof.Machine
end

