-- ==== Sys2Proof/Machine/Frame.lean ====
section
/-! DEFINITION. A frame from its gate to its last line: segments, line slots, deadlines and the frame report
(R104, R157, R194 to R199, R204, R214, R215, R218, R237, R240, R258). -/

namespace Sys2Proof.Machine

/-- The frame in flight with FRAME_SEQ `fs`. -/
def State.frameOf (s : State) (fs : Nat) : Option FrameSt := s.seq.frames.find? (fun f => decide (f.fs = fs))

/-- Replace a frame in flight. -/
def State.setFrame (s : State) (f : FrameSt) : State :=
  { s with seq := { s.seq with frames := s.seq.frames.map (fun g => if g.fs = f.fs then f else g) } }

/-- Key of a line. -/
def rowKey (port line : Nat) : Nat := 8192 * port + line

/-- A line of a frame, once begun. -/
def FrameSt.row (f : FrameSt) (k : Nat) : Option LineRun := (f.rows.find? (fun x => decide (x.1 = k))).map Prod.snd

/-- Replace or add a line. -/
def FrameSt.setRow (f : FrameSt) (k : Nat) (r : LineRun) : FrameSt :=
  if (f.row k).isSome then { f with rows := f.rows.map (fun x => if x.1 = k then (k, r) else x) }
  else { f with rows := f.rows ++ [(k, r)] }

/-- Block counts of a line of `b` blocks over `n` engines, with their first blocks (R194). -/
def spans (b n : Nat) : List (Nat × Nat) :=
  (List.range n).map (fun j => (j * (b / n) + min j (b % n), b / n + (if j < b % n then 1 else 0)))

/-- The gang of a port begins a line (R194, R195). -/
def State.lineBegin (s : State) (port start : Nat) : LineRun :=
  let g := s.gang port
  { segs := ((g.zip (spans (s.portF port 4 2 / 8) g.length)).filter (fun x => decide (x.2.2 ≠ 0))).map (fun x =>
      { col := x.1.1, engine := some x.1.2, first := 8 * x.2.1, count := 8 * x.2.2, start := start }) }

/-- Every port with a line `n` begins it. -/
def State.beginLines (s : State) (f : FrameSt) (n start : Nat) : FrameSt :=
  (s.portsOn.filter (fun p => decide (n < s.portF p 6 2))).foldl (fun (g : FrameSt) (p : Nat) =>
    if (g.row (rowKey p n)).isSome then g else g.setRow (rowKey p n) (s.lineBegin p start)) f

/-- Start of slot `n` of a frame (R218). -/
def FrameSt.slotStart (f : FrameSt) (n : Nat) : Nat := f.s0 + n * f.tL

/-- Data blocks of a line packet of a port, at most: raw, or one bit more per hogel when row-coded (R251, R255). -/
def lineBlocks (e : Nat → Nat → Nat) (p : Nat) : Nat :=
  ceilDiv (portE e p 4 2 * e 0x14 1 * e 0x15 1 * 3 * e 0x16 1 + (if bit (e 0x29 1) 2 then portE e p 4 2 else 0)) 64

/-- The time kept free for a port's packet, as a fraction in ns: 1.014 × t_line, or the packet's own length below
400 data rows (R199, R256). -/
def packetTime (e : Nat → Nat → Nat) (p : Nat) : Nat × Nat :=
  let r := laneRate10 (e 0x28 1)
  let rows := ceilDiv (lineBlocks e p) 15
  if rows < 400 then ((rows + 2) * 640, r)
  else (portE e p 4 2 * e 0x14 1 * e 0x15 1 * 3 * e 0x16 1 * 10140, 15 * r * 1000)

/-- Deadline of line `n` of a port: slot start + min(tL − packet time, 0.11 × tL) (R199). -/
def lineDeadline (e : Nat → Nat → Nat) (f : FrameSt) (p n : Nat) : Nat :=
  let t := packetTime e p
  f.slotStart n + min ((f.tL * t.2 - t.1) / t.2) (f.tL * 11 / 100)

/-- Sums of the gained codes of a segment by block and colour (R204). -/
def segSums (uv : Nat) (outs : List RayOut) : Nat → Nat → List Nat
  | 0, _ => []
  | b + 1, i =>
    let mine := (outs.drop (8 * uv * i)).take (8 * uv)
    (List.range 3).map (fun c => (mine.map (fun (o : RayOut) => o.codes.getD c 0)).sum) ++ segSums uv outs b (i + 1)

/-- A line of a port is not sent: it is counted and recorded, its segments are abandoned, the framer sends an
empty line, and nothing that covers it is compared (R168, R187, R199, R258). -/
def State.lineMiss (s : State) (f : FrameSt) (port line : Nat) : State :=
  let s1 := s.setFrame (f.setRow (rowKey port line) { segs := [], missed := true })
  let s2 := ((s1.inc Reg.GRT_LINE_MISS_COUNT).wr Reg.GRT_LINE_MISS_LAST (port + line * 65536)).raise Page.GRT 1
  (((if f.ports.contains port then s2.sendEmpty port f.fs line else s2).sigMiss f.fs port line).probeMiss f.fs port line)

/-- The line whose slot runs on a port and that is neither sent nor missed: frame and line. -/
def State.dueLine (s : State) (port : Nat) : Option (FrameSt × Nat) :=
  s.seq.frames.findSome? (fun f =>
    if f.nextSlot = 0 ∨ f.lines < f.nextSlot ∨ s.portF port 6 2 < f.nextSlot then none
    else match f.row (rowKey port (f.nextSlot - 1)) with
      | some r => if r.sent || r.missed then none else some (f, f.nextSlot - 1)
      | none => some (f, f.nextSlot - 1))

/-- LINE_MISS: a line's deadline passes without the line complete (R199). -/
def execLineMiss (port : Nat) (s : State) : Out :=
  if !(s.portsOn.contains port) then done s s
  else match s.dueLine port with
  | none => done s s
  | some (f, n) =>
    if s.clk ≤ lineDeadline (s.pmapLe f.map) f port n then done s s else done s (s.lineMiss f port n)

/-- A complete line goes out. -/
def State.rowSend (s : State) (f : FrameSt) (port line : Nat) (r : LineRun) : State :=
  let words := r.segs.flatMap (fun x => x.words.getD [])
  let t := s.setFrame (f.setRow (rowKey port line) { r with segs := [], sent := true })
  if f.ports.contains port then t.sendLine port f.fs line words else t

/-- A line's last length word is written (R195, R199): its signatures take it, and within its slot it is sent
late up to its deadline. -/
def State.rowComplete (s : State) (f : FrameSt) (port line : Nat) (r : LineRun) : State :=
  let words := r.segs.flatMap (fun x => x.words.getD [])
  let taps := r.segs.flatMap (fun x => x.taps)
  let r1 := { r with complete := true, sums := r.segs.flatMap (fun x => x.sums) }
  let f1 := f.setRow (rowKey port line) r1
  let s1 := (s.setFrame f1).sigLine f.fs port line words taps
  if f.nextSlot ≤ line then s1
  else if lineDeadline (s.pmapLe f.map) f port line < s.clk then s1.lineMiss f1 port line
  else ((s1.inc Reg.GRT_LINE_LATE_COUNT).raise Page.GRT 0).rowSend f1 port line r1

/-- A decoded tile fails TILE_CRC or R118 to R123 (R130). -/
def State.tileBad (s : State) (slot bank tx ty : Nat) : Bool :=
  let a := s.sheetBase slot bank
  let e := fun (o n : Nat) => s.dramLe (a + o) n
  let i := 0x80 + 16 * (ty * e 0x18 2 + tx)
  if e 0x18 2 ≤ tx ∨ e 0x1A 2 ≤ ty then true
  else if e (i + 4) 2 = 0 then false
  else (s.tileOf a tx ty).isNone

/-- TILE_ERR: the tiles that an engine decodes and that fail are omitted from the frame (R130). The answer is
the state and the layers and tiles left out. -/
def State.checkTiles (s : State) (f : FrameSt) (l : List (Nat × Nat × Nat × Bool)) :
    State × List (Nat × Nat × Nat) :=
  l.foldl (fun (x : State × List (Nat × Nat × Nat)) (t : Nat × Nat × Nat × Bool) =>
    match f.atlasSlot t.1 with
    | none => x
    | some a => match f.sheetBank a with
      | none => x
      | some b =>
        if t.2.2.2 || x.1.tileBad a b t.2.1 t.2.2.1 then
          (x.1.tileErr a t.2.1 t.2.2.1 t.2.2.2, (t.1, t.2.1, t.2.2.1) :: x.2)
        else x) (s, [])

/-- A segment's layers and block columns that lose their samples: those whose layer reads sources (R214, R215). -/
def FrameSt.darkAdd (f : FrameSt) (by_ : Nat) (l : List (Nat × Nat)) : List (Nat × Nat × Nat) :=
  (l.filter (fun x => (f.desc x.1).isSome && (f.atlasSlot x.1).isNone && (f.setOf x.1).isNone)).map
    (fun x => (x.1, x.2, by_))

/-- Bits of the layers of a list. -/
def layerMask (l : List Nat) : Nat := l.foldl (fun (m k : Nat) => m ||| 2 ^ k) 0

/-- The engine that finishes a segment takes the first one of the line that has no engine (R212). -/
def takeOrphan (col e clk : Nat) : List SegRun → List SegRun
  | [] => []
  | x :: xs => if x.engine.isNone && x.words.isNone then { x with col := col, engine := some e, start := clk } :: xs
    else x :: takeOrphan col e clk xs

/-- SEGMENT_DONE: an engine finishes a segment and writes its length word (R195). -/
def execSegmentDone (fs port line seg : Nat) (data : SegData) (s : State) : Out :=
  match s.frameOf fs with
  | none => done s s
  | some f => match f.row (rowKey port line) with
    | none => done s s
    | some r => match r.segs[seg]? with
      | none => done s s
      | some x => match x.engine with
        | none => done s s
        | some e =>
          if x.words.isSome then done s s
          else
            let by_ := (s.portF port 2 2 + line) / 8
            let (s1, cut) := s.checkTiles f data.tiles
            let pois := f.darkAdd by_ data.poison
            let lost := f.darkAdd by_ data.lost
            let f1 := { f with
              dark := pois ++ lost ++ f.dark
              poison := f.poison ||| layerMask (pois.map Prod.fst)
              stale := f.stale ||| layerMask (lost.map Prod.fst)
              part := f.part ||| layerMask (cut.map Prod.fst) }
            let outs := s1.segRays f1 cut port line x.first x.count data.rays
            let uv := s1.mapU * s1.mapV
            let y := { x with
              words := some (outs.map RayOut.word), taps := outs.map RayOut.tap
              sums := segSums uv outs (x.count / 8) 0 }
            let segs := takeOrphan x.col e s1.clk (r.segs.set seg y)
            let r1 := { r with segs := segs }
            let f2 := { f1 with
              overflow := f1.overflow || outs.any RayOut.tooMany
              busy := aupd 0 x.col (· + (s1.clk - x.start)) f1.busy }.setRow (rowKey port line) r1
            let s2 := (s1.setFrame f2).addCnt (Reg.GCOL_LS_ECC_COUNT x.col) data.ecc
            done s (if segs.all (fun z => z.words.isSome) then s2.rowComplete f2 port line r1 else s2)

/-- Frames whose last line is synthesised, sent and worn leave. -/
def State.dropFrames (s : State) : State :=
  { s with seq := { s.seq with frames := s.seq.frames.filter (fun f =>
    !(f.synth && f.worn && decide (f.lines ≤ f.nextSlot) && f.rows.all (fun x => x.2.sent || x.2.missed))) } }

/-- The latencies of the pictures a frame shows first, at its slot 0 (R237, R240, R400). -/
def State.noteLatencies (s : State) (l : List (Nat × Nat)) : State :=
  let s1 := l.foldl (fun (t : State) (x : Nat × Nat) => t.telLatency x.1 (t.now - x.2)) s
  let c0 := (l.filter (fun x => decide (x.1 = 0))).map (fun x => s.now - x.2)
  let top := c0.foldl max 0
  let s2 := s1.wr Reg.SEQ_C0_LAT_MAX (max (s1.fld Reg.SEQ_C0_LAT_MAX 15 0) (min (ceilDiv top 1000) 0xFFFF))
  if c0.any (fun t => decide (2000000 < t)) then (s2.inc Reg.SEQ_C0_OVER_COUNT).raise Page.SEQ 6 else s2

/-- Slot 0 of the first frame after bring-up is emitted (R350). -/
def State.firstLight (s : State) : State :=
  if s.bitAt Reg.BOOT_STATUS 2 then s
  else ((s.setBit Reg.BOOT_STATUS 2 true).wr Reg.BOOT_FIRST_LIGHT_US ((s.clk - s.moor.t0) / 1000)).raise Page.BOOT 2

/-- Slot 0: FRAME_MARK on every driven port, latencies, first light, panel output, and the end of a crossing's
gap (R188, R235, R237, R249, R350). -/
def State.slotZero (s : State) (f : FrameSt) : State × FrameSt :=
  let ports := s.drivenPorts
  let f1 := { f with ports := ports, fresh := [] }
  let s1 := ports.foldl (fun (t : State) (p : Nat) => t.sendMark p f1) (s.setFrame f1)
  let s2 := ((s1.noteLatencies f.fresh).firstLight).setOutput true
  (match s2.seq.crossFrom with
    | some t => { s2.wr Reg.SEQ_CROSS_GAP ((s2.clk - t) / 1000) with seq := { s2.seq with crossFrom := none } }
    | none => s2, f1)

/-- SLOT_START: slot `slot` of frame `fs` begins (R196, R218, R235, R251). `leads` are the columns' leads,
`planeLead` the smallest PLANE lead. -/
def execSlotStart (fs slot : Nat) (leads : List (Nat × Nat)) (planeLead : Nat) (s : State) : Out :=
  match s.frameOf fs with
  | none => done s s
  | some f =>
    if f.nextSlot ≠ slot ∨ f.lines ≤ slot ∨ s.clk < f.slotStart slot ∨ s.shut = true then done s s
    else
      let (s0, f0) := if slot = 0 then s.slotZero f else (s, f)
      let s1 := if slot = 0 then s0
        else (s0.portsOn.filter (fun p => decide (slot ≤ s0.portF p 6 2))).foldl (fun (t : State) (p : Nat) =>
          match t.dueLine p with
          | some (g, n) => if g.fs = fs then t.lineMiss g p n else t
          | none => t) s0
      let f1 := (s1.frameOf fs).getD f0
      let f2 := s1.beginLines { f1 with nextSlot := slot + 1 } (slot + 1) s1.clk
      let s2 := (s1.portsOn.filter (fun p => decide (slot < s1.portF p 6 2))).foldl (fun (t : State) (p : Nat) =>
        match t.frameOf fs with
        | some g => (match g.row (rowKey p slot) with
          | some r => if r.complete && !r.sent then t.rowSend g p slot r else t
          | none => t)
        | none => t) (s1.setFrame f2)
      done s ((s2.noteLeads leads planeLead slot f.lines f.tL).dropFrames)

/-- Every line of the frame is synthesised or missed. -/
def State.allLines (s : State) (f : FrameSt) : Bool :=
  s.portsOn.all (fun p => (List.range (s.portF p 6 2)).all (fun n =>
    match f.row (rowKey p n) with
    | some r => r.complete || r.missed
    | none => false))

/-- The frame's drive goes into the ledger over its period `t`; a missed line counts as in the previous frame
(R204, R380). -/
def State.wearFrame (s : State) (f : FrameSt) (t : Nat) : State :=
  let lines := f.rows.map (fun x => (x.1, if x.2.missed then
    ((s.wear.lines.find? (fun y => decide (y.1 = x.1))).map Prod.snd).getD [] else x.2.sums))
  (s.wearAccumulate lines t).setFrame { f with worn := true }

/-- Period of a frame whose next gate has fired. -/
def State.framePeriod (s : State) (f : FrameSt) : Option Nat :=
  (s.seq.frames.find? (fun g => decide (g.fs = (f.fs + 1) % 2 ^ 32))).map (fun g => g.gate - f.gate)

/-- The frame report and what else ends with a frame's synthesis (R104, R129, R157, R162, R168, R169, R176). -/
def State.frameEnd (s : State) (f : FrameSt) : State :=
  let s1 := s.setFrame { f with synth := true }
  let s2 := (((s1.wr Reg.LAY_FRAME_SEQ f.fs).wr Reg.LAY_FRAME_STALE f.stale).wr Reg.LAY_FRAME_PARTIAL f.part).wr
    Reg.LAY_FRAME_POISON f.poison
  let s3 := if f.stale ≠ 0 then s2.raise Page.LAY 2 else s2
  let s4 := if f.poison ≠ 0 then s3.raise Page.LAY 3 else s3
  let s5 := (if f.overflow then s4.inc Reg.LAY_SAMPLE_OVF_COUNT else s4).telStale f.stale
  let s6 := ((((s5.releaseSlots f.fs).sheetDrained f.fs).insetDrained f.fs).cartDrained f.fs).sigFrameEnd f.fs
  (List.range 32).foldl (fun (t : State) (c : Nat) =>
    let n := (t.col c).active.length * f.lines * f.tL
    t.wr (Reg.GCOL_UTIL c) (if n = 0 then 0 else min 1000 (1000 * aget 0 c f.busy / n))) s6

/-- FRAME_LAST_LINE: the last line of a frame is synthesised (R104, R157, R380). Its drive waits for its period if
the next gate has not fired. -/
def execFrameLastLine (fs : Nat) (s : State) : Out :=
  match s.frameOf fs with
  | none => done s s
  | some f =>
    if f.synth || !(s.allLines f) then done s s
    else
      let s1 := s.frameEnd f
      let f1 := { f with synth := true }
      done s (match s1.framePeriod f1 with
        | some t => (s1.wearFrame f1 t).dropFrames
        | none => s1.dropFrames)

/-- At a gate, the drive of the frame that is synthesised goes into the ledger with its period. -/
def State.wearGateFrames (s : State) (now : Nat) : State :=
  (s.seq.frames.filter (fun f => f.synth && !f.worn)).foldl (fun (t : State) (f : FrameSt) =>
    t.wearFrame f (now - f.gate)) s

end Sys2Proof.Machine
end

