-- ==== Sys2Proof/Machine/BootIndex.lean ====
section
/-! DEFINITION. The boot index of each Landing's flash, failure counting and BOOT_OK (R361 to R364, R374). -/

namespace Sys2Proof.Machine

/-- BOOT_x_STATE, BOOT_x_REASON and BOOT_x_IMAGE of a Landing. -/
def bootStateReg (l : Landing) : Nat := match l with | .a => Reg.BOOT_A_STATE | .b => Reg.BOOT_B_STATE
/-- BOOT_x_REASON. -/
def bootReasonReg (l : Landing) : Nat := match l with | .a => Reg.BOOT_A_REASON | .b => Reg.BOOT_B_REASON
/-- BOOT_x_IMAGE. -/
def bootImageReg (l : Landing) : Nat := match l with | .a => Reg.BOOT_A_IMAGE | .b => Reg.BOOT_B_IMAGE

/-- Flash address of sector `k` of the boot index (R370). -/
def idxSector (k : Nat) : Nat := 0x2000000 + 0x10000 * k

/-- The BOOT record at place `i` of a sector: SEQ and payload; none where it does not verify (R372). -/
def State.idxRec (s : State) (l : Landing) (k i : Nat) : Option (Nat × List Byte) :=
  let bs := s.flashBytes l (idxSector k + 32 * i) 32
  let r : LogRec := { ty := 1, seq := leNat ((bs.drop 8).take 4), payload := bs.drop 16 }
  if bs = recBytes r then some (r.seq, r.payload) else none

/-- The records of a sector, oldest first; at most 2,048 fit. -/
def State.idxRecs (s : State) (l : Landing) (k : Nat) : Nat → List (Nat × List Byte)
  | 0 => []
  | n + 1 => match s.idxRec l k (2047 - n) with
    | some r => r :: s.idxRecs l k n
    | none => []

/-- The sector is erased: no byte in it is listed, an unlisted one reads 0xFF. -/
def State.idxErased (s : State) (l : Landing) (k : Nat) : Bool :=
  (s.flash l).all (fun c => decide (c.1 / 0x10000 ≠ idxSector k / 0x10000))

/-- The sector that holds the newest valid record, with its records; sector 0 when there is none. -/
def State.idxCurrent (s : State) (l : Landing) : Nat × List (Nat × List Byte) :=
  (List.range 4).foldl (fun (best : Nat × List (Nat × List Byte)) (k : Nat) =>
    let rs := s.idxRecs l k 2048
    match rs.getLast?, best.2.getLast? with
    | some r, some b => if seqNewer r.1 b.1 then (k, rs) else best
    | some _, none => (k, rs)
    | none, _ => best) (0, [])

/-- PHASE of a boot record: 1 ATTEMPT, 2 OK, 3 FAIL, 4 CLEAR. -/
def bootPhase (r : Nat × List Byte) : Nat := leNat (r.2.take 2)

/-- The newest OK or CLEAR record and everything after it. -/
def sinceOutcome (rs : List (Nat × List Byte)) : List (Nat × List Byte) :=
  rs.foldl (fun (acc : List (Nat × List Byte)) (r : Nat × List Byte) =>
    if bootPhase r = 2 ∨ bootPhase r = 4 then [r] else acc ++ [r]) []

/-- Write records into a sector from place `i` on. -/
def State.idxWrite (s : State) (l : Landing) (k i : Nat) (rs : List (Nat × List Byte)) : State :=
  s.flashPut l (idxSector k + 32 * i) (rs.flatMap (fun r => recBytes { ty := 1, seq := r.1, payload := r.2 }))

/-- Append a BOOT record to a Landing's boot index; a full sector is followed by the next erased one, which takes
the records since the newest outcome first (R374). -/
def State.bootRecord (s : State) (l : Landing) (phase cause stage detail : Nat) : State :=
  let (k, rs) := s.idxCurrent l
  let fw := match (s.land l).image with | some i => (i.fw, i.svn) | none => (0, 0)
  let q := match rs.getLast? with | some r => (r.1 + 1) % 2 ^ 32 | none => 0
  let new := (q, bootPayload phase cause stage detail fw.1 fw.2)
  if rs.length < 2048 then s.idxWrite l k rs.length [new]
  else match [1, 2, 3].find? (fun j => s.idxErased l ((k + j) % 4)) with
    | some j => s.idxWrite l ((k + j) % 4) 0 (sinceOutcome rs ++ [new])
    | none => s

/-- Used sectors are erased so that at least two are erased at all times (R374): after BOOT_OK and in Slipway mode,
the sectors beside the current one that are not erased, oldest first. -/
def State.idxTidy (s : State) (l : Landing) : State :=
  let k := (s.idxCurrent l).1
  let used := [1, 2, 3].filter (fun j => !(s.idxErased l ((k + j) % 4)))
  (used.take (used.length - 1)).foldl (fun (t : State) (j : Nat) => t.flashErase l (idxSector ((k + j) % 4)) 65536) s

/-- Failure count of a Landing: ATTEMPT records after its last OK or CLEAR record (R363). -/
def State.failCount (s : State) (l : Landing) : Nat :=
  ((sinceOutcome (s.idxCurrent l).2).filter (fun r => decide (bootPhase r = 1))).length

/-- The newest boot record is an ATTEMPT without an outcome (R363). -/
def State.interrupted (s : State) (l : Landing) : Bool :=
  match (s.idxCurrent l).2.getLast? with
  | some r => decide (bootPhase r = 1)
  | none => false

/-- BOOT_OK of a Landing. -/
def State.bootOkSet (s : State) (l : Landing) : Bool := s.bitAt (bootStateReg l) 0

/-- Firmware sets BOOT_OK and appends a BOOT record of phase OK (R362); the failure count is 0 again. -/
def State.bootOk (s : State) (l : Landing) : State :=
  if s.bootOkSet l then s
  else
    let t := (s.setBit (bootStateReg l) 0 true).setFld (bootStateReg l) 3 2 0
    ((t.setLand l { t.land l with attemptAt := none }).bootRecord l 2 0 8 0).idxTidy l

end Sys2Proof.Machine
end

