-- ==== Sys2Proof/Machine/Copy.lean ====
section
/-! DEFINITION. The state copy to the standby, SYNCED, NO_STANDBY and the gap mode (R332 to R334, R339, R344,
R345). -/

namespace Sys2Proof.Machine

/-- The pages with frame-scoped registers. -/
def scopedPages : List Nat := [Page.MOOR, Page.LAY, Page.WBK, Page.SIG, Page.GRT, Page.SEQ]

/-- Layers with a pending commit, and when it was made. -/
def State.pendingLayers (s : State) : List (Nat × Nat) :=
  s.lay.layers.filterMap (fun x => x.2.pendAt.map (fun t => (x.1, t)))

/-- The copy that the active Landing sends at a gate (R332). -/
def State.copyNow (s : State) (fmt : Nat) : StateCopy :=
  { fs := s.frameSeq, sentAt := s.clk, fmt := fmt
    written := scopedPages.flatMap s.snapshot, pend := s.pend, commits := s.seq.commits
    layers := s.pendingLayers, layd := s.mem.layd, writes := s.moor.writes
    slots := (List.range 64).filter (fun k => s.bitAt (Reg.ATL_SLOT_STATE k) 2) }

/-- The hold of host requests ends; what waited for the Logbook is appended (R23, R463). -/
def State.endHold (s : State) : State :=
  if s.moor.hold then
    ({ s with moor := { s.moor with hold := false, swapAtGate := false } }).flushWaiting
  else s

/-- COPY_ABORT: a copy that fails its CRC or is interrupted is discarded and counted; a planned swap whose copy it
was waits for a later gate (R333, R340). -/
def State.copyAbort (s : State) : State :=
  if s.moor.sending.isNone then s
  else
    let t := { s with moor := { s.moor with sending := none } }
    let u := ((t.setBit Reg.HAWS_STATUS 2 false).inc Reg.HAWS_COPY_ABORT_COUNT).raise Page.HAWS 0
    if u.moor.swapAtGate then u.endHold else u

/-- SYNCED of a Landing, in both registers that show it (R333). -/
def State.setSynced (s : State) (l : Landing) (b : Bool) : State :=
  let t := (s.setBit (Reg.LND_STATUS l.idx) 3 b).revertWatch
  if t.holder = some l then t else t.setBit Reg.MOOR_STATUS 4 b

/-- A standby is SYNCED while its newest copy is from one of the two most recent gates (R333). -/
def State.syncCheck (s : State) : State :=
  match s.standby with
  | none => s
  | some l =>
    if !(s.synced l) then s
    else match (s.land l).copy with
      | some c => if c.fs = s.frameSeq ∨ (c.fs + 1) % 2 ^ 32 = s.frameSeq then s else s.setSynced l false
      | none => s.setSynced l false

/-- NO_STANDBY: the Landing without the token is not SYNCED, outside the 15 s after its reset and the time from a
planned swap to the next copy (R345). -/
def State.standbyCheck (s : State) : State :=
  match s.standby with
  | none => s
  | some l =>
    let bad := !(s.synced l) && decide ((s.land l).resetAt + 15000000000 ≤ s.clk) && !s.moor.afterSwap
    let t := if bad && !(s.bitAt Reg.MOOR_STATUS 5) then s.raise Page.MOOR 5 else s
    t.setBit Reg.MOOR_STATUS 5 bad

/-- The copy of the gate begins, when the Hawser's copy lane is up and the other Landing is standby; one still under
way is interrupted (R225, R332). -/
def State.copyStart (s : State) : State :=
  let t := s.copyAbort
  match t.active with
  | none => t
  | some l =>
    if !(t.bitAt Reg.HAWS_STATUS 0) ∨ t.landState l.other ≠ 3 then t
    else
      let fmt := match (t.land l).image with | some i => i.copyFmt % 65536 | none => 0
      ({ t with moor := { t.moor with sending := some (t.copyNow fmt) } }).setBit Reg.HAWS_STATUS 2 true

/-- A mode crossing runs. -/
def State.crossing (s : State) : Bool := decide (s.fld Reg.SEQ_MODE_STATUS 2 1 = 2)

/-- A planned swap that is wanted starts at this gate when the standby is SYNCED and its copy is under way; host
requests bound for a Landing are held from now (R340). -/
def State.swapStart (s : State) : State :=
  match s.standby with
  | none => s
  | some l =>
    if s.moor.swapWant = 0 ∨ (s.moor.swapWant = 3 ∧ s.revertOk = false) ∨ !(s.synced l) ∨ s.crossing ∨ s.moor.sending.isNone then s
    else { s with moor := { s.moor with swapAtGate := true, hold := true } }

end Sys2Proof.Machine
end

