-- ==== Sys2Proof/Machine/Ras.lean ====
section
/-! DEFINITION. Memory reliability: errors, poison, scrubbing, rank migration, the boot rank maps (R309, R313 to
R325). -/

namespace Sys2Proof.Machine

/-- Spare state of a group: 0 READY, 1 MIGRATING, 2 USED, 3 FAILED. -/
def State.spareSt (s : State) (g : Nat) : Nat := s.fld (Reg.RAS_GRP_STATE g) 1 0

/-- A SPARE_RANK record (R373): physical rank, logical slot, phase. -/
def State.rankRecord (s : State) (r slot phase : Nat) : State :=
  s.logRecord 4 ([r, slot, phase, s.frameSeq].flatMap (leBytes 4))

/-- Logical slot of a physical rank. -/
def State.slotOfRank (s : State) (r : Nat) : Nat :=
  ((List.range 16).find? (fun k => decide (s.slotRank (r / 16) k = r % 16))).getD 15

/-- A rank of a group whose spare is not READY is poisoned in place (R324). -/
def State.unspared (s : State) (r : Nat) : State :=
  let g := r / 16
  let t := if s.bitAt (Reg.RAS_GRP_STATE g) 2 then s else s.raise Page.RAS 3
  ((t.setBit Reg.RAS_STATUS (8 + g) true).setBit (Reg.RAS_GRP_STATE g) 2 true).setRank r
    { t.rank r with inPlace := true }

/-- MIG_START: a rank is taken out of service (R320); during a crossing it waits for its end (R236). -/
def State.takeOut (s : State) (r : Nat) : State :=
  let g := r / 16
  let x := s.rank r
  if decide (127 < r) || x.out || x.inPlace || decide (s.slotOfRank r = 15) then s
  else if s.spareSt g ≠ 0 then s.unspared r
  else if s.crossing then
    { s with ram := { s.ram with migWait := if s.ram.migWait.contains r then s.ram.migWait else s.ram.migWait ++ [r] } }
  else
    let k := s.slotOfRank r
    let s1 := s.setMemGroup g { s.memGroup g with mig := some { slot := k, old := r, copied := false } }
    let s2 := ((s1.setFld (Reg.RAS_GRP_STATE g) 1 0 1).setFld (Reg.RAS_GRP_STATE g) 6 3 k).setFld
      (Reg.RAS_GRP_STATE g) 17 8 0
    ((s2.setBit Reg.RAS_STATUS g true).setRank r { x with out := true }).rankRecord r k 2

/-- The migrations that waited for the end of a crossing start (R236). -/
def State.startWaiting (s : State) : State :=
  s.ram.migWait.foldl (fun (t : State) (r : Nat) => t.takeOut r) { s with ram := { s.ram with migWait := [] } }

/-- UE: a line is found uncorrectable (R318). `source`: 0 demand read, 1 patrol, 2 migration copy, 3 injected, which
takes no rank out of service (R325). -/
def State.lineUe (s : State) (l source : Nat) : State :=
  let a := 64 * l
  let r := s.rankOf a
  let h := s.home a
  let s1 := ((s.setLine l 3).inc Reg.RAS_UE_COUNT).setRank r { s.rank r with ue := (s.rank r).ue + 1 }
  let s2 := (((s1.wr Reg.RAS_UE_ADDR_LO a).wr Reg.RAS_UE_ADDR_HI
    (a / 2 ^ 32 % 256 + r * 0x100 + h.2.1 * 0x8000 + source * 0x80000)).wr Reg.RAS_UE_FRAME s.frameSeq).raise Page.RAS 0
  let s3 := (s2.telUe (r / 16)).faultKind Page.RAS 33 (a / 64) r
  if source = 3 then s3
  else if (s3.rank r).inPlace then s3.unspared r
  else s3.takeOut r

/-- A corrected error on a line: it is counted, scrubbed, and compared with the limit (R313, R315, R320). -/
def State.lineCe (s : State) (l : Nat) : State :=
  let r := s.rankOf (64 * l)
  let x := s.rank r
  let win := 3600000000000 * s.rd Reg.RAS_CE_WINDOW
  let times := s.clk :: x.ceTimes.filter (fun t => decide (s.clk < t + win))
  let s1 := ((s.setLine l 0).inc Reg.RAS_CE_COUNT).setRank r { x with ce := min (x.ce + 1) 0xFFFFFFFF, ceTimes := times }
  let s2 := s1.telCe (r / 16)
  if times.length < s.rd Reg.RAS_CE_LIMIT then s2
  else
    let s3 := s2.raise Page.RAS 1
    if s.bitAt Reg.RAS_CTRL 1 then s3.takeOut r else s3

/-- A line is read and found with `symbols` symbols in error, beside what an injection stored (R313, R314). -/
def State.lineRead (s : State) (l symbols source : Nat) : State :=
  let st := s.line l
  if st = 3 then s.inc Reg.RAS_POISON_READS
  else if st = 2 then s.lineUe l 3
  else if 2 ≤ symbols + st then s.lineUe l source
  else if symbols + st = 1 then s.lineCe l
  else s

/-- MEM_READ_RETURN: a read returns, checked by inline ECC (R313 to R318); the latency of an RT read is kept. -/
def execMemReadReturn (addr symbols : Nat) (s : State) : Out :=
  if s.capacity < addr + 1 then done s s
  else
    let l := addr / 64
    let g := (s.home addr).1
    let m := s.memGroup g
    match m.reads.find? (fun x => decide (x.line = l)) with
    | none => done s s
    | some x =>
      let s1 := s.setMemGroup g { m with reads := m.reads.erase x }
      let a := Reg.DMG_RT_LAT_MAX g
      let s2 := if x.cls = clsRt then s1.wr a (max (s1.rd a) (min (s.clk - x.at_) 0xFFFFFFFF)) else s1
      done s (s2.lineRead l symbols 0)

/-- Lines of one rank's data part. -/
def State.rankLines (s : State) : Nat := s.rankData / 64

/-- The patrol runs in the group (R316, R317). -/
def State.patrolOn (s : State) (g : Nat) : Bool :=
  s.bitAt Reg.RAS_CTRL 0 && decide (s.capacity ≠ 0) && (s.memGroup g).mig.isNone && !(s.selfRefresh g)

/-- RAS_SCRUB_PROGRESS: the share of the period's lines visited (R317). -/
def State.scrubProgress (s : State) : State :=
  let n := ((List.range 8).map (fun g => (s.memGroup g).visited)).sum
  let all := 120 * s.rankLines
  s.wr Reg.RAS_SCRUB_PROGRESS (if all = 0 then 0 else min 1000 (1000 * n / all))

/-- PATROL_SCRUB: the patrol reads the next line of a group, with `symbols` in error; `spare` is the outcome of the
pattern test of the group's unused spare where it ends now (R316). -/
def execPatrolScrub (group symbols : Nat) (spare : Option Bool) (s : State) : Out :=
  let m := s.memGroup group
  if 7 < group ∨ !(s.patrolOn group) ∨ 15 * s.rankLines ≤ m.visited then done s s
  else
    let slot := m.visited / s.rankLines
    let off := 64 * (m.visited % s.rankLines)
    let l := addrOf s.grain s.rankData (s.bitAt Reg.DMG0_MAP_CFG 4) group slot off / 64
    let s1 := ((s.setMemGroup group { m with visited := m.visited + 1 }).scrubProgress).lineRead l symbols 1
    done s (if spare = some false ∧ s1.spareSt group = 0 then
        ((s1.setFld (Reg.RAS_GRP_STATE group) 1 0 3).rankRecord (16 * group + s1.slotRank group 15) 15 4).raise Page.RAS 4
      else s1)

/-- SCRUB_PERIOD_END: lines left unvisited set SCRUB_LATE, and the next period starts at once (R317). -/
def execScrubPeriodEnd (s : State) : Out :=
  if !(s.bitAt Reg.RAS_CTRL 0) ∨ s.clk < s.ram.scrubFrom + 3600000000000 * s.ram.scrubHours then done s s
  else
    let late := (List.range 8).any (fun g => decide ((s.memGroup g).visited < 15 * s.rankLines))
    let s1 := { s with ram := { s.ram with
      scrubFrom := s.clk, scrubHours := s.rd Reg.RAS_SCRUB_PERIOD
      groups := s.ram.groups.map (fun (x : Nat × MemGroup) => (x.1, { x.2 with visited := 0 })) } }
    let s2 := (s1.wr Reg.RAS_SCRUB_PASSES (s1.rd Reg.RAS_SCRUB_PASSES + 1)).scrubProgress
    done s (if late then (s2.setBit Reg.RAS_STATUS 16 true).raise Page.RAS 5 else s2)

/-- RAS_MIG_CMD with GO may not name this rank (R325). -/
def State.migRefused (s : State) (r : Nat) : Bool :=
  (s.rank r).out || decide (s.slotOfRank r = 15) || decide (s.spareSt (r / 16) ≠ 0)

/-- A write of RAS_MIG_CMD by domain `d` (R320, R325). -/
def State.writeMigCmd (s : State) (d : Dom) (v : Nat) : State :=
  if !(bit v 31) then s.wr Reg.RAS_MIG_CMD v
  else if s.migRefused (bits v 6 0) then s.writeIgnored d Reg.RAS_MIG_CMD v
  else (s.wr Reg.RAS_MIG_CMD (clearBit v 31)).takeOut (bits v 6 0)

/-- A write of RAS_INJECT_HI: ARM arms the injection (R325). -/
def State.writeInject (s : State) (v : Nat) : State :=
  let t := s.wr Reg.RAS_INJECT_HI v
  let arm := if bit v 31 then some ((t.rd Reg.RAS_INJECT_LO / 64 * 64 + v % 256 * 2 ^ 32) / 64, bits v 29 28) else none
  { t with mem := { t.mem with inject := arm } }

/-- The lines of logical slot `k` of group `g` that are not clean. -/
def State.slotLines (s : State) (g k : Nat) : List (Nat × Nat) :=
  s.mem.lines.filter (fun x => decide ((s.home (64 * x.1)).1 = g) && decide ((s.home (64 * x.1)).2.1 = k))

/-- MIG_COPY_DONE: the copy passes the last line of the rank (R321, R322): corrected lines are clean on the spare, and
the lines `bad` that it found uncorrectable are poisoned. -/
def execMigCopyDone (group : Nat) (bad : List Nat) (s : State) : Out :=
  let m := s.memGroup group
  match m.mig with
  | none => done s s
  | some x =>
    if x.copied then done s s
    else
      let s1 := bad.foldl (fun (t : State) (l : Nat) => if t.line l = 3 then t else t.lineUe l 2) s
      let s2 := (s1.slotLines group x.slot).foldl (fun (t : State) (y : Nat × Nat) =>
        if y.2 = 1 then t.lineCe y.1 else if y.2 = 2 then t.lineUe y.1 3 else t) s1
      done s ((s2.setMemGroup group { s2.memGroup group with mig := some { x with copied := true } }).setFld
        (Reg.RAS_GRP_STATE group) 17 8 1000)

/-- MIG_MAP_SWITCH: the group's map switches atomically (R306, R322). -/
def execMigMapSwitch (group : Nat) (s : State) : Out :=
  let m := s.memGroup group
  match m.mig with
  | none => done s s
  | some x =>
    if !x.copied ∨ s.tEff < 1000 * s.rd (Reg.DMG_RT_URGENT group) then done s s
    else
      let spare := s.slotRank group 15
      let s1 := (s.setSlotRank group x.slot spare).setSlotRank group 15 (x.old % 16)
      let s2 := ((s1.setMemGroup group { m with mig := none }).setFld (Reg.RAS_GRP_STATE group) 1 0 2).setBit
        Reg.RAS_STATUS group false
      done s ((s2.rankRecord x.old x.slot 3).raise Page.RAS 2)

/-- The rank map of a group at boot from the ranks out of it (R309). -/
def State.bootRankMap (s : State) (g : Nat) : State :=
  let outs := (List.range 16).filter (fun k => (s.rank (16 * g + k)).out)
  let s1 := (List.range 16).foldl (fun (t : State) (k : Nat) => t.setSlotRank g k k) s
  let bare (t : State) (st : Nat) : State :=
    (((t.setFld (Reg.RAS_GRP_STATE g) 1 0 st).setBit (Reg.RAS_GRP_STATE g) 2 true).setBit Reg.RAS_STATUS (8 + g)
      true).setBit Reg.DMG0_TRAIN_STATUS (8 + g) true
  match outs with
  | [] => s1
  | [15] => bare s1 3
  | k :: _ => bare (((s1.setSlotRank g k 15).setSlotRank g 15 k).setFld (Reg.RAS_GRP_STATE g) 6 3 k) 2

/-- Two or more ranks are out in one group: memory bring-up fails (R309). -/
def State.ranksShort (s : State) (g : Nat) : Bool :=
  decide (2 ≤ ((List.range 16).filter (fun k => (s.rank (16 * g + k)).out)).length)

/-- Training wave `g` ends with the ranks `failed` of its group (R309). -/
def State.trainWave (s : State) (g : Nat) (failed : List Nat) : State :=
  let mine := failed.filter (fun r => decide (r / 16 = g) && !((s.rank r).out))
  let s1 := mine.foldl (fun (t : State) (r : Nat) =>
    (t.setRank r { t.rank r with out := true }).rankRecord r (r % 16) 1) s
  let s2 := (List.range 8).foldl (fun (t : State) (c : Nat) =>
    let a := Reg.DCH_STATUS (8 * g + c)
    (t.setBit a 0 (!(failed.contains (16 * g + 2 * c)))).setBit a 1 (!(failed.contains (16 * g + 2 * c + 1)))) s1
  let s3 := ((s2.setFld Reg.DMG0_TRAIN_STATUS 3 0 (g + 1)).setBit (Reg.DMG_STATUS g) 0 true).bootRankMap g
  if g = 7 then s3.wr Reg.DMG0_CAPACITY (120 * s3.rankData / 2 ^ 20) else s3

/-- The ranks that SPARE_RANK records retired stay out of service (R309, R323). -/
def State.restoreRanks (s : State) (l : List Nat) : State :=
  let s1 := l.foldl (fun (t : State) (r : Nat) => if r < 128 then t.setRank r { t.rank r with out := true } else t) s
  (List.range (s1.fld Reg.DMG0_TRAIN_STATUS 3 0)).foldl (fun (t : State) (g : Nat) => t.bootRankMap g) s1

end Sys2Proof.Machine
end

