-- ==== Sys2Proof/Machine/TileLink.lean ====
section
/-! DEFINITION. Tile ports: discovery, training, capability checks, the return lane and lane sparing (R37, R38, R242,
R263 to R275). -/

namespace Sys2Proof.Machine

/-- A field of a port's capability block (R266). -/
def State.capF (s : State) (p o n : Nat) : Nat :=
  (List.range n).foldr (fun (i v : Nat) => bits (s.rd (Reg.TP_CAP p ((o + i) / 4))) (8 * ((o + i) % 4) + 7)
    (8 * ((o + i) % 4)) + 256 * v) 0

/-- A line period in ns: T / lines, rounded up to whole sequencer cycles of 4 ns (R217). -/
def linePeriod (t : Nat × Nat) (lines : Nat) : Nat := if lines = 0 ∨ t.2 = 0 then 0 else 4 * ceilDiv t.1 (t.2 * lines * 4)

/-- T_cap in ns (R217). -/
def State.tCap (s : State) : Nat := min (s.mapF 0x2A 2 * 1000) 33333000

/-- The line periods that the active map's frame periods give (R267). -/
def State.linePeriods (s : State) : Nat × Nat :=
  let h := s.mapLines
  let lk := tLinkFrac (s.pmapLe s.mapBank) s.mapBits
  let least := if s.mapBits = 10 then 8333000 else 4167000
  let lo := if lk.1 ≤ least * lk.2 then (least, 1) else lk
  (linePeriod lo h, linePeriod (s.tCap, 1) h)

/-- The tile's capability block does not support the active map (R267). -/
def State.capFault (s : State) (p : Nat) : Bool :=
  let c := s.capF p
  let t := s.linePeriods
  !(bit (c 3 1) (s.mapF 0x28 1)) || decide (c 0x10 2 < s.portF p 4 2) || decide (c 0x12 2 < s.portF p 6 2) ||
    decide (c 0x14 1 < s.mapU) || decide (c 0x15 1 < s.mapV) || !(bit (c 0x16 1) (if s.mapBits = 10 then 1 else 0)) ||
    (bit (s.mapF 0x29 1) 2 && !(bit (c 0x17 1) 0)) || decide (t.1 < c 0x18 4) || decide (c 0x1C 4 < t.2)

/-- CAP_FAULT of a port (R267). -/
def State.setCapFault (s : State) (p : Nat) : State :=
  ((s.setBit64 Reg.TLG_CAP_FAULT_LO Reg.TLG_CAP_FAULT_HI p true).setBit (Reg.TP_STATUS p) 5 true).raise (Page.TP p) 4

/-- The effective class follows the expected and the declared class; a difference is reported (R37). -/
def State.checkClass (s : State) (p : Nat) : State :=
  let h := (s.tile p).declH
  let differ := decide (s.portF p 9 1 ≠ (if h then 0 else 1))
  let t := (s.setBit (Reg.TP_STATUS p) 9 (h && decide (s.portF p 9 1 = 0))).setBit64 Reg.SEQ_PMAP_CLASS_L_LO
    Reg.SEQ_PMAP_CLASS_L_HI p differ
  if differ then t.raise Page.SEQ 1 else t

/-- Data of MODE_SET for MODE_ID `m` (R263). -/
def State.modeSet (s : State) (p m : Nat) : List Byte :=
  leBytes 8 (m % 65536 + s.portF p 4 2 * 2 ^ 16 + s.portF p 6 2 * 2 ^ 29 + s.mapU * 2 ^ 42 + s.mapV * 2 ^ 47 +
    (if s.mapBits = 10 then 2 ^ 52 else 0) + (if bit (s.mapF 0x29 1) 2 then 2 ^ 53 else 0) + s.mapF 0x28 1 * 2 ^ 54)

/-- Discovery of a port begins: training of R269 (R270). -/
def State.portStart (s : State) (p : Nat) : State :=
  let s1 := s.setTile p { s.tile p with
    phase := 1, runFrom := s.clk, trainFrom := s.clk, trainOver := false, locked := none, trained := false
    spareOk := false, retired := [], swap := none, align := 0 }
  let s2 := (s1.setBit64 Reg.TLG_DISC_FAIL_LO Reg.TLG_DISC_FAIL_HI p false).setBit64 Reg.TLG_CAP_FAULT_LO
    Reg.TLG_CAP_FAULT_HI p false
  let s3 := (s2.setBit64 Reg.SEQ_PMAP_POS_FAULT_LO Reg.SEQ_PMAP_POS_FAULT_HI p false).setBit (Reg.TP_STATUS p) 5 false
  if s3.link.noRef.contains (p / 8) then s3
  else ((s3.setTx p 3).setFld (Reg.TP_STATUS p) 3 2 3).emit (.training p)

/-- The port is in steps 1 to 6 of R270. -/
def State.inDisc (s : State) (p : Nat) : Bool := decide (1 ≤ (s.tile p).phase) && decide ((s.tile p).phase ≤ 3)

/-- The next wave starts with the ports that wait for it; without any, the run ends (R270, R275). -/
def State.waveNext (s : State) : State :=
  match s.link.waiting with
  | [] =>
    let t := ((s.setBit Reg.TLG_DISC_STATUS 0 false).setBit Reg.TLG_DISC_STATUS 3 true).raise Page.TLG 0
    { t with link := { t.link with wave := [] }, moor := { t.moor with discDone := true } }
  | p :: _ =>
    let w := p / 16
    let now := s.link.waiting.filter (fun q => decide (q / 16 = w))
    let t := { s with link := { s.link with
      wave := now, waiting := s.link.waiting.filter (fun q => !(decide (q / 16 = w))) } }
    now.foldl (fun (u : State) (q : Nat) => u.portStart q) (t.setFld Reg.TLG_DISC_STATUS 2 1 w)

/-- A port left steps 1 to 6: a wave without such a port ends. -/
def State.waveCheck (s : State) : State :=
  let s1 := match s.link.single with
    | some p => if s.inDisc p then s else { s with link := { s.link with single := none } }
    | none => s
  if s1.bitAt Reg.TLG_DISC_STATUS 0 && s1.link.wave.all (fun p => !(s1.inDisc p)) then s1.waveNext else s1

/-- A discovery run over the enabled ports that are not driven (R270). -/
def State.discover (s : State) : State :=
  if s.bitAt Reg.TLG_DISC_STATUS 0 then s
  else
    let ps := s.portsOn.filter (fun p => !(s.driven p))
    let t := { s with link := { s.link with waiting := ps, wave := [] } }
    ((t.setBit Reg.TLG_DISC_STATUS 0 true).setBit Reg.TLG_DISC_STATUS 3 false).waveNext

/-- TLG_DISCOVER.GO (R270). -/
def State.writeDiscover (s : State) (v : Nat) : State := if bit v 0 then s.discover else s

/-- Training succeeds with 16 or 15 locked lanes (R245, R269); CAP_REQ follows. -/
def State.trained (s : State) (p lock : Nat) : State :=
  let off := (List.range 16).filter (fun k => !(bit lock k))
  let ok (t : State) (spare : Nat) (good : Bool) : State :=
    let u := (t.firstLaneMap p spare).setTile p { t.tile p with
      phase := 2, trained := true, spareOk := good, retired := if good then [] else [spare]
      rate := t.mapF 0x28 1, winFrom := t.clk, sums := [], statusAt := t.clk }
    (((u.setBit (Reg.TP_STATUS p) 6 false).setBit (Reg.TP_STATUS p) 7 false).setBit (Reg.TP_STATUS p) 10 false)
  match off with
  | [] => ok s (s.portF p 0xC 1) true
  | [k] => ok s k false
  | _ => s

/-- The training of a port is judged once its time is over and a STATUS reported the locked lanes. -/
def State.trainJudge (s : State) (p : Nat) : State :=
  let t := s.tile p
  match t.locked with
  | some m => if t.trainOver ∧ t.phase = 1 then
      let u := s.trained p m
      if (u.tile p).phase = 2 then u.sendMgmt p 1 [] else u
    else s
  | none => s

/-- TRAIN_TIME_END: TLG_TRAIN_TIME expires (R269). -/
def execTrainTimeEnd (port : Nat) (s : State) : Out :=
  let t := s.tile port
  if t.phase ≠ 1 ∨ s.clk < t.trainFrom + 1000000 * s.rd Reg.TLG_TRAIN_TIME ∨ s.link.noRef.contains (port / 8) then done s s
  else done s ((s.setTile port { t with trainOver := true }).trainJudge port)

/-- An RMSG whose CRC fails is discarded and counted (R265). -/
def State.msgErr (s : State) (p : Nat) : State := s.incFld (Reg.TP_BK_STATUS p) 15 8

/-- The port stays trained but undriven: its lanes are in SLEEP (R38, R267). -/
def State.undriven (s : State) (p : Nat) : State :=
  (((s.setTile p { s.tile p with phase := 4 }).setDriven p false).setTx p 1).waveCheck

/-- RMSG_CAP: the capability block arrives; identifier, class and capabilities are checked (R37, R38, R266, R267). -/
def execRmsgCap (port : Nat) (crcOk : Bool) (block : List Byte) (s : State) : Out :=
  if !crcOk then done s (s.msgErr port)
  else if (s.tile port).phase ≠ 2 then done s s
  else
    let s1 := (List.range 16).foldl (fun (t : State) (i : Nat) =>
      t.wr (Reg.TP_CAP port i) (leNat ((block.drop (4 * i)).take 4))) s
    let s2 := (s1.setTile port { s1.tile port with declH := decide (s1.capF port 2 1 = 0) }).checkClass port
    let uid := s2.portF port 0x10 8
    let pos := decide (uid ≠ 0) && decide (uid ≠ s2.capF port 4 8)
    let s3 := s2.setBit64 Reg.SEQ_PMAP_POS_FAULT_LO Reg.SEQ_PMAP_POS_FAULT_HI port pos
    if s3.capFault port then done s ((s3.setCapFault port).undriven port)
    else done s ((s3.setTile port { s3.tile port with phase := 3 }).sendMgmt port 2 (s3.modeSet port s3.modeId))

/-- RMSG_MODE_ACK: the tile accepts the mode and the port is driven from the next FRAME_MARK, or stays dark for its position
fault, or it has a capability fault (R38, R267, R270). -/
def execRmsgModeAck (port : Nat) (crcOk : Bool) (modeId : Nat) (accept : Bool) (s : State) : Out :=
  if !crcOk then done s (s.msgErr port)
  else
    let s1 := s.wr (Reg.TP_MODE_ACK port) (modeId % 65536 + (if accept then 65536 else 0))
    let ph := (s.tile port).phase
    if ph < 3 then done s s1
    else if !accept then done s ((s1.setCapFault port).undriven port)
    else if ph ≠ 3 then done s s1
    else if s1.misplaced port then done s (s1.undriven port)
    else done s ((s1.drive port).waveCheck)

/-- RMSG_SWAP_ACK acknowledges a lane swap, which applies with or without it (R271). -/
def execRmsgSwapAck (port : Nat) (crcOk : Bool) (s : State) : Out := done s (if crcOk then s else s.msgErr port)

/-- A saturating 16-bit lane error count. -/
def State.addLaneErr (s : State) (p k n : Nat) : State :=
  let a := Reg.TP_LANE_ERR p (k / 2)
  let hi := 16 * (k % 2) + 15
  s.setFld a hi (hi - 15) (min (s.fld a hi (hi - 15) + n) 0xFFFF)

/-- RMSG_STATUS (R265): lane lock, temperature, lane errors and drive figures; BK_TIMEOUT clears. -/
def execRmsgStatus (port : Nat) (st : TileStatus) (s : State) : Out :=
  if !st.crcOk then done s (s.msgErr port)
  else
    let t := s.tile port
    let s1 := s.setTile port { t with
      statusAt := s.clk
      locked := if t.phase = 1 then some (st.laneLock % 65536) else t.locked
      sums := st.laneErr.zipIdx.foldl (fun (m : List (Nat × Nat)) (x : Nat × Nat) => aupd 0 x.2 (· + x.1) m) t.sums }
    let s2 := (st.laneErr.take 16).zipIdx.foldl (fun (u : State) (x : Nat × Nat) => u.addLaneErr port x.2 x.1) s1
    let s3 := ((s2.setBit (Reg.TP_STATUS port) 10 false).setFld (Reg.TP_STATUS port) 12 11 st.state).wr
      (Reg.TP_TILE_TEMP port) (st.temp % 65536)
    done s ((s3.wr (Reg.TP_TILE_DRIVE port) (st.peak % 65536)).trainJudge port)

/-- Return supervision of the port is suppressed (R397). -/
def State.bkQuiet (s : State) (p : Nat) : Bool := decide (s.clk < aget 0 p s.bmk.quietUntil)

/-- BK_TIMEOUT: no valid STATUS for 5 ms (R265). -/
def execBkTimeout (port : Nat) (s : State) : Out :=
  let t := s.tile port
  if !t.trained ∨ s.clk ≤ t.statusAt + 5000000 ∨ s.bkQuiet port ∨ s.bitAt (Reg.TP_STATUS port) 10 then done s s
  else done s ((s.setBit (Reg.TP_STATUS port) 10 true).raise (Page.TP port) 1)

/-- Invalid sync headers are counted (TPnn_BK_STATUS). -/
def State.badHeaders (s : State) (p n : Nat) : State :=
  s.setFld (Reg.TP_BK_STATUS p) 31 16 (min (s.fld (Reg.TP_BK_STATUS p) 31 16 + n) 0xFFFF)

/-- BK_LOCK: 64 consecutive valid sync headers (R268). `bad` invalid ones came before. -/
def execBkLock (port bad : Nat) (s : State) : Out :=
  done s ((s.badHeaders port bad).setBit (Reg.TP_BK_STATUS port) 0 true)

/-- BK_LOST: 16 of 64 consecutive sync headers are invalid (R268); a search begins. -/
def execBkLost (port bad : Nat) (s : State) : Out :=
  if !(s.bitAt (Reg.TP_BK_STATUS port) 0) || s.bkQuiet port then done s s
  else done s (((((s.badHeaders port bad).setBit (Reg.TP_BK_STATUS port) 0 false).setFld (Reg.TP_BK_STATUS port) 7 1 0)).raise
    (Page.TP port) 0)

/-- TPnn_BK_SLIP: the receiver's block boundary shifts by one bit (R268). -/
def State.writeBkSlip (s : State) (p v : Nat) : State := if bit v 0 then s.incFld (Reg.TP_BK_STATUS p) 7 1 else s

/-- ACK_RX: results 1 and 2 are counted (R264). -/
def execAckRx (port result : Nat) (s : State) : Out :=
  if result = 1 ∨ result = 2 then done s ((s.inc (Reg.TP_LINE_ERR_COUNT port)).telLineErr port) else done s s

/-- Logical lane 0 to 14 that physical lane `k` carries. -/
def State.logicalOf (s : State) (p k : Nat) : Option Nat := (List.range 15).find? (fun i => decide (s.laneMap p i = k))

/-- The spare sequence starts for data lane `k` (R271). -/
def State.spareStart (s : State) (p k : Nat) : State :=
  let t := s.tile p
  match s.logicalOf p k with
  | some i => s.setTile p { t with spareOk := false, swap := some { logical := i, old := k, new := s.laneMap p 15 } }
  | none => s

/-- A data lane reached the limit: the spare replaces it, or without one it stays in service (R271, R272). -/
def State.laneLimit (s : State) (p k : Nat) : State :=
  let t := s.tile p
  match t.swap with
  | some w => if w.old = k then s else (s.setBit (Reg.TP_STATUS p) 7 true).raise (Page.TP p) 3
  | none =>
    if t.spareOk then s.spareStart p k
    else if t.retired.contains k then s
    else (s.setBit (Reg.TP_STATUS p) 7 true).raise (Page.TP p) 3

/-- LANE_ERR_WINDOW: the window of TPnn_LANE_ERR_LIMIT ends (R271, R272). -/
def execLaneErrWindow (port : Nat) (s : State) : Out :=
  let t := s.tile port
  let a := Reg.TP_LANE_ERR_LIMIT port
  if !t.trained ∨ s.clk < t.winFrom + 1000000 * s.fld a 31 16 then done s s
  else
    let bad := (List.range 16).filter (fun k => (s.logicalOf port k).isSome &&
      decide (s.fld a 15 0 ≤ aget 0 k t.sums))
    let s1 := s.setTile port { t with winFrom := s.clk, sums := [] }
    done s (bad.foldl (fun (u : State) (k : Nat) => u.laneLimit port k) s1)

/-- A write of TPnn_LANE_SWAP by domain `d` (R271, R275): without a working spare, or for a lane that carries no data, it
is ignored and recorded. -/
def State.writeLaneSwap (s : State) (d : Dom) (p v : Nat) : State :=
  let a := Reg.TP_LANE_SWAP p
  let k := bits v 3 0
  let t := s.tile p
  if !(bit v 31) then s.wr a v
  else if !t.spareOk || (s.logicalOf p k).isNone || t.retired.contains k then s.writeIgnored d a v
  else (s.wr a (clearBit v 31)).spareStart p k

/-- A port fails discovery: it is left undriven, its region dark (R270, R444). -/
def State.portFail (s : State) (p : Nat) : State :=
  let s1 := s.setTile p { s.tile p with phase := 0, trained := false, spareOk := false, swap := none }
  ((((s1.setBit64 Reg.TLG_DISC_FAIL_LO Reg.TLG_DISC_FAIL_HI p true).setDriven p false).setTx p 0)).waveCheck

/-- DISC_TIMEOUT: a port did not finish discovery within 30 ms (R270). -/
def execDiscTimeout (port : Nat) (s : State) : Out :=
  if !(s.inDisc port) ∨ s.clk < (s.tile port).runFrom + 30000000 then done s s else done s (s.portFail port)

/-- REDISCOVER: the interval expires, and one failed port is tried again (R270). -/
def execRediscover (s : State) : Out :=
  let iv := s.rd Reg.TLG_REDISCOVER
  if iv = 0 ∨ s.clk < s.link.rediscAt + 1000000000 * iv ∨ s.bitAt Reg.TLG_DISC_STATUS 0 ∨ s.link.single.isSome then done s s
  else
    let bad := s.portsOn.filter (fun p => s.bit64 Reg.TLG_DISC_FAIL_LO Reg.TLG_DISC_FAIL_HI p)
    match (bad.find? (fun p => decide (s.link.lastTry < p))).orElse (fun _ => bad.head?) with
    | none => done s { s with link := { s.link with rediscAt := s.clk } }
    | some p => done s ({ s with link := { s.link with rediscAt := s.clk, single := some p, lastTry := p } }.portStart p)

/-- TREFCLK_LOSS: the 8 ports of a lost reference go OFF and are marked failed (R444). -/
def execTrefclkLoss (m : Nat) (s : State) : Out :=
  if 7 < m then done s s
  else
    let s1 := { s with link := { s.link with noRef := if s.link.noRef.contains m then s.link.noRef else m :: s.link.noRef } }
    done s ((s1.portsOn.filter (fun p => decide (p / 8 = m))).foldl (fun (t : State) (p : Nat) => t.portFail p) s1)

/-- TREFCLK_RETURN: the reference is back, ahead of rediscovery (R444). -/
def execTrefclkReturn (m : Nat) (s : State) : Out :=
  done s { s with link := { s.link with noRef := s.link.noRef.filter (fun x => !(x = m)) } }

end Sys2Proof.Machine
end

