-- ==== Sys2Proof/Machine/Sequencer.lean ====
section
/-! DEFINITION. The frame sequencer: periods, the Frame Gate, throttle steps, mode switches and the mode crossing, and
the lane states between packets (R208, R209, R217 to R236, R273, R274, R393, R394). -/

namespace Sys2Proof.Machine

/-- The throttle level, HKP_STATUS [6:4]. -/
def State.thrLevel (s : State) : Nat := s.fld Reg.HKP_STATUS 6 4

/-- A throttle level of some channel is asserted (R393). -/
def State.thrAsserted (s : State) : Bool := s.hk.asserted.any (fun k => decide (k % 3 = 1))

/-- `ms` milliseconds have passed since an instant; true without one. -/
def State.past (s : State) (t : Option Nat) (ms : Nat) : Bool :=
  match t with
  | some u => decide (u + 1000000 * ms ≤ s.clk)
  | none => true

/-- The throttle level takes value `l`, and CK_GRT with it; THROTTLE is raised (R208, R393, R403). -/
def State.setThrottle (s : State) (l : Nat) : State :=
  let t := ((s.setFld Reg.HKP_STATUS 6 4 l).wr Reg.GRT_CLOCK_MHZ (1600 - 200 * l)).raise Page.HKP 1
  { t with hk := { t.hk with thrChange := some t.clk, thrMaxDone := t.hk.thrMaxDone && decide (s.thrLevel ≤ l) } }

/-- THROTTLE_STEP: at a gate the throttle level rises or falls by one; at the highest level THR_MAX is raised once
(R393). -/
def State.throttleGate (s : State) : State :=
  let l := s.thrLevel
  let top := s.rd Reg.HKP_THR_MAX_LEVEL
  if top < l then s.setThrottle (l - 1)
  else if s.thrAsserted then
    if l < top then
      if s.past s.hk.thrChange (s.rd Reg.HKP_THR_STEP_MS) then s.setThrottle (l + 1) else s
    else if s.hk.thrMaxDone then s
    else ({ s with hk := { s.hk with thrMaxDone := true } }).raise Page.HKP 2
  else if 0 < l ∧ s.past s.hk.thrChange (s.rd Reg.HKP_THR_RELAX_MS) = true ∧
      s.past s.hk.thrClear (s.rd Reg.HKP_THR_RELAX_MS) = true then s.setThrottle (l - 1)
  else s

/-- The terms of T_floor in ns by their codes, the throttle's left out (R217). -/
def State.floorTerms (s : State) : List (Nat × Frac) :=
  [(0, (s.forceFld Reg.SEQ_FRAME_WINDOW 15 0 * 1000, 1)), (1, tLinkFrac (s.pmapLe s.mapBank) s.mapBits),
   (2, (4167000, 1)), (3, s.grt.floor)]

/-- The largest term and its code, the lowest code on ties. -/
def largestTerm (l : List (Nat × Frac)) : Nat × Frac :=
  l.foldl (fun (b x : Nat × Frac) => if fracLe x.2 b.2 then b else x) (0, (0, 1))

/-- T_floor before the cap, with the code of the term that set it (R217, R394): at throttle level 1 and above the
throttle minimum is T0 × 1,600 / f. -/
def State.floorTerm (s : State) : Nat × Frac :=
  let b := largestTerm s.floorTerms
  if s.thrLevel = 0 then b else largestTerm [b, (4, (b.2.1 * 1600, b.2.2 * s.rd Reg.GRT_CLOCK_MHZ))]

/-- The periods of R217 for the frame of a gate: SEQ_PERIOD_FLOOR, SEQ_LINE_PERIOD, T_min, T_max and the lead-in. -/
def State.setPeriods (s : State) : State :=
  let f := s.floorTerm
  let cap : Frac := (s.tCap, 1)
  let capped := !(fracLe f.2 cap)
  let t := if capped then cap else f.2
  let tL := linePeriod t s.mapLines
  let tMin := s.mapLines * tL
  let us := ceilDiv t.1 (max 1 t.2 * 1000)
  let u := (s.wr Reg.SEQ_PERIOD_FLOOR (us % 65536 + f.1 * 65536 + (if capped then 2 ^ 19 else 0))).wr
    Reg.SEQ_LINE_PERIOD tL
  { u with seq := { u.seq with
    tL := tL, tMin := tMin, extend := 0
    tMax := max tMin (min (s.forceFld Reg.SEQ_FRAME_WINDOW 31 16 * 1000) s.tCap)
    lead := max (s.inForce Reg.GRT_LEAD_IN * 1000) (2 * tL) } }

/-- Shedding and the Graticule floor of the frame (R206, R207, R209). -/
def State.planGate (s : State) : State :=
  let shed := s.shedMask
  let (c, p, cost) := s.costTerm shed
  let floor := if s.mapBits = 10 then fracMax c (8333000, 1) else c
  let s1 := ((s.wr Reg.GRT_SHED_MASK shed).setBit Reg.GRT_STATUS 7 (decide (shed ≠ 0))).wr Reg.GRT_PLAN_COST_MAX
    (cost % 65536 + p * 65536)
  let s2 := s1.wr Reg.GRT_FLOOR_US (ceilDiv floor.1 (max 1 floor.2 * 1000))
  let s3 := if shed ≠ 0 then s2.raise Page.GRT 5 else s2
  let s4 := if s.seq.started && !(fracLe floor s.grt.floor) then s3.raise Page.GRT 6 else s3
  { s4 with grt := { s4.grt with floor := floor } }

/-- A frame window is in range: MIN and MAX from 4,167 to 33,333 µs, MIN not above MAX (R219). -/
def windowOk (v : Nat) : Bool :=
  let mn := bits v 15 0
  let mx := bits v 31 16
  decide (4167 ≤ mn) && decide (mx ≤ 33333) && decide (mn ≤ mx)

/-- The SEQ page's commit at a gate; a window out of range is not applied (R219, R227). -/
def State.seqCommit (s : State) (fs : Nat) : State :=
  let v := (aget (regReset s.dev Reg.SEQ_FRAME_WINDOW) Reg.SEQ_FRAME_WINDOW s.pend).toNat
  let t := s.commitTake Page.SEQ fs
  if !(s.commitVisible Page.SEQ) || windowOk v then t
  else ((t.setForce Reg.SEQ_FRAME_WINDOW (BitVec.ofNat 32 (s.inForce Reg.SEQ_FRAME_WINDOW))).captureDev Page.SEQ
    0x00F4 (0x040 + v % 65536 * 65536)).raise Page.SEQ 5

/-- MOOR_STATUS.GAP: the gap mode in force (R339). -/
def State.gapGate (s : State) : State :=
  let m := s.forceFld Reg.MOOR_GAP_MODE 1 0
  let ports := s.portsOn
  let auto := if ports.length ≤ 16 ∧ ports.all s.classH then 1 else 2
  s.setFld Reg.MOOR_STATUS 7 6 (if m = 0 then auto else m)

/-- A map comes into use, at a gate or in a crossing: Graticule, layers, flattened sets and wear follow (R41, R153,
R162, R193, R195, R384); the map is to be written to flash (R42). -/
def State.mapSwitch (s : State) (b fs : Nat) (finished : Bool) : State :=
  let t := ((s.adoptMap b).grtAdopt b).recheckLayers
  let u := (t.unflatten fs finished (fun _ => true)).wearGeomCheck
  { u with seq := { u.seq with switch := none, persist := true } }

/-- The hitless panel map switch that a gate sees (R41, R232). -/
def State.hitlessGate (s : State) (fs : Nat) (finished : Bool) : State :=
  match s.seq.switch with
  | some (b, true, t) =>
    if s.visible t then (s.mapSwitch b ((fs + 2 ^ 32 - 1) % 2 ^ 32) finished).setFld Reg.SEQ_MODE_STATUS 2 0 0 else s
  | _ => s

/-- Step 3 of R225: what is pending and visible takes effect. -/
def State.commitsGate (s : State) (fs : Nat) (finished : Bool) : State :=
  let s1 := s.hitlessGate fs finished
  let s2 := [Page.MOOR, Page.WBK, Page.SIG, Page.GRT].foldl (fun (t : State) (p : Nat) => t.commitTake p fs)
    (s1.seqCommit fs)
  let s3 := ((s2.layGate fs).sheetGate fs finished).insetGate fs finished
  (((s3.cartGate fs finished).wearGate fs).grtGate).gapGate

/-- The descriptor bytes of layer `k`'s active bank. -/
def State.descBytes (s : State) (k : Nat) : List Byte := agetMany 0 (laydAddr k (s.layBank k)) 128 s.mem.layd

/-- The frame that a gate starts (R18, R205, R209, R218). -/
def State.newFrame (s : State) (fs time : Nat) (k : Taken) : FrameSt :=
  let shed := s.rd Reg.GRT_SHED_MASK
  { fs := fs, gate := s.clk, gateTime := time, modeId := s.modeId, tL := s.seq.tL, lines := s.mapLines
    s0 := s.clk + s.seq.lead, tMin := s.seq.tMin, tMax := s.seq.tMax
    layers := ((List.range 32).filter (fun k => s.layOn k && !(bit shed k))).map (fun k => (k, s.descBytes k))
    stale := k.stale, part := k.part, sets := s.flatShown.map (fun x => x.members)
    fresh := k.fresh.map (fun x => (s.ctxClass x.1, (s.slot x.1 x.2).lastRx))
    map := s.mapBank, background := s.inForce Reg.LAY_BACKGROUND, grtCtrl := s.inForce Reg.GRT_CTRL
    refWhite := s.inForce Reg.LAY_REF_WHITE
    csc := (List.range 4).flatMap (fun m => (List.range 6).flatMap (fun j =>
      [s.inForce (Reg.LAY_CSC m j) % 65536, s.inForce (Reg.LAY_CSC m j) / 65536]))
    depths := (List.range 32).filterMap (fun k => (s.layer k).shown.head?.map (fun x => (k, (s.slot x.1 x.2.1).bits)))
    panes := if s.armed && s.cart.enForce then some (s.paneBank, s.bitAt Reg.CART_STATUS 4) else none
    gains := s.wear.gains
    sheets := ((List.range 64).filter s.sheetShown).map (fun a => (a, 1 - s.inactiveBank a)) }

/-- Every earlier frame is synthesised. -/
def State.allSynth (s : State) : Bool := s.seq.frames.all (fun f => f.synth)

/-- Steps 3 to 6 of R225 and the frame's start: commits, content, periods, the copy, the first source reads. `late`
is the mask of gating layers that are not ready. -/
def State.gateBody (s : State) (fs time late : Nat) : State :=
  let finished := s.allSynth
  let s1 := ((s.wearGateFrames s.clk).commitsGate fs finished).posOverride
  let s2 := s1.throttleGate
  let k := s2.takeContent fs late (decide (1 ≤ s2.thrLevel) && decide (fs % 2 = 1))
  let s3 := (((k.st.planGate).setPeriods).setTolerance 0 0)
  let s4 := (s3.tolCheck s3.seq.tL).armFrameSync time
  let s5 := ((((s4.syncCheck).copyStart).swapStart).standbyCheck).sigStart fs
  let f := s5.newFrame fs time k
  let s6 := s5.wbkGate f
  let s7 := { s6 with seq := { s6.seq with frames := s6.seq.frames ++ [f], gateClk := s6.clk, started := true } }
  (s7.setFrame (s7.beginLines f 0 (f.s0 - f.tL))).dropFrames

/-- BOOT_STATUS.STAGE becomes RUN, at which the active Landing sets BOOT_OK (R352, R362). -/
def State.runStage (s : State) : State :=
  if s.fld Reg.BOOT_STATUS 1 0 = 3 then s
  else
    let t := s.setFld Reg.BOOT_STATUS 1 0 3
    match t.active with
    | some l => t.bootOk l
    | none => t

/-- A Frame Gate fires with cause `cause` (R225). -/
def State.fireGate (s : State) (cause late : Nat) : State :=
  let fs := (s.frameSeq + 1) % 2 ^ 32
  let time := s.now
  let s1 := (s.wr Reg.SEQ_FRAME_SEQ fs).wr64 Reg.SEQ_GATE_TIME_LO Reg.SEQ_GATE_TIME_HI time
  let s2 := if s.seq.started then s1.wr Reg.SEQ_LAST_PERIOD (s.clk - s.seq.gateClk) else s1
  let s3 := (s2.wr Reg.SEQ_GATE_CAUSE cause).stepAtGate
  let seen := match s3.seq.forced with | some t => s3.visible t | none => false
  let s4 := s3.gateBody fs time late
  let s5 := { s4 with seq := { s4.seq with forced := if seen then none else s4.seq.forced, tick := none } }
  ({ s5 with tel := { s5.tel with ivFrames := s5.tel.ivFrames + 1 } }).runStage

/-- The lead-in value that will be in force for the next frame (R221), in ns. -/
def State.nextLead (s : State) : Nat :=
  1000 * (if s.commitVisible Page.GRT then (aget (regReset s.dev Reg.GRT_LEAD_IN) Reg.GRT_LEAD_IN s.pend).toNat
    else s.inForce Reg.GRT_LEAD_IN)

/-- The earliest permitted next gate, counted from the last (R221, R336). -/
def State.tEarly (s : State) : Nat := s.seq.tMin + (s.seq.lead - s.nextLead) + s.seq.extend

/-- Time since the last gate. -/
def State.elapsed (s : State) : Nat := s.clk - s.seq.gateClk

/-- SEQ_GATE_FORCE.GO is visible (R223). -/
def State.forceSeen (s : State) : Bool :=
  match s.seq.forced with
  | some t => s.visible t
  | none => false

/-- A mode crossing is accepted and visible: it starts in place of a gate (R234). -/
def State.crossDue (s : State) : Bool :=
  match s.seq.switch with
  | some (_, false, t) => s.visible t && decide (s.fld Reg.SEQ_MODE_STATUS 2 1 = 1)
  | _ => false

/-- The sequencer may fire gates: a Landing is active, a map is in use, no crossing runs, and no shutdown is latched
(R42, R234, R395). -/
def State.gatesRun (s : State) : Bool :=
  s.active.isSome && s.seq.hasMap && !s.crossing && !s.shut

/-- The first gate after bring-up is due (R350). -/
def State.firstGateDue (s : State) : Bool :=
  s.gatesRun && !s.seq.started && s.moor.grtDone && s.moor.discDone && s.moor.wearDone

/-- A phase tick is visible in this cycle: it reaches the sequencer within 10 ns and is visible two cycles later, in
that one cycle (R88, R220, R224). -/
def State.tickSeen (s : State) : Bool :=
  match s.seq.tick with
  | some t => decide (t + (4 + Config.seqCrossing % 7) + 8 ≤ s.clk) &&
      decide (s.clk < t + (4 + Config.seqCrossing % 7) + 10)
  | none => false

/-- Condition 1 of R221. -/
def State.gateReady (s : State) : Bool :=
  decide (s.tEarly ≤ s.elapsed) && (decide (s.lateMask = 0) || s.forceSeen) &&
    (!(bit (s.inForce Reg.SEQ_GATE_CFG) 0) || s.tickSeen)

/-- Condition 2 of R221. -/
def State.gateMax (s : State) : Bool := decide (max s.seq.tMax s.tEarly ≤ s.elapsed)

/-- Cause of a gate under condition 1: 4 forced, 1 on a phase tick, 0 ready. -/
def State.readyCause (s : State) : Nat :=
  if s.lateMask ≠ 0 then 4 else if bit (s.inForce Reg.SEQ_GATE_CFG) 0 then 1 else 0

/-- G1: the first gate of the new mode (R234 step 5). -/
def State.crossGate (s : State) : State :=
  let s1 := s.wr Reg.SEQ_MODE_STATUS ((s.rd Reg.SEQ_MODE_STATUS / 2 ^ 16 + 1) % 2 ^ 16 * 2 ^ 16)
  let s2 := { s1 with seq := { s1.seq with crossApplied := none } }
  ((s2.fireGate 3 (if s2.forceSeen then 0 else s2.lateMask)).raise Page.SEQ 3).startWaiting

/-- The new map is applied, no port retrains any more, and the discovery of a first map has ended: G1 is due
(R234, R236). -/
def State.crossGateDue (s : State) : Bool :=
  s.seq.crossApplied.isSome && s.seq.retrain.isEmpty && (s.seq.started || !(s.bitAt Reg.TLG_DISC_STATUS 0)) &&
    s.active.isSome && !s.shut

/-- A gate of the frame sequencer at or after T_early: the first gate, G1 of a crossing, or one under condition 1. -/
def State.frameGate (s : State) : State :=
  if s.crossGateDue then s.crossGate
  else if s.firstGateDue then s.fireGate 0 0
  else if s.gatesRun && s.seq.started && !s.crossDue && s.gateReady then s.fireGate s.readyCause 0
  else s

/-- A gate under condition 2: gating layers that are not ready are late (R230). -/
def State.frameGateMax (s : State) : State :=
  if !(s.gatesRun && s.seq.started && !s.crossDue && s.gateMax && !s.gateReady) then s
  else
    let m := if s.forceSeen then 0 else s.lateMask
    let t := s.fireGate 2 m
    if m = 0 then t.wr Reg.SEQ_LATE_MASK 0
    else (((t.wr Reg.SEQ_LATE_MASK m).inc Reg.SEQ_LATE_COUNT).raise Page.SEQ 2).telLate m

/-- SEQ_GATE_FORCE.GO (R223). -/
def State.writeGateForce (s : State) (v : Nat) : State :=
  if bit v 0 then
    { s with seq := { s.seq with forced := match s.seq.forced with | some t => some t | none => some s.clk } }
  else s

/-- The result code of SEQ_MODE_REQ for bank `b` (R233). -/
def State.modeReqCode (s : State) (b : Nat) : Nat :=
  if s.bitAt Reg.SEQ_MODE_STATUS 0 then 1
  else if !(s.bitAt Reg.SEQ_PMAP_STATUS (1 + b)) then 2
  else if s.seq.hasMap ∧ s.mapBank = b then 3
  else if s.switching || s.moor.drill.isSome then 4
  else if (List.range 8).any (fun g => decide (s.spareSt g = 1)) then 5
  else if !(queueSpaceOk (s.worstLines b)) then 6
  else 0

/-- MODE_REQ: a bank switch is checked and becomes a hitless switch or a mode crossing (R41, R233). -/
def State.writeModeReq (s : State) (v : Nat) : State :=
  if !(bit v 31) then s
  else
    let b := bits v 0 0
    let c := s.modeReqCode b
    if c ≠ 0 then (s.setFld Reg.SEQ_MODE_STATUS 15 8 c).raise Page.SEQ 4
    else
      let t := (s.setFld Reg.SEQ_MODE_STATUS 15 8 0).setFld Reg.SEQ_MODE_STATUS 2 0 3
      let u := { t with seq := { t.seq with switch := some (b, s.seq.hasMap && s.sameGeom, s.clk) } }
      u.noteKind 8 [s.pmapLe b 0x70 4, s.pmapLe b 0x74 4]

/-- The port's lines of every frame in flight are sent or missed. -/
def State.portFinished (s : State) (p : Nat) : Bool :=
  s.seq.frames.all (fun f => decide (s.portF p 6 2 ≤ f.nextSlot) &&
    f.rows.all (fun x => decide (x.1 / 8192 ≠ p) || x.2.sent || x.2.missed))

/-- A port that ended its last old line goes into HOLD for the crossing (R234 step 2). -/
def State.crossHold (s : State) (p : Nat) : State :=
  let t := (s.holdByClass p 1).setTx p 1
  { t with seq := { t.seq with crossFrom := some t.clk } }

/-- G0: the crossing starts, and ports in blanking go into HOLD at once (R234). -/
def State.crossStart (s : State) : State :=
  if !(s.gatesRun && s.seq.started && s.crossDue && decide (s.tEarly ≤ s.elapsed)) then s
  else
    let t := s.setFld Reg.SEQ_MODE_STATUS 2 1 2
    (t.drivenPorts.filter (fun p => t.portFinished p && !(t.tile p).inPacket)).foldl (fun (u : State) (p : Nat) =>
      u.crossHold p) t

/-- Every port has finished its old lines (R234 step 3). -/
def State.oldLinesDone (s : State) : Bool :=
  s.drivenPorts.all (fun p => s.bitAt (Reg.TP_STATUS p) 8) && s.portsOn.all s.portFinished

/-- A port in the new mode: MODE_SET, the capability and class checks, and whether it retrains (R37, R234,
R263, R267). -/
def State.portApply (s : State) (p : Nat) : State :=
  if s.portF p 8 1 = 0 then (((s.setDriven p false).setTx p 0).setTile p {})
  else
    let s1 := (s.checkClass p).sendMgmt p 2 (s.modeSet p (s.modeId + 1))
    if s1.capFault p then (s1.setCapFault p).undriven p
    else
      let s2 := (s1.setBit64 Reg.TLG_CAP_FAULT_LO Reg.TLG_CAP_FAULT_HI p false).setBit (Reg.TP_STATUS p) 5 false
      let s3 := if (s2.tile p).phase = 4 ∧ s2.misplaced p = false then s2.drive p else s2
      if (s3.tile p).rate = s3.mapF 0x28 1 then s3
      else (({ s3 with seq := { s3.seq with retrain := s3.seq.retrain ++ [p] } }).emit (.training p)).setTx p 3

/-- CROSSING_APPLY: the new bank is made active and applied on every port (R234 step 3); without ports that retrain,
G1 follows. Without an earlier map, the ports are discovered first (R42, R236). -/
def State.crossApply (s : State) : State :=
  match s.seq.switch with
  | some (b, false, t) =>
    let first := !s.seq.hasMap
    if s.active.isNone || !(s.visible t) || !(first || (s.crossing && s.oldLinesDone)) then s
    else
      let s1 := s.wearGateFrames s.clk
      let s2 := { s1 with seq := { s1.seq with
        frames := [], retrain := [], crossApplied := some s1.clk } }.setFld Reg.SEQ_MODE_STATUS 2 1 2
      let s3 := ((s2.wr Reg.SEQ_CROSS_FAIL_LO 0).wr Reg.SEQ_CROSS_FAIL_HI 0).mapSwitch b s2.frameSeq true
      let s4 := ((List.range 64).filter (fun p => s3.driven p || decide ((s3.tile p).phase = 4))).foldl
        (fun (u : State) (p : Nat) => u.portApply p) s3
      let s5 := if first then s4.discover else s4
      if s5.crossGateDue then s5.crossGate else s5
  | _ => s

/-- A port leaves the retraining of a crossing: G1 follows the last one. -/
def State.retrainLeave (s : State) (p : Nat) : State :=
  let t := { s with seq := { s.seq with retrain := s.seq.retrain.filter (fun q => !(q = p)) } }
  if t.crossGateDue then t.crossGate else t

/-- A port that does not complete retraining stays dark, and the crossing goes on without it (R234 step 4). -/
def State.retrainFail (s : State) (p : Nat) : State :=
  let t := (s.setBit64 Reg.SEQ_CROSS_FAIL_LO Reg.SEQ_CROSS_FAIL_HI p true).raise Page.SEQ 4
  ((t.setTile p { t.tile p with phase := 0, trained := false, spareOk := false, swap := none }).setDriven p false).setTx p 0

/-- RETRAIN_DONE: a port's tile reports the lanes it locked (R234, R245, R269). -/
def State.retrainDone (s : State) (p lock : Nat) : State :=
  if !(s.seq.retrain.contains p) then s
  else
    let n := ((List.range 16).filter (fun k => bit lock k)).length
    if n < 15 then (s.retrainFail p).retrainLeave p
    else
      let t := s.trained p lock
      ((t.setTile p { t.tile p with phase := if (s.tile p).phase = 4 then 4 else 5 }).setTx p 1).retrainLeave p

/-- RETRAIN_TIMEOUT: SEQ_RETRAIN_LIMIT expires (R234). -/
def State.retrainTimeout (s : State) : State :=
  match s.seq.crossApplied with
  | some t =>
    if s.seq.retrain.isEmpty ∨ s.clk < t + 1000000 * s.rd Reg.SEQ_RETRAIN_LIMIT then s
    else s.seq.retrain.foldl (fun (u : State) (p : Nat) => (u.retrainFail p).retrainLeave p) s
  | none => s

/-- The frame whose slots a port's framer takes next: the oldest with slots left for it. -/
def State.slotsLeft (s : State) (p : Nat) : Option FrameSt :=
  s.seq.frames.find? (fun f => decide (f.nextSlot < s.portF p 6 2))

/-- LINE_PACKET_END (R234, R259, R260, R273, R274): after 2 IDLE rows a HOLD that is due is sent, and the lanes go to
SLEEP or DOZE when the gap to what follows is long enough; without a schedule they stay ACTIVE. -/
def execLinePacketEnd (port : Nat) (s : State) : Out :=
  let t := { s.tile port with inPacket := false }
  if !(s.tile port).inPacket then done s s
  else
    let s1 := (s.setTile port t).emit (.idle port 2)
    match t.holdDue with
    | some (blank, reason) =>
      done s (((s1.setTile port { t with holdDue := none }).sendHold port blank reason).setTx port 1)
    | none =>
      if s1.crossing && s1.seq.crossApplied.isNone && s1.portFinished port then done s (s1.crossHold port)
      else match s1.slotsLeft port with
      | some f =>
        let gap := f.slotStart f.nextSlot - s1.clk
        done s (if f.nextSlot = 0 ∧ 1000 * s1.rd Reg.TLG_SLEEP_MIN ≤ gap then s1.setTx port 1
          else if s1.rd Reg.TLG_DOZE_MIN ≤ gap then s1.setTx port 2 else s1)
      | none =>
        done s (if s1.active.isNone then s1
          else if 1000 * s1.rd Reg.TLG_SLEEP_MIN ≤ 1000 * s1.inForce Reg.GRT_LEAD_IN then s1.setTx port 1
          else if s1.rd Reg.TLG_DOZE_MIN ≤ 1000 * s1.inForce Reg.GRT_LEAD_IN then s1.setTx port 2 else s1)

end Sys2Proof.Machine
end

