-- ==== Sys2Proof/Machine/Housekeeping.lean ====
section
/-! DEFINITION. The housekeeping round, its thresholds, and the thermal shutdown (R387 to R395, R403). -/

namespace Sys2Proof.Machine

/-- Reading of channel `c`, signed. -/
def State.chan (s : State) (c : Nat) : Int := signedOf 16 (s.fld (Reg.HKP_CH_READING c) 15 0)

/-- Channel `c` is masked (R391). -/
def State.masked (s : State) (c : Nat) : Bool := s.bit64 Reg.HKP_MASK_LO Reg.HKP_MASK_HI c

/-- Channel `c` is broken (R388). -/
def State.broken (s : State) (c : Nat) : Bool := s.bit64 Reg.HKP_BROKEN_LO Reg.HKP_BROKEN_HI c

/-- The channel's ADC calibrates, and its reading is held (R396, R397). -/
def State.chanHeld (s : State) (c : Nat) : Bool := s.bmk.running.contains (c / 16)

/-- Threshold of level `l` (0 warning, 1 throttle, 2 shutdown) of channel `c`. -/
def State.threshold (s : State) (c l : Nat) : Int :=
  if l = 0 then signedOf 16 (s.fld (Reg.HKP_CH_THR0 c) 15 0)
  else if l = 1 then signedOf 16 (s.fld (Reg.HKP_CH_THR0 c) 31 16)
  else signedOf 16 (s.fld (Reg.HKP_CH_THR1 c) 15 0)

/-- A temperature reading is outside −60.0 °C to +160.0 °C (R388). -/
def outsideRange (c : Nat) (v : Int) : Bool := decide (c ≤ 47) && (decide (v < -960) || decide (2560 < v))

/-- One channel is read (R388): a broken channel reads full scale, a held one keeps its reading. -/
def State.readChannel (s : State) (c : Nat) (v : Int) (adcBad : Bool) : State :=
  let r := Reg.HKP_CH_READING c
  if s.chanHeld c then (s.setBit r 16 true).setBit64 Reg.HKP_STALE_LO Reg.HKP_STALE_HI c true
  else
    let bad := adcBad || outsideRange c v
    let w := if !bad then bitsOfInt 16 v else if c ≤ 47 then 0x0A00 else 0x7FFF
    let t := if bad && !(s.broken c) then s.raise Page.HKP 4 else s
    ((t.wr r (w + (if bad then 0x20000 else 0))).setBit64 Reg.HKP_STALE_LO Reg.HKP_STALE_HI c false).setBit64
      Reg.HKP_BROKEN_LO Reg.HKP_BROKEN_HI c bad

/-- What a reading does to a level (R389): whether it is asserted, and whether its last reading was at or beyond the
threshold once. -/
def levelStep (low : Bool) (v thr hyst : Int) (asserted once : Bool) : Bool × Bool :=
  let beyond := if low then decide (v ≤ thr) else decide (thr ≤ v)
  let clear := if low then decide (thr + hyst ≤ v) else decide (v ≤ thr - hyst)
  if asserted then (!clear, false)
  else if beyond then (once, !once)
  else (false, false)

/-- One level of one channel takes the round's reading; a masked channel or a disabled level drives nothing. -/
def State.levelRound (s : State) (c l : Nat) : State :=
  let k := 3 * c + l
  let was := s.hk.asserted.contains k
  let (on, once) := if s.masked c || !(s.bitAt (Reg.HKP_CH_THR1 c) (24 + l)) then (false, false)
    else levelStep (s.bitAt (Reg.HKP_CH_THR1 c) 27) (s.chan c) (s.threshold c l) (s.fld (Reg.HKP_CH_THR1 c) 23 16)
      was (s.hk.once.contains k)
  let drop := fun (l : List Nat) => l.filter (fun x => !(x = k))
  let t := { s with hk := { s.hk with
    asserted := if on then k :: drop s.hk.asserted else drop s.hk.asserted
    once := if once then k :: drop s.hk.once else drop s.hk.once
    thrClear := if l = 1 && was && !on then some s.clk else s.hk.thrClear
    alert := s.hk.alert || (decide (l = 0) && on && !was) } }
  if l = 0 && on && !was then t.raise Page.HKP 0 else t

/-- Some level `l` is asserted. -/
def State.anyLevel (s : State) (l : Nat) : Bool := s.hk.asserted.any (fun k => decide (k % 3 = l))

/-- Bits of the channels with level `l` asserted, as a 64-bit number. -/
def State.levelMask (s : State) (l : Nat) : Nat :=
  (List.range 64).foldl (fun (m c : Nat) => if s.hk.asserted.contains (3 * c + l) then m + 2 ^ c else m) 0

/-- HKP_HOTTEST: the highest unmasked temperature and its channel, the lowest on ties. -/
def State.hottest (s : State) : Nat :=
  match pickBy (fun y b => decide (s.chan b < s.chan y)) ((List.range 48).filter (fun c => !(s.masked c))) with
  | some c => bitsOfInt 16 (s.chan c) + c * 65536
  | none => 0

/-- HKP_STATUS and the level registers follow the round. -/
def State.roundRegs (s : State) : State :=
  let any64 (lo hi : Nat) : Bool := decide (s.rd lo ≠ 0) || decide (s.rd hi ≠ 0)
  let s1 := (s.wr64 Reg.HKP_WARN_LO Reg.HKP_WARN_HI (s.levelMask 0)).wr64 Reg.HKP_THROT_LO Reg.HKP_THROT_HI
    (s.levelMask 1)
  let s2 := ((s1.setBit Reg.HKP_STATUS 0 true).setBit Reg.HKP_STATUS 1 (s.anyLevel 0)).setBit Reg.HKP_STATUS 2
    (s.anyLevel 1)
  let s3 := (s2.setBit Reg.HKP_STATUS 7 (any64 Reg.HKP_BROKEN_LO Reg.HKP_BROKEN_HI)).setBit Reg.HKP_STATUS 8
    (any64 Reg.HKP_STALE_LO Reg.HKP_STALE_HI)
  let s4 := (s3.wr Reg.HKP_HOTTEST s.hottest).wr Reg.HKP_ROUND_COUNT (s.rd Reg.HKP_ROUND_COUNT + 1)
  { s4 with hk := { s4.hk with alert := s4.hk.alert && s.anyLevel 0 } }

/-- The shutdown of R395: latched with its cause, THERMTRIP_N low, HOLD on every driven port, DRAM in self-refresh, no
panel output, a FAULT record. -/
def State.shutdown (s : State) : State :=
  match (List.range 64).find? (fun c => s.hk.asserted.contains (3 * c + 2)) with
  | none => s
  | some c =>
    if s.shut then s
    else
      let v := bitsOfInt 16 (s.chan c)
      let s1 := ((s.setBit Reg.HKP_STATUS 3 true).wr Reg.HKP_SHUT_CAUSE (c + v * 65536)).raise Page.HKP 3
      let s2 := { s1 with hk := { s1.hk with thermtrip := true } }
      let s3 := s2.drivenPorts.foldl (fun (t : State) (p : Nat) => t.holdSoon p true 3) s2
      let s4 := (List.range 8).foldl (fun (t : State) (g : Nat) => t.setFld (Reg.DMG_STATUS g) 2 1 2) s3
      let s5 := s4.setOutput false
      if s5.active.isSome then s5.faultKind Page.HKP 48 c v else s5

/-- The time counters that a round of 1 ms advances: HKP_THR_TIME, powered seconds and seconds with output (R393, R394,
R401). -/
def State.roundTime (s : State) : State :=
  let l := s.thrLevel
  let s1 := if l = 0 then s
    else { s.inc Reg.HKP_THR_TIME with tel := { s.tel with ivThr := telBump s.tel.ivThr l 1 } }
  let p := s1.tel.powRest + 1000000
  let o := if s1.cart.output then s1.tel.outRest + 1000000 else s1.tel.outRest
  let s2 := (s1.addCnt Reg.TEL_POWERED_S (p / 1000000000)).addCnt Reg.TEL_OUTPUT_S (o / 1000000000)
  { s2 with tel := { s2.tel with powRest := p % 1000000000, outRest := o % 1000000000 } }

/-- A round over all channels (R387 to R395): `readings` are the 64 conversions in channel order, `adcFail` the ADCs
whose check against the reference failed. -/
def State.hkRound (s : State) (readings : List Int) (adcFail : List Nat) : State :=
  let s1 := (List.range 64).foldl (fun (t : State) (c : Nat) =>
    t.readChannel c (readings.getD c 0) (adcFail.contains (c / 16))) s
  let s2 := (List.range 64).foldl (fun (t : State) (c : Nat) =>
    ((t.levelRound c 0).levelRound c 1).levelRound c 2) s1
  let s3 := ((s2.roundRegs).shutdown).roundTime
  { s3 with hk := { s3.hk with roundAt := s.clk + 1000000 } }

/-- The grade default of a shutdown threshold of temperature channel `c`, with its enable (R389, R390). -/
def State.shutDefault (s : State) (c : Nat) : Nat := bits (regReset s.dev (Reg.HKP_CH_THR1 c)).toNat 15 0

/-- A write of HKP_CHc_THR1 by a domain: a shutdown threshold of a temperature channel above its default, or a cleared
enable, stores the default (R390). -/
def State.writeThr1 (s : State) (d : Dom) (c v : Nat) : State :=
  let a := Reg.HKP_CH_THR1 c
  if 47 < c then s.wr a v
  else
    let high := decide ((signedOf 16 (s.shutDefault c)) < signedOf 16 (bits v 15 0))
    let off := !(bit v 26)
    let w := putBits (putBits v 15 0 (if high then s.shutDefault c else bits v 15 0)) 26 26 1
    if high || off then (s.wr a w).writeIgnored d a v else s.wr a v

/-- A write of HKP_MASK_LO or HI by a domain: refused when it would mask a channel whose partner is broken or masked;
an accepted change writes a CONFIG_NOTE (R391). -/
def State.writeMask (s : State) (d : Dom) (a v : Nat) : State :=
  let base := if a = Reg.HKP_MASK_LO then 0 else 32
  let new := (List.range 32).filter (fun i => bit v i && !(s.masked (base + i)) && decide (base + i ≤ 47))
  let bad := new.any (fun i =>
    let j := if i % 2 = 0 then i + 1 else i - 1
    s.broken (base + j) || bit v j)
  if bad then s.writeIgnored d a v
  else if s.rd a = v then s
  else
    let t := s.wr a v
    t.noteKind 4 [t.rd Reg.HKP_MASK_LO, t.rd Reg.HKP_MASK_HI]

end Sys2Proof.Machine
end

