-- ==== Sys2Proof/Machine/Benchmark.lean ====
section
/-! DEFINITION. The Benchmark: calibrations, their trims and quality (R310, R396 to R399, R403). -/

namespace Sys2Proof.Machine

/-- Instances of function `f` (R396). -/
def calCount (f : Nat) : Nat := if f = 0 then 4 else 64

/-- Trigger channel of instance `i` of function `f` (R396). -/
def calChannel (f i : Nat) : Nat := if f = 0 then 47 else if f = 3 then 40 + i / 16 else 32 + i / 8

/-- Every instance, by its key 64f + i. -/
def calAll : List Nat := (List.range 4).flatMap (fun f => (List.range (calCount f)).map (fun i => 64 * f + i))

/-- A calibrated instance. -/
def State.cal (s : State) (k : Nat) : CalInst := aget {} k s.bmk.inst

/-- Replace it. -/
def State.setCal (s : State) (k : Nat) (x : CalInst) : State :=
  { s with bmk := { s.bmk with inst := aset {} k x s.bmk.inst } }

/-- BMK_STATUS follows what runs and what waits. -/
def State.bmkRegs (s : State) : State :=
  let mask (l : List Nat) : Nat := (List.range 4).foldl (fun (m f : Nat) =>
    if l.any (fun k => decide (k / 64 = f)) then m + 2 ^ f else m) 0
  s.wr Reg.BMK_STATUS (mask s.bmk.running + 16 * mask s.bmk.waiting)

/-- Instance `k` may start now: not during a switch-over, a crossing or a shutdown; an ADC not while a level of its
unmasked channels is asserted; a rank not during a migration of its group (R23, R396, R397). -/
def State.calMay (s : State) (k : Nat) : Bool :=
  let f := k / 64
  let i := k % 64
  !s.switching && !s.crossing && !s.shut && (s.bitAt Reg.BMK_CTRL 0 || s.bmk.asked.contains k) &&
    (decide (f ≠ 0) || (List.range 16).all (fun j => s.masked (16 * i + j) ||
      (List.range 3).all (fun l => !(s.hk.asserted.contains (3 * (16 * i + j) + l))))) &&
    (decide (f ≠ 3) || (s.memGroup (i / 8)).mig.isNone)

/-- Instance `k` starts: a receiver's supervision is suppressed, a rank's training begins (R310, R397). -/
def State.calBegin (s : State) (k : Nat) : State :=
  let drop := fun (l : List Nat) => l.filter (fun x => !(x = k))
  let t := { s with bmk := { s.bmk with
    running := k :: s.bmk.running, waiting := drop s.bmk.waiting, asked := drop s.bmk.asked
    quietUntil := if k / 64 = 1 then aset 0 (k % 64) (s.clk + 1400000) s.bmk.quietUntil else s.bmk.quietUntil } }
  if k / 64 = 3 then t.trainStart (2 * (k % 64)) else t

/-- Every idle function starts its lowest waiting instance that may start (R396). -/
def State.calStart (s : State) : State :=
  ((List.range 4).foldl (fun (t : State) (f : Nat) =>
    if t.bmk.running.any (fun k => decide (k / 64 = f)) then t
    else match (List.range (calCount f)).find? (fun i => t.bmk.waiting.contains (64 * f + i) && t.calMay (64 * f + i)) with
      | some i => t.calBegin (64 * f + i)
      | none => t) s).bmkRegs

/-- Instance `k` waits for its calibration. -/
def State.calWait (s : State) (k : Nat) (ask : Bool) : State :=
  let add := fun (l : List Nat) => if l.contains k then l else k :: l
  { s with bmk := { s.bmk with
    waiting := add s.bmk.waiting
    asked := if ask then add s.bmk.asked else s.bmk.asked } }

/-- Instances whose trigger channel moved by more than BMK_DELTA_T since their last calibration wait for the next
(R396). -/
def State.calTriggers (s : State) : State :=
  if !(s.bitAt Reg.BMK_CTRL 0) then s
  else (s.bmk.inst.filter (fun x => x.2.done && decide (16 * (s.rd Reg.BMK_DELTA_T : Int) <
      ((s.chan (calChannel (x.1 / 64) (x.1 % 64)) - x.2.trig).natAbs : Int)))).foldl
    (fun (t : State) (x : Nat × CalInst) => if t.bmk.running.contains x.1 then t else t.calWait x.1 false) s

/-- BMK_FLOOR of a function. -/
def State.calFloor (s : State) (f : Nat) : Nat := s.fld Reg.BMK_FLOOR (8 * f + 7) (8 * f)

/-- A quality figure misses its floor: residual errors may not exceed it, eye width and margin not fall below it
(R396, R398). -/
def State.calPoor (s : State) (f quality : Nat) : Bool :=
  if f = 0 ∨ f = 2 then decide (s.calFloor f < quality) else decide (quality < s.calFloor f)

/-- Words of trim of an instance (R399). -/
def State.trim (s : State) (k j : Nat) : W32 := aget 0 (16 * k + j) s.bmk.trims

/-- A CALIB record (R373; the places of its fields are the model's, assumption 10). -/
def calibPayload (k quality : Nat) (trims : List W32) : List Byte :=
  leBytes 2 (k / 64) ++ leBytes 2 (k % 64) ++ leBytes 4 quality ++ trims.flatMap (fun w => leBytes 4 w.toNat)

/-- A calibration completes (R398): quality and record; a result below its floor is not applied and is tried again. -/
def State.calEnd (s : State) (k quality : Nat) (trims : List (Nat × W32)) : State :=
  let f := k / 64
  let poor := s.calPoor f quality
  let first := !(s.cal k).done
  let put := fun (m : List (Nat × W32)) => trims.foldl (fun (n : List (Nat × W32)) (x : Nat × W32) =>
    aset 0 (16 * k + x.1 % 16) x.2 n) m
  let s1 := { s with bmk := { s.bmk with
    running := s.bmk.running.filter (fun x => !(x = k))
    trims := if poor then s.bmk.trims else put s.bmk.trims
    bring := if poor || !first then s.bmk.bring else put s.bmk.bring
    quietUntil := if f = 1 then aset 0 (k % 64) (s.clk + 1000000) s.bmk.quietUntil else s.bmk.quietUntil } }
  let s2 := s1.setCal k {
    qual := quality, poor := poor, trig := s.chan (calChannel f (k % 64)), done := true
    retryAt := if poor then some (s.clk + 1000000000 * s.rd Reg.BMK_RETRY_S) else none }
  let s3 := ((s2.inc Reg.BMK_CAL_COUNT).raise Page.BMK 0).logRecord 6
    (calibPayload k quality ((List.range 16).map (fun j => s2.trim k j)))
  (if poor then s3.raise Page.BMK 1 else s3).calStart

/-- HK_ROUND: a round over the 64 channels, after which due calibrations start (R387 to R396). -/
def execHkRound (readings : List Int) (adcFail : List Nat) (s : State) : Out :=
  if s.clk < s.hk.roundAt then done s s
  else done s (((s.hkRound readings adcFail).calTriggers).calStart)

/-- CAL_DONE: a calibration of functions 0 to 2 completes (R398); it stands still during a switch-over or a crossing
(R23). -/
def execCalDone (fn inst quality : Nat) (trims : List (Nat × W32)) (s : State) : Out :=
  if 2 < fn ∨ !(s.bmk.running.contains (64 * fn + inst)) ∨ s.switching ∨ s.crossing then done s s
  else done s (s.calEnd (64 * fn + inst) quality trims)

/-- PERIODIC_TRAIN_DONE: a rank's training completes (R310); the second rank of a channel ends the calibration of
its instance of function 3. -/
def execPeriodicTrainDone (rank margin : Nat) (trims : List (Nat × W32)) (s : State) : Out :=
  let c := chanOf rank
  if !(s.bitAt (Reg.DCH_STATUS c.1) 2) ∨ s.switching ∨ s.crossing ∨ (s.memGroup (rank / 16)).mig.isSome then done s s
  else
    let t := s.trainDone rank margin trims
    if !(t.bmk.running.contains (192 + c.1)) then done s t
    else if c.2 = 0 then done s (t.trainStart (rank + 1))
    else done s (t.calEnd (192 + c.1) (min (t.fld (Reg.DCH_TRAIN_MARGIN c.1) 15 0) margin) [])

/-- CAL_RETRY: an instance that missed its floor is tried again after BMK_RETRY_S (R398). -/
def execCalRetry (fn inst : Nat) (s : State) : Out :=
  let k := 64 * fn + inst
  match (s.cal k).retryAt with
  | some t => if s.clk < t then done s s
    else done s (((s.setCal k { s.cal k with retryAt := none }).calWait k false).calStart)
  | none => done s s

/-- BMK_CMD.GO by a domain: an instance, or all of a function, is to be calibrated (R396). -/
def State.writeBmkCmd (s : State) (d : Dom) (v : Nat) : State :=
  if !(bit v 31) then s
  else
    let f := bits v 1 0
    let i := bits v 14 8
    if i = 0x7F then
      ((List.range (calCount f)).foldl (fun (t : State) (j : Nat) => t.calWait (64 * f + j) true) s).calStart
    else if calCount f ≤ i then s.writeIgnored d Reg.BMK_CMD v
    else (s.calWait (64 * f + i) true).calStart

/-- The instance that BMK_SEL selects. -/
def State.bmkSel (s : State) : Nat := 64 * s.fld Reg.BMK_SEL 1 0 + s.fld Reg.BMK_SEL 13 8

/-- BMK_QUAL of the selected instance (R398). -/
def State.bmkQual (s : State) : Nat :=
  let x := s.cal s.bmkSel
  min x.qual 65535 + (if x.poor then 65536 else 0) + bitsOfInt 12 (x.trig / 4) * 2 ^ 20

/-- A write of BMK_TRIMj by a domain: refused for an instance that calibrates (R399). -/
def State.writeTrim (s : State) (d : Dom) (j v : Nat) : State :=
  let k := s.bmkSel
  if s.bmk.running.contains k then s.writeIgnored d (Reg.BMK_TRIM j) v
  else { s with bmk := { s.bmk with trims := aset 0 (16 * k + j) (BitVec.ofNat 32 v) s.bmk.trims } }

/-- Every instance is calibrated at bring-up (R396). -/
def State.calBringUp (s : State) : State :=
  { s with bmk := { s.bmk with waiting := calAll, asked := calAll } }.calStart

end Sys2Proof.Machine
end

