-- ==== Sys2Proof/Machine/Bringup.lean ====
section
/-! DEFINITION. Bring-up by the active Landing (R42, R309, R350, R354, R358): what step 4 starts, the panel map, the
training waves, Graticule BIST, Logbook replay and the Wear ledger. -/

namespace Sys2Proof.Machine

/-- Flash address of copy `k` of the panel map area (R354). -/
def mapCopyAddr (k : Nat) : Nat := 0x1800000 + 0x400000 * k

/-- MAP_CRC of a stored map verifies (R354). -/
def State.mapCopyOk (s : State) (l : Landing) (k : Nat) : Bool :=
  let a := mapCopyAddr k
  let total := s.flashLe l (a + 8) 4
  decide (256 ≤ total) && decide (total ≤ 0x400000) &&
    decide (crc32c (s.flashBytes l a 0xC ++ leBytes 4 0 ++ s.flashBytes l (a + 0x10) (total - 0x10)) =
      s.flashLe l (a + 0xC) 4)

/-- The copy that is loaded: the newest whose MAP_CRC verifies, else the other (R354). -/
def State.mapCopyFor (s : State) (l : Landing) : Nat :=
  let k := (s.land l).mapCopy % 2
  if s.mapCopyOk l k then k else 1 - k

/-- The map is loaded from flash into bank 0, and its validation starts (R42, R350). -/
def State.mapLoad (s : State) (l : Landing) : State :=
  let a := mapCopyAddr (s.mapCopyFor l)
  let total := s.flashLe l (a + 8) 4
  let n := if total ≤ 0x400000 then max 256 total else 256
  let bs := s.flashBytes l a n
  let t := { s with mem := { s.mem with
    pmap := asetMany 0 0 bs (adrop (fun k => decide (k < 0x400000)) s.mem.pmap) } }
  { t.setBit Reg.SEQ_PMAP_STATUS 3 true with
    seq := { t.seq with validating := some 0, modified := false, bootMap := true } }

/-- Offset of the first section of type `ty` in the image of a Landing's flash (R356). -/
def State.imageSection (s : State) (l : Landing) (ty : Nat) : Option Nat :=
  ((List.range 4).find? (fun i => decide (s.flashLe l (0x20 + 16 * i) 2 = ty))).map
    (fun i => s.flashLe l (0x20 + 16 * i + 4) 4)

/-- The values of the board configuration record are applied (R289, R358). -/
def State.boardConfig (s : State) (l : Landing) : State :=
  match s.imageSection l 4 with
  | none => s
  | some o =>
    let f := fun (x n : Nat) => s.flashLe l (o + x) n
    let s1 := (s.wr Reg.DMG0_MAP_CFG (f 0xE 1 % 16 + (f 0xF 1 % 2) * 16 + (f 0xD 1 % 4) * 32)).wr
      Reg.DMG0_DATA_RATE (f 0x10 2)
    let s2 := (List.range 4).foldl (fun (t : State) (p : Nat) =>
      (((t.setFld (Reg.ETH_CTRL p) 2 1 (bits (f 0x12 1) (2 * p + 1) (2 * p))).wr (Reg.DTM_EXT_RX_LAT p)
        (f (0x20 + 2 * p) 2)).wr (Reg.DTM_EXT_TX_LAT p) (f (0x28 + 2 * p) 2))) s1
    s2

/-- Step 4 of R350: the firmware of the active Landing starts bring-up. GRT_KERNEL_VER reports the image's kernel set,
whose version the manual places nowhere: a free value (R192, assumption 1). -/
def State.bringUpStart (s : State) (l : Landing) : State :=
  let s1 := { s with moor := { s.moor with
    bringUp := true, grtDone := false, discDone := false, memDone := false, logDone := false, wearDone := false } }
  let s2 := ((s1.setFld Reg.BOOT_STATUS 1 0 2).setBit Reg.LOGB_STATUS 0 false).setFld Reg.DMG0_TRAIN_STATUS 3 0 0
  let (v, s3) := s2.drawFree
  (((s3.wr Reg.GRT_KERNEL_VER v).boardConfig l).calBringUp).mapLoad l

/-- Bring-up ends without a map: STAGE reads RUN (R42, R352). -/
def State.endNoMap (s : State) : State :=
  if s.moor.bringUp && !s.seq.hasMap && s.bitAt Reg.SEQ_PMAP_STATUS 4 && s.moor.grtDone && s.moor.wearDone then
    s.runStage
  else s

/-- PMAP_VALIDATE_DONE: validation ends (R40, R48); a map loaded at boot comes into use and discovery starts, or bring-up
goes on without a map (R42, R350). -/
def execPmapValidateDone (s : State) : Out :=
  let (t, r) := s.pmapChecked
  match r with
  | none => done s s
  | some (_, c) =>
    if !s.seq.bootMap then done s t
    else
      let u := { t with seq := { t.seq with bootMap := false } }
      done s (if c = 0 ∧ queueSpaceOk (u.worstLines 0) = true then (((u.adoptMap 0).grtAdopt 0).recheckLayers).discover
        else (u.setBit Reg.SEQ_PMAP_STATUS 4 true).endNoMap)

/-- The active map's bytes in a form to be stored. -/
def State.mapImage (s : State) : List Byte := s.pmapBytes s.mapBank 0 (s.mapF 8 4)

/-- The new map replaces the older copy in a Landing's flash (R42, R354). -/
def State.mapStore (s : State) (l : Landing) : State :=
  let k := 1 - (s.land l).mapCopy % 2
  ((s.flashErase l (mapCopyAddr k) 0x400000).flashPut l (mapCopyAddr k) s.mapImage).setLand l
    { s.land l with mapCopy := k }

/-- PMAP_PERSIST: the active Landing writes the map in use into its own flash and over the Hawser into the standby's
(R42). -/
def execPmapPersist (s : State) : Out :=
  match s.active with
  | none => done s s
  | some l =>
    if !s.seq.persist || !s.seq.hasMap then done s s
    else
      let t := { s with seq := { s.seq with persist := false } }.mapStore l
      done s (if t.bitAt Reg.HAWS_STATUS 0 then t.mapStore l.other else t)

/-- GRT_BIST_DONE: Graticule BIST of bring-up ends (R210, R350). -/
def execGrtBistDone (fails : List (Nat × Nat)) (s : State) : Out :=
  if !s.moor.bringUp || s.moor.grtDone || s.active.isNone then done s s
  else
    let t := s.bistDone fails
    done s (if t.seq.hasMap then (t.grtAdopt t.mapBank).endNoMap else t.endNoMap)

/-- What a replay restores beside the ledger: retired engines, ranks out of service, and the hours (R212, R309,
R323, R373, R386). -/
def State.restoreJournal (s : State) (l : Landing) : State :=
  let rs := s.bankRecs l (s.side l).cur
  let le := fun (r : LogRec) (o n : Nat) => leNat ((r.payload.drop o).take n)
  let eng := (rs.filter (fun r => decide (r.ty = 5))).map (fun r => (le r 0 4, le r 4 4))
  let ranks := (rs.filter (fun r => decide (r.ty = 4))).map (fun r => le r 0 4)
  let t := (s.restoreRetired eng).restoreRanks ranks
  match (rs.filter (fun r => decide (r.ty = 10))).getLast? with
  | some r => (t.wr Reg.TEL_POWERED_S (le r 0 8)).wr Reg.TEL_OUTPUT_S (le r 8 8)
  | none => t

/-- LOGBOOK_REPLAY_DONE: replay of the Logbook ends after `ms` milliseconds (R378). -/
def execLogbookReplayDone (ms : Nat) (s : State) : Out :=
  match s.active with
  | none => done s s
  | some l =>
    if !s.moor.bringUp || s.moor.logDone then done s s
    else done s ((s.replayDone l ms).restoreJournal l)

/-- WEAR_LEDGER_RESTORED: step 11 of R350, after steps 9 and 10. -/
def execWearLedgerRestored (s : State) : Out :=
  match s.active with
  | none => done s s
  | some l =>
    let map := s.seq.hasMap || s.bitAt Reg.SEQ_PMAP_STATUS 4
    if !(s.moor.bringUp && s.moor.memDone && s.moor.logDone && map) || s.moor.wearDone then done s s
    else done s (s.ledgerRestored l).endNoMap

end Sys2Proof.Machine
end

