-- ==== Sys2Proof/Machine/GwyBase.lean ====
section
/-! DEFINITION. The end of a Gangway transfer (R412, R417). -/

namespace Sys2Proof.Machine

/-- Channel `n`. -/
def State.gwyChan (s : State) (n : Nat) : GwyChan := aget {} n s.gwy.chans

/-- Replace it. -/
def State.setGwy (s : State) (n : Nat) (c : GwyChan) : State :=
  { s with gwy := { s.gwy with chans := aset {} n c s.gwy.chans } }

/-- GWYn_STATUS.STATE: 0 IDLE, 1 ACTIVE, 2 DONE, 3 ERROR. -/
def State.gwyState (s : State) (n : Nat) : Nat := s.fld (Reg.GWY_STATUS n) 1 0

/-- At the end of a transfer GWYn_ADDR holds the next internal address unless it was rewritten (R412). -/
def State.gwyAddrEnd (s : State) (n : Nat) : State :=
  let c := s.gwyChan n
  if c.rewritten then s else s.wr64 (Reg.GWY_ADDR_LO n) (Reg.GWY_ADDR_HI n) c.addr

/-- GANGWAY_ERROR: a transfer ends in ERROR with a code and the internal address concerned (R417); `raise` is false for an
ABORT that comes with GO (R412). -/
def State.gwyError (s : State) (n code addr : Nat) (raise : Bool := true) : State :=
  let t := ((s.gwyAddrEnd n).wr (Reg.GWY_STATUS n) (3 + code * 256)).wr64 (Reg.GWY_ERR_ADDR_LO n) (Reg.GWY_ERR_ADDR_HI n) addr
  if raise then t.raise (Page.GWY n) 1 else t

/-- A running transfer ends with ABORTED or another code at its next internal address. -/
def State.gwyStop (s : State) (n code : Nat) (raise : Bool := true) : State :=
  if s.gwyState n = 1 then s.gwyError n code (s.gwyChan n).addr raise else s

end Sys2Proof.Machine
end

