-- ==== Sys2Proof/Machine/Queues.lean ====
section
/-! DEFINITION. The dual-clock queues: credits, packets with a length slot, overflow and reset (R276 to R284,
R288). -/

namespace Sys2Proof.Machine

/-- A queue by its QID. -/
def State.queue (s : State) (q : Nat) : DualQueue := aget {} q s.queues

/-- Replace it. -/
def State.setQueue (s : State) (q : Nat) (x : DualQueue) : State := { s with queues := aset {} q x s.queues }

/-- Depth of a queue in items; none where the inventory lists no such QID (R288). A ray queue's items are 16 bytes of
its port's share (R195). -/
def State.queueDepth (s : State) (q : Nat) : Option Nat :=
  if q < 0x004 then some 256
  else if 0x010 ≤ q ∧ q < 0x020 then some 64
  else if 0x020 ≤ q ∧ q < 0x028 then some 8
  else if 0x030 ≤ q ∧ q < 0x038 then some 256
  else if 0x038 ≤ q ∧ q < 0x040 then some 128
  else if 0x040 ≤ q ∧ q < 0x080 then some (256 * aget 0 (q - 0x040) s.grt.share)
  else if 0x080 ≤ q ∧ q < 0x0C0 then some 32
  else if q = 0x0C0 ∨ q = 0x0C1 then some 64
  else if q = 0x0C2 then some 2
  else if q = 0x0C8 ∨ q = 0x0C9 then some 64
  else if q = 0x0CA then some 2
  else if q = 0x0D0 ∨ q = 0x0D1 then some 64
  else if 0x100 ≤ q then (Config.fabricQueue q).map (fun _ => Config.fabricDepth q)
  else none

/-- The page that reports a queue, and its QUEUE_ERR bit (R282, R288, R428). -/
def queuePage (q : Nat) : Nat × Nat :=
  if q < 0x004 then (Page.ETH q, 1)
  else if q < 0x040 then (Page.DMG (q % 8), 3)
  else if q < 0x0C0 then (Page.TP (q % 64), 5)
  else if q < 0x0C2 then (Page.PCI (q - 0x0C0), 1)
  else if q = 0x0C2 then (Page.SFT, 0)
  else if q < 0x0CA then (Page.PCI (q - 0x0C8), 1)
  else if q = 0x0CA then (Page.SFT, 0)
  else if q < 0x100 then (Page.HAWS, 1)
  else match Config.fabricQueue q with
    | some (n + 1) => (Page.DEC (n % 8), 4)
    | _ => (Page.ING, 3)

/-- A queue event is reported: 0x00F0 QUEUE_RESET or 0x00F1 QUEUE_OVERFLOW (R282, R430). -/
def State.queueReport (s : State) (q code : Nat) : State :=
  let x := queuePage q
  (s.captureDev x.1 code q).raise x.1 x.2

/-- A push without credit is dropped and reported (R284). -/
def State.queueOverflow (s : State) (q : Nat) : State := (s.telOverflow q).queueReport q 0x00F1

/-- Mark a packet as having lost an item. -/
def dropInto : Nat → List QueueEntry → List QueueEntry
  | _, [] => []
  | 0, .packet m b l _ :: r => .packet m b l true :: r
  | 0, e :: r => e :: r
  | k + 1, e :: r => e :: dropInto k r

/-- Add an item to a packet's body; none where place `k` holds no open packet with room. -/
def bodyInto (v : Nat) : Nat → List QueueEntry → Option (List QueueEntry)
  | _, [] => none
  | 0, .packet m b none d :: r => if b.length < m then some (.packet m (b ++ [v]) none d :: r) else none
  | 0, _ :: _ => none
  | k + 1, e :: r => (bodyInto v k r).map (fun l => e :: l)

/-- QUEUE_PUSH: the producer pushes an item and consumes a credit; a packet reserves its largest length (R276, R278,
R284). -/
def execQueuePush (qid : Nat) (p : QueuePush) (s : State) : Out :=
  match s.queueDepth qid with
  | none => done s s
  | some n =>
    let x := s.queue qid
    match p with
    | .item v =>
      if n ≤ x.spent ∨ x.resetting then done s (s.queueOverflow qid)
      else done s (s.setQueue qid { x with entries := x.entries ++ [.item v s.clk], spent := x.spent + 1 })
    | .start most =>
      if n < x.spent + most ∨ x.resetting then done s (s.queueOverflow qid)
      else done s (s.setQueue qid { x with
        entries := x.entries ++ [.packet most [] none false], spent := x.spent + most })
    | .body k v =>
      match bodyInto v k x.entries with
      | some l => done s (s.setQueue qid { x with entries := l })
      | none => done s ((s.setQueue qid { x with entries := dropInto k x.entries }).queueOverflow qid)

/-- Write a packet's length word; ABANDON is set where an item was dropped (R279, R284). The answer is the entries
and the credits that were reserved and not used. -/
def lengthInto (w : W32) (clk : Nat) : Nat → List QueueEntry → List QueueEntry × Nat
  | _, [] => ([], 0)
  | 0, .packet m b none d :: r =>
    (.packet b.length b (some (if d then w ||| 0x40000000#32 else w, clk)) d :: r, m - b.length)
  | 0, e :: r => (e :: r, 0)
  | k + 1, e :: r => let x := lengthInto w clk k r; (e :: x.1, x.2)

/-- PACKET_LENGTH_WRITE: the length word is written with VALID set, the packet ends, and the credits it did not use
return to the producer's counter (R278, R279). -/
def execPacketLengthWrite (qid pkt : Nat) (word : W32) (s : State) : Out :=
  let x := s.queue qid
  if !(bit word.toNat 31) then done s s
  else
    let y := lengthInto word s.clk pkt x.entries
    done s (s.setQueue qid { x with entries := y.1, spent := x.spent - y.2 })

/-- What a pop at instant `clk` takes: the rest of the queue, the item, and the credits returned (R278, R279, R283).
A push or length word of the same instant is not visible yet; an abandoned packet is discarded whole. -/
def popFrom (clk : Nat) : List QueueEntry → List QueueEntry × Option Nat × Nat
  | [] => ([], none, 0)
  | .item v t :: r => if t < clk then (r, some v, 1) else (.item v t :: r, none, 0)
  | .packet m b none d :: r => (.packet m b none d :: r, none, 0)
  | .packet m b (some (w, t)) d :: r =>
    if clk ≤ t then (.packet m b (some (w, t)) d :: r, none, 0)
    else if bit w.toNat 30 then (r, none, b.length)
    else match b with
      | [] => (r, none, 0)
      | v :: [] => (r, some v, 1)
      | v :: vs => (.packet m vs (some (w, t)) d :: r, some v, 1)

/-- QUEUE_POP: the consumer takes the oldest visible item and returns its credit; from an empty queue it takes nothing,
which is no error (R276, R283). -/
def execQueuePop (qid : Nat) (s : State) : Out :=
  let x := s.queue qid
  if x.resetting then done s s
  else
    let (l, v, n) := popFrom s.clk x.entries
    let t := s.setQueue qid { x with entries := l, returning := x.returning + n }
    done s (match v with | some i => t.emit (.popped qid i) | none => t)

/-- CREDIT_RETURN: a returned credit becomes visible to the producer (R276). -/
def execCreditReturn (qid : Nat) (s : State) : Out :=
  let x := s.queue qid
  if x.returning = 0 then done s s
  else done s (s.setQueue qid { x with returning := x.returning - 1, spent := x.spent - 1 })

/-- The clock of one side of the queue is stopped, which suspends its comparisons (R280, R444 to R446). -/
def State.queueStopped (s : State) (q : Nat) : Bool :=
  if 0x040 ≤ q ∧ q < 0x0C0 then s.link.noRef.contains (q % 64 / 8)
  else if q = 0x0D0 ∨ q = 0x0D1 then s.moor.a.refLost || s.moor.b.refLost
  else if q < 0x004 then !s.dtm.erefclk
  else false

/-- A queue reset discards everything and takes the producer's credits until it is done (R281). -/
def State.queueDrop (s : State) (q n : Nat) : State :=
  s.setQueue q { entries := [], spent := n, returning := 0, resetting := true }

/-- QUEUE_RESET_DONE: the acknowledgement reaches the producer, whose counter is N again (R281). -/
def execQueueResetDone (qid : Nat) (s : State) : Out :=
  if (s.queue qid).resetting then done s (s.setQueue qid {}) else done s s

end Sys2Proof.Machine
end

