-- ==== Sys2Proof/Machine/Mooring.lean ====
section
/-! DEFINITION. The Mooring: heartbeats, leases, claims, the grant of the helm token, take-over, planned swaps, drills
and revert (R326 to R347). -/

namespace Sys2Proof.Machine

/-- A Landing runs its ROM or firmware, and sends heartbeats (R330); one that fenced itself as the holder sends none until
the token has left it (R327). -/
def State.beats (s : State) (l : Landing) : Bool :=
  decide (1 ≤ s.landState l) && decide (s.landState l ≤ 5) && !(s.land l).fenced

/-- MOOR_STATUS shows whether a lease is fresh. -/
def State.setFresh (s : State) (l : Landing) (b : Bool) : State := s.setBit Reg.MOOR_STATUS (2 + l.idx) b

/-- A heartbeat reaches its receiver on the mailbox path or on the Hawser pair; 64 in a row clear a path fault, and the
other path's three misses are now a path fault (R330). -/
def State.beatSeen (s : State) (r : Landing) (mail : Bool) : State :=
  let x := s.land r
  let n := (if mail then x.okMail else x.okHaws) + 1
  let bitNo := if mail then 12 else 11
  let clears := (if mail then x.pathMail else x.pathHaws) && decide (64 ≤ n)
  let x1 : LandingSt :=
    if mail then { x with
      hbMail := s.clk, missMail := 0, okMail := n, pathMail := x.pathMail && !clears, peerFailed := false
      noClaim := false }
    else { x with
      hbHaws := s.clk, missHaws := 0, okHaws := n, pathHaws := x.pathHaws && !clears, peerFailed := false
      noClaim := false }
  let t := s.setLand r x1
  let u := if clears then t.setBit Reg.MOOR_STATUS bitNo false else t
  if mail then u else u.setBit Reg.HAWS_STATUS 1 true

/-- Three misses in a row on one path, while the other delivers, are a path fault (R330). -/
def State.pathCheck (s : State) (r : Landing) : State :=
  let x := s.land r
  let fault (t : State) (mail : Bool) : State :=
    let y := t.land r
    let u := t.setLand r (if mail then { y with pathMail := true, okMail := 0 } else { y with pathHaws := true, okHaws := 0 })
    (((u.setBit Reg.MOOR_STATUS (if mail then 12 else 11) true).inc Reg.MOOR_PATH_FAULT_COUNT).raise Page.MOOR 2).faultKind
      Page.MOOR (if mail then 65 else 64) r.idx 0
  if 3 ≤ x.missHaws ∧ x.missMail = 0 ∧ !x.pathHaws then fault s false
  else if 3 ≤ x.missMail ∧ x.missHaws = 0 ∧ !x.pathMail then fault s true
  else s

/-- The standby disregards heartbeats of a path under MOOR_HB_TEST. -/
def State.hbIgnored (s : State) (r : Landing) (mail : Bool) : Bool :=
  decide (s.landState r = 3) && s.bitAt Reg.MOOR_HB_TEST (if mail then 1 else 0)

/-- LANDING_HEARTBEAT: Landing `l` sends its heartbeat on both paths (R328, R330). `haws`: it arrives over the Hawser pair;
`reach`: its mailbox write reaches the Mooring, which refreshes the lease; `read`: the peer reads it. -/
def execLandingHeartbeat (l : Landing) (haws reach read : Bool) (s : State) : Out :=
  if !(s.beats l) then done s s
  else
    let r := l.other
    let s1 := if reach then (s.setLand l { s.land l with lease := some s.clk }).setFresh l true else s
    let listens := s1.beats r
    let s2 := if haws && listens && !(s1.hbIgnored r false) then s1.beatSeen r false else s1
    let s3 := if reach && read && listens && !(s2.hbIgnored r true) then s2.beatSeen r true else s2
    done s (if listens then s3.pathCheck r else s3)

/-- A Landing declares its peer failed; a holder or a standby then claims the token (R330, R331). -/
def State.peerLost (s : State) (r : Landing) : State :=
  let x := s.land r
  if x.missHaws < 3 ∨ x.missMail < 3 ∨ x.peerFailed then s
  else
    let t := s.setLand r { x with peerFailed := true }
    if (t.landState r = 3 ∨ t.landState r = 4) ∧ !x.noClaim then t.emit (.claim r) else t

/-- HB_MISS: 55 µs pass for the receiving Landing on a path without a heartbeat (R330). -/
def execHbMiss (receiver : Landing) (mail : Bool) (s : State) : Out :=
  let x := s.land receiver
  let since := if mail then x.hbMail else x.hbHaws
  if !(s.beats receiver) ∨ s.clk < since + 55000 then done s s
  else
    let x1 : LandingSt :=
      if mail then { x with hbMail := s.clk, missMail := x.missMail + 1, okMail := 0 }
      else { x with hbHaws := s.clk, missHaws := x.missHaws + 1, okHaws := 0 }
    let s1 := s.setLand receiver x1
    let s2 := if mail then s1.incFld (Reg.LND_HB_MISS receiver.idx) 31 16 else s1.incFld (Reg.LND_HB_MISS receiver.idx) 15 0
    let s3 := if !mail && decide (3 ≤ x1.missHaws) then s2.setBit Reg.HAWS_STATUS 1 false else s2
    done s ((s3.pathCheck receiver).peerLost receiver)

/-- Keep a claim of a Landing, or clear it. -/
def State.setClaim (s : State) (l : Landing) (c : Option Nat) : State :=
  match l with
  | .a => { s with moor := { s.moor with claimA := c } }
  | .b => { s with moor := { s.moor with claimB := c } }

/-- A kept claim that is not older than 300 µs (R329). -/
def State.claimLive (s : State) (l : Landing) : Bool :=
  match s.claimOf l with
  | some t => decide (s.clk ≤ t + 300000)
  | none => false

/-- The Landing that is preferred in a decision of R329: during a drill's watch and swap back the original one (R342). -/
def State.favoured (s : State) : Landing :=
  match s.moor.drill with
  | some (o, _, _) => if s.moor.watchEnd.isSome ∨ s.moor.swapWant = 2 then o else s.preferred
  | none => s.preferred

/-- LOST_WRITES and the other figures of a take-over (R336, R338). -/
def State.takeoverInfo (s : State) (cause ext : Nat) (hold : Bool) : State :=
  let fs := match s.seq.frames.find? (fun f => decide (f.nextSlot < f.lines)) with
    | some f => f.fs
    | none => s.frameSeq
  ((s.wr Reg.MOOR_TAKEOVER_INFO (cause + (if hold then 0x100 else 0) + min ext 7 * 0x200 +
    min s.moor.writes 65535 * 0x10000)).wr Reg.MOOR_TAKEOVER_SEQ fs).inc Reg.MOOR_TAKEOVER_COUNT

/-- A commit of a page that a copy holds has taken effect since (R335). -/
def State.takenSince (s : State) (p : Nat) (c : StateCopy) : Bool := seqNewer (s.rd (Reg.COMMIT_SEQ p)) c.fs

/-- The inactive descriptor banks of a Landing without a copy hold what the manual leaves open. -/
def State.freeBanks (s : State) : State :=
  (List.range 32).foldl (fun (t : State) (k : Nat) =>
    let bs := (List.range 128).map (fun i => BitVec.ofNat 8 (Config.freeNat (t.fresh + i)))
    { t with
      fresh := t.fresh + 128
      mem := { t.mem with layd := asetMany 0 (laydAddr k (1 - t.layBank k)) bs t.mem.layd } }) s

/-- What is written but not committed, and what is pending, comes only from the new holder's copy; what was written after
it is lost (R335, R338). -/
def State.restoreShadow (s : State) (l : Landing) : State :=
  match (s.land l).copy with
  | some c =>
    let s1 := (scopedPages.flatMap frameScoped).foldl (fun (t : State) (a : Nat) =>
      match c.written.find? (fun x => decide (x.1 = a)) with | some x => t.setReg a x.2 | none => t) s
    let keep := scopedPages.filter (fun p => decide (aget 0 p c.commits ≠ 0) && !(s.takenSince p c))
    let s2 := { s1 with
      pend := (c.pend.filter (fun x => keep.contains (x.1 / 0x1000)))
      seq := { s1.seq with commits := c.commits.filter (fun x => keep.contains x.1) } }
    let s3 := (s2.pendingLayers.filter (fun x => !(c.layers.any (fun y => decide (y.1 = x.1))))).foldl
      (fun (t : State) (x : Nat × Nat) => t.setLayer x.1 { t.layer x.1 with pendAt := none }) s2
    let s4 := ((List.range 64).filter (fun k => s3.sheetBit k 2 && !(c.slots.contains k))).foldl
      (fun (t : State) (k : Nat) => t.setSheetBit k 2 false) s3
    (List.range 32).foldl (fun (t : State) (k : Nat) =>
      let a := laydAddr k (1 - t.layBank k)
      { t with mem := { t.mem with layd := asetMany 0 a (agetMany 0 a 128 c.layd) t.mem.layd } }) s4
  | none =>
    let s1 := (scopedPages.flatMap frameScoped).foldl (fun (t : State) (a : Nat) => t.wr a (t.inForce a)) s
    let s2 := { s1 with pend := [], seq := { s1.seq with commits := [] } }
    let s3 := s2.pendingLayers.foldl (fun (t : State) (x : Nat × Nat) =>
      t.setLayer x.1 { t.layer x.1 with pendAt := none }) s2
    ((((List.range 64).filter (fun k => s3.sheetBit k 2)).foldl
      (fun (t : State) (k : Nat) => t.setSheetBit k 2 false) s3).freeBanks)

/-- The frame whose slots run: its slot 0 has begun and slots are left (R336). -/
def State.emitting (s : State) : Option FrameSt :=
  s.seq.frames.find? (fun f => decide (f.s0 ≤ s.clk) && decide (f.nextSlot < f.lines))

/-- By how many line periods the first line not yet started moves in Bounded Gap (R336). -/
def State.gapSlots (s : State) (f : FrameSt) : Nat :=
  let t := s.clk + max f.tL 2000
  let k := if t ≤ f.s0 then 0 else ceilDiv (t - f.s0) (max 1 f.tL)
  k - f.nextSlot

/-- Bounded Gap: the remaining slots move, and those of the frame after it with them (R336). -/
def State.boundGap (s : State) (f : FrameSt) : State :=
  let d := s.gapSlots f * f.tL
  { s with seq := { s.seq with
    extend := s.seq.extend + d
    frames := s.seq.frames.map (fun (g : FrameSt) => if g.nextSlot < g.lines then { g with s0 := g.s0 + d } else g) } }

/-- Lines of a frame that are not started are not sent, and nothing that covers them is compared (R336, R337). -/
def State.skipRest (s : State) (f : FrameSt) : State :=
  let rest := s.portsOn.flatMap (fun p => ((List.range (s.portF p 6 2)).filter (fun n =>
    decide (f.nextSlot ≤ n + 1) && (match f.row (rowKey p n) with
      | some r => !(r.sent || r.missed)
      | none => true))).map (fun n => (p, n)))
  rest.foldl (fun (t : State) (x : Nat × Nat) =>
    match t.frameOf f.fs with
    | some g => ((t.setFrame { (g.setRow (rowKey x.1 x.2) { segs := [], missed := true }) with nextSlot := f.lines }).sigMiss
        f.fs x.1 x.2).probeMiss f.fs x.1 x.2
    | none => t) s

/-- The gap rule of the mode in force for the frame whose slots run (R336): state, extension in line periods, Hold. -/
def State.gapRule (s : State) : State × Nat × Bool :=
  if s.fld Reg.MOOR_STATUS 7 6 = 1 then
    let t := s.drivenPorts.foldl (fun (u : State) (p : Nat) => u.holdSoon p (!(u.classH p)) 2) s
    (match s.emitting with
      | some f => (t.skipRest f, 0, true)
      | none => (t, 0, true))
  else match s.emitting with
    | some f => (s.boundGap f, s.gapSlots f, false)
    | none => (s, 0, false)

/-- A Landing of the token becomes active, and the one that held it standby while it runs (R335, R340); a transfer on GWY3
ends with ABORTED (R417). -/
def State.passRoles (s : State) (l : Landing) : State :=
  let t := if s.landState l.other = 4 then s.setLandState l.other 3 else s
  (t.setLandState l 4).gwyStop 3 9

/-- The handover of R336 beside the gap rule: the Logbook, and a crossing that restarts at its step 3 (R229, R236, R375,
R376). -/
def State.handover (s : State) (l : Landing) : State :=
  let s2 := { s with
    log := { s.log with mirror := [] }
    seq := { s.seq with crossApplied := s.seq.crossApplied.map (fun _ => s.clk) } }
  let s3 := (s2.setMirror false).logRegs l
  if s3.compacting && (s3.side l).target.isNone then (s3.setBit Reg.LOGB_STATUS 1 false).setBit Reg.LOGB_STATUS 3 false
  else s3

/-- A drill passes (R341). -/
def State.drillPass (s : State) : State :=
  let t := { s with moor := { s.moor with drill := none, watchEnd := none, swapWant := 0, ageFrom := s.clk } }
  (((((t.setFld Reg.MOOR_DRILL_STATUS 1 0 2).setFld Reg.MOOR_DRILL_STATUS 31 16 0).raise Page.MOOR 6).revertWatch).noteKind
    64 [])

/-- A drill ends with RESULT 3 (R342). -/
def State.drillFail (s : State) (cause : Nat) : State :=
  let t := { s with moor := { s.moor with drill := none, watchEnd := none, swapWant := 0 } }
  (((((t.setFld Reg.MOOR_DRILL_STATUS 1 0 3).setFld Reg.MOOR_DRILL_STATUS 15 8 cause).raise Page.MOOR 7).revertWatch).faultKind
    Page.MOOR 66 cause 0)

/-- TAKEOVER: the Landing granted the token runs the handover and goes on (R335 to R338, R342). -/
def State.takeover (s : State) (l : Landing) : State :=
  let inDrill := match s.moor.drill with
    | some (o, _, _) => decide (o = l) && (s.moor.watchEnd.isSome || decide (s.moor.swapWant = 2))
    | none => false
  let cause := if inDrill then 3 else if (s.land l).peerFailed then 1 else 2
  let s1 := (s.copyAbort.passRoles l).restoreShadow l
  let (s2, ext, hold) := s1.gapRule
  let s3 := (s2.handover l).takeoverInfo cause ext hold
  let s4 := { s3 with moor := { s3.moor with
    lastHolder := none, hold := false, swapAtGate := false, holdOver := [], writes := 0, afterSwap := false } }
  let s5 := ((s4.setBit Reg.MOOR_STATUS 4 (s4.synced l.other)).raise Page.MOOR 0).flushWaiting
  let s6 := s5.faultKind Page.MOOR 67 cause s5.frameSeq
  let s7 := if inDrill then s6.drillFail (if s.moor.lastFenced then 1 else 2) else s6
  s7.revertWatch

/-- The token is granted to a Landing (R329): one whose firmware runs becomes active, and takes over a datapath that
runs, or starts bring-up. -/
def State.grant (s : State) (l : Landing) : State :=
  let s1 := ({ s with moor := { s.moor with
    claimA := none, claimB := none, window := none, heldClaim := none, powerFree := false } }).setHolder (some l)
  if s1.landState l ≠ 3 ∧ s1.landState l ≠ 4 then s1
  else if s1.fld Reg.BOOT_STATUS 1 0 = 3 then s1.takeover l
  else
    let s2 := s1.passRoles l
    ({ s2 with moor := { s2.moor with lastHolder := none, hold := false, holdOver := [] } }).bringUpStart l

/-- Simultaneous claims against a fresh lease: both are cleared, and no Landing switches (R329, R331). -/
def State.dualFault (s : State) (h : Landing) : State :=
  let t := (s.setClaim .a none).setClaim .b none
  let u := { t with moor := { t.moor with window := none } }.setLand h.other { t.land h.other with noClaim := true }
  (u.setBit Reg.MOOR_STATUS 13 true).raise Page.MOOR 3

/-- A claim starts the claim window of a token that is not held under a fresh lease (R329). -/
def State.openWindow (s : State) (l : Landing) : State :=
  match s.moor.window with
  | some _ => s
  | none => { s with moor := { s.moor with window := some (l, s.clk + 2000) } }

/-- A claim of the Landing that is not preferred, seen less than 20 ms after PWRGOOD (R329). -/
def State.claimEarly (s : State) (l : Landing) : Bool :=
  (match s.moor.pwrgoodAt with
    | some t => decide (s.clk < t + 20000000)
    | none => false) && !decide (l = s.favoured)

/-- TOKEN_CLAIM: a Landing's claim reaches the Mooring (R329). A Landing in Slipway mode, in reset or fenced makes none, nor
does a standby that R331 bars. A claim in the first 20 ms against the preferred Landing that claimed first is cleared. -/
def State.tokenClaim (s : State) (l : Landing) : State :=
  if !(s.beats l) ∨ s.landState l = 5 ∨ ((s.land l).noClaim ∧ s.holder = some l.other) then s
  else match s.holder with
  | some h =>
    if h = l then
      if s.claimLive l.other then s.dualFault l else s.setClaim l (some s.clk)
    else if (s.land h).lease.isNone then (s.setClaim l (some s.clk)).openWindow l
    else if s.claimEarly l then s
    else if s.claimLive h then s.dualFault h
    else if (s.claimOf l).isSome then s
    else s.setClaim l (some s.clk)
  | none =>
    if s.moor.powerFree && decide (l = s.favoured) then s.grant l
    else if s.moor.powerFree && s.claimEarly l then { s with moor := { s.moor with heldClaim := some l } }
    else (s.setClaim l (some s.clk)).openWindow l

/-- Beside Landing `l`, whose claim runs the window that ends at `e`, the other Landing has a simultaneous claim (R329): one
within 2 µs of it, or one that it made before the window, as the holder, at most 300 µs earlier. -/
def State.simultaneous (s : State) (l : Landing) (e : Nat) : Bool :=
  match s.claimOf l, s.claimOf l.other with
  | some c, some d => decide (c ≤ d + 2000 ∧ d ≤ c + 2000) || decide (d + 2000 < e ∧ c ≤ d + 300000)
  | _, _ => false

/-- CLAIM_WINDOW_END: the token is granted; of two claims, to the preferred Landing (R329, R342). -/
def State.windowEnd (s : State) : State :=
  match s.moor.window with
  | none => s
  | some (l, e) =>
    if s.clk < e then s
    else if s.simultaneous l e ∧ s.beats l.other then s.grant s.favoured
    else s.grant l

/-- CLAIM_REFUSED: the lease is still fresh 300 µs after a claim (R329). -/
def execClaimRefused (l : Landing) (s : State) : Out :=
  match s.claimOf l, s.holder with
  | some t, some h =>
    if s.clk < t + 300000 ∨ (s.land h).lease.isNone then done s s
    else if h = l then done s (s.setClaim l none)
    else done s ((s.setClaim l none).raise Page.MOOR 4)
  | _, _ => done s s

/-- PREFERRED_WAIT_END: 20 ms after PWRGOOD a held claim is granted (R329). -/
def State.preferredWait (s : State) : State :=
  match s.moor.heldClaim, s.moor.pwrgoodAt with
  | some l, some t => if s.clk < t + 20000000 ∨ s.holder.isSome then s else s.grant l
  | _, _ => s

/-- LEASE_EXPIRY: a lease expires 200 µs after its last refresh; a holder's expiry frees the token, gates its outputs, and
starts the claim window of a pending claim (R15, R328, R329, R463). -/
def State.leaseExpiry (s : State) (l : Landing) : State :=
  match (s.land l).lease with
  | none => s
  | some t =>
    if s.clk < t + 200000 then s
    else
      let s1 := (s.setLand l { s.land l with lease := none }).setFresh l false
      if s1.holder ≠ some l then s1
      else
        let o := l.other
        let s2 := (s1.copyAbort.setHolder none).setLand l { s1.land l with
          fenced := (s1.land l).fenced && (decide (s1.landState l = 0) || decide (s1.landState l = 6)) }
        let s3 := { s2 with moor := { s2.moor with
          lastHolder := some (l, t), lastFenced := (s1.land l).fenced, hold := true, swapAtGate := false } }
        let s4 := s3.setLand o { s3.land o with noClaim := false }
        if (s4.claimOf o).isSome then s4.openWindow o
        else if s4.landState o = 3 then s4.emit (.claim o) else s4

/-- A Landing stops its heartbeats, and issues no further write (R327). -/
def State.fence (s : State) (l : Landing) : State :=
  if s.landState l = 0 ∨ s.landState l = 6 then s
  else
    let act := decide (s.active = some l)
    let t := (s.setLand l { s.land l with fenced := true }).setLandState l 6
    if act then t.copyAbort else t

/-- The swap that waited was made: a drill's watch starts or it passes, or a revert is complete (R341, R343). -/
def State.swapDone (s : State) : State :=
  if s.moor.swapWant = 1 then
    let w := match s.moor.drill with | some (_, _, n) => n | none => 0
    ({ s with moor := { s.moor with swapWant := 0, watchEnd := some (s.clk + 1000000000 * w) } })
  else if s.moor.swapWant = 2 then s.drillPass
  else { s with moor := { s.moor with swapWant := 0, reverts := s.clk :: s.moor.reverts } }

/-- PLANNED_SWAP: the token passes to the standby that verified the gate's copy, which runs the handover (R340). -/
def State.plannedSwap (s : State) (l : Landing) : State :=
  let s1 := (s.setHolder (some l)).passRoles l
  let s2 := s1.setLand l.other { s1.land l.other with copy := none }
  let s3 := ({ s2 with moor := { s2.moor with afterSwap := true, writes := 0 } }).setSynced l.other false
  let s4 := if s3.emitting.any (fun f => decide (f.fs = s3.frameSeq)) then (s3.gapRule).1 else s3
  let s5 := (((s4.handover l).setBit Reg.MOOR_STATUS 4 false).inc Reg.MOOR_SWAP_COUNT).raise Page.MOOR 1
  (s5.endHold.noteKind 65 []).swapDone.revertWatch

/-- The copy's format lies in the range that the standby's image reads (R344). -/
def State.copyReads (s : State) (l : Landing) (fmt : Nat) : Bool :=
  match (s.land l).image with
  | some i => decide (i.copyFmt / 65536 ≤ fmt) && decide (fmt ≤ i.copyFmt % 65536)
  | none => false

/-- COPY_VERIFIED: a complete copy arrives at the standby; its CRC verifies or not (R332 to R334, R340, R344, R362, R376). -/
def State.copyVerified (s : State) (crcOk : Bool) : State :=
  match s.moor.sending, s.active with
  | some c, some h =>
    let l := h.other
    if !crcOk then (s.inc Reg.HAWS_CRC_ERR_COUNT).copyAbort
    else if s.landState l ≠ 3 then s.copyAbort
    else
      let (n, s0) := s.drawFree
      let dt := s.clk - c.sentAt
      let s1 := { s0 with moor := { s0.moor with sending := none, writes := s0.moor.writes - c.writes, afterSwap := false } }
      let s2 := (((((s1.setLand l { s1.land l with copy := some c }).setBit Reg.HAWS_STATUS 2 false).wr Reg.HAWS_COPY_BYTES
        (n % 65537)).wr Reg.HAWS_COPY_TIME dt).wr Reg.HAWS_COPY_MAX (max dt (s1.rd Reg.HAWS_COPY_MAX))).wr
        Reg.MOOR_LAST_COPY_SEQ c.fs
      if !(s2.copyReads l c.fmt) then
        let t := if s2.bitAt (Reg.LND_STATUS l.idx) 5 then s2
          else (s2.setBit (Reg.LND_STATUS l.idx) 5 true).raise (Page.LND l.idx) 1
        let u := ((t.setSynced l false).standbyCheck)
        if u.moor.swapAtGate then u.endHold else u
      else
        let fresh := !(s2.synced l)
        let s3 := (s2.setBit (Reg.LND_STATUS l.idx) 5 false).setSynced l true
        let s4 := if fresh then (s3.logResync l).bootOk l else s3
        let s5 := s4.standbyCheck
        if s5.moor.swapAtGate then s5.plannedSwap l else s5
  | _, _ => s

/-- MOOR_DRILL with GO starts a drill (R341). The answer is none where the write is ignored. -/
def State.drillStart (s : State) (v : Nat) : Option State :=
  if s.moor.drill.isSome then none
  else match s.holder with
  | none => none
  | some h =>
    let t := { s with moor := { s.moor with drill := some (h, bit v 1, bits v 31 16), watchEnd := none, swapWant := 1 } }
    some (((t.setFld Reg.MOOR_DRILL_STATUS 1 0 1).setFld Reg.MOOR_DRILL_STATUS 15 8 0).revertWatch)

/-- DRILL_WATCH_END: the watch period ends (R341). -/
def execDrillWatchEnd (s : State) : Out :=
  match s.moor.watchEnd, s.moor.drill with
  | some e, some (_, ret, _) =>
    if s.clk < e then done s s
    else if ret then done s { s with moor := { s.moor with watchEnd := none, swapWant := 2 } }
    else done s s.drillPass
  | _, _ => done s s

/-- DRILL_AGE_HOUR: an hour passes since AGE_H counted last (R342). -/
def execDrillAgeHour (s : State) : Out :=
  if s.clk < s.moor.ageFrom + 3600000000000 then done s s
  else
    let t := ({ s with moor := { s.moor with ageFrom := s.moor.ageFrom + 3600000000000 } }).incFld Reg.MOOR_DRILL_STATUS 31 16
    let n := t.fld Reg.MOOR_DRILL_STATUS 31 16
    done s (if n = t.rd Reg.MOOR_DRILL_DUE_H ∧ s.fld Reg.MOOR_DRILL_STATUS 31 16 ≠ n then t.raise Page.MOOR 8 else t)

/-- Reverts completed in the preceding 3,600 s (R343). -/
def State.recentReverts (s : State) : List Nat := s.moor.reverts.filter (fun t => decide (s.clk < t + 3600000000000))

/-- REVERT_HOLDOFF_END: the preferred Landing is to take control back at a gate, or revert is disabled (R343). -/
def execRevertHoldoffEnd (s : State) : Out :=
  match s.moor.revertFrom with
  | none => done s s
  | some t =>
    if s.clk < t + 1000000000 * s.rd Reg.MOOR_REVERT_HOLDOFF ∨ s.moor.swapWant ≠ 0 then done s s
    else if 3 ≤ s.recentReverts.length then
      done s ((((s.setBit Reg.MOOR_REVERT 0 false).revertWatch).raise Page.MOOR 9).noteKind 66 [])
    else done s { s with moor := { s.moor with swapWant := 3, reverts := s.recentReverts } }

/-- HAWSER_LINK_DOWN: the Hawser's copy lane goes down (R345). -/
def State.hawserDown (s : State) : State := (s.setBit Reg.HAWS_STATUS 0 false).copyAbort

/-- HAWSER_LINK_UP. -/
def execHawserLinkUp (s : State) : Out := done s (s.setBit Reg.HAWS_STATUS 0 true)

end Sys2Proof.Machine
end

