-- ==== Sys2Proof/Machine/BootFlow.lean ====
section
/-! DEFINITION. Boot attempts, image checks, Slipway mode, flash verification, fuses and the restart of a Landing (R309,
R344, R348, R353 to R369). -/

namespace Sys2Proof.Machine

/-- A Landing may run: power is good and neither a reset nor its rail holds it (R348, R449). -/
def State.mayRun (s : State) (l : Landing) : Bool :=
  let x := s.land l
  s.moor.pwrgoodAt.isSome && !s.moor.resetLow && !x.resetLow && !x.railLow

/-- What the Mooring keeps of a Landing's claims is cleared; a claim of the other Landing to a FREE token takes over its
window (R329). -/
def State.dropClaims (s : State) (l : Landing) : State :=
  let t := s.setClaim l none
  let mine := match t.moor.window with
    | some (k, _) => decide (k = l)
    | none => false
  let u := { t with moor := { t.moor with
    heldClaim := if t.moor.heldClaim = some l then none else t.moor.heldClaim
    window := if mine then none else t.moor.window } }
  if mine && u.holder.isNone && (u.claimOf l.other).isSome then u.openWindow l.other else u

/-- The token is released by a Landing whose attempt fails (R350, R361): a pending claim of the other Landing is decided, or
that Landing claims. -/
def State.releaseToken (s : State) (l : Landing) : State :=
  let t := s.setHolder none
  if (t.claimOf l.other).isSome then t.openWindow l.other
  else if t.beats l.other && decide (t.landState l.other ≠ 5) then t.emit (.claim l.other)
  else t

/-- A Landing is reset: it fences itself, and forgets what it ran and the copies it held (R327, R348). -/
def State.landReset (s : State) (l : Landing) : State :=
  let x := s.land l
  let s1 := if s.active = some l then s.copyAbort else s
  let s2 := (s1.dropClaims l).setLand l {
    lease := x.lease, fenced := true, hbHaws := s.clk, hbMail := s.clk, resetAt := s.clk, resetLow := x.resetLow
    railLow := x.railLow, refLost := x.refLost, mapCopy := x.mapCopy }
  let s3 := ((s2.setBit (Reg.LND_STATUS l.idx) 4 false).setBit (Reg.LND_STATUS l.idx) 5 false).setLandState l 0
  if s3.synced l then s3.setSynced l false else s3

/-- A Landing's ROM starts an attempt, unless something holds the Landing in reset (R361). -/
def State.romStart (s : State) (l : Landing) : State :=
  if !(s.mayRun l) then s
  else
    let t := s.setLand l { s.land l with
      fenced := decide (s.holder = some l), refLost := false, attemptAt := some s.clk, hbHaws := s.clk
      hbMail := s.clk }
    (t.wr (bootStateReg l) (t.rd (bootStateReg l) &&& 0xC)).setLandState l 1

/-- A Landing restarts, as after a pulse of its LNDx_RESET_N (R348). -/
def State.restart (s : State) (l : Landing) : State := ((s.landReset l).inc (Reg.LND_RESTARTS l.idx)).romStart l

/-- A Landing enters Slipway mode (R363, R365, R374). -/
def State.toSlipway (s : State) (l : Landing) : State :=
  let t := ((s.dropClaims l).setLand l { s.land l with attemptAt := none, copy := none }).setLandState l 5
  let t := if t.synced l then t.setSynced l false else t
  let u := ((t.setBit (bootStateReg l) 1 true).raise Page.BOOT 1).idxTidy l
  if u.basicMode then u.setOutput false else u

/-- Highest STAGE that the attempt reached, in BOOT_x_STATE. -/
def State.stageReached (s : State) (l : Landing) (n : Nat) : State := s.setFld (bootStateReg l) 11 8 n

/-- BOOT_x_REASON, FAIL_COUNT and BOOT_FAIL of a failure (R363, R364). -/
def State.bootReason (s : State) (l : Landing) (cause stage detail : Nat) : State :=
  ((s.wr (bootReasonReg l) (cause + stage * 256 + detail % 65536 * 65536)).setFld (bootStateReg l) 3 2
    (min 3 (s.failCount l))).raise Page.BOOT 0

/-- BOOT_FAIL: an attempt fails; the Landing releases the token, records the failure, and starts a new attempt at once or
stops in Slipway mode (R350, R361 to R364). -/
def State.bootFail (s : State) (l : Landing) (cause stage detail : Nat) : State :=
  let s1 := (s.bootRecord l 3 cause stage detail).bootReason l cause stage detail
  let s2 := if s1.holder = some l then (if s1.landState l = 4 then { s1 with moor := { s1.moor with bringUp := false } }
    else s1).releaseToken l else s1
  if 3 ≤ s2.failCount l then (s2.landReset l).toSlipway l else s2.restart l

/-- BOOT_ATTEMPT: steps 1 to 3 of an attempt (R353, R361, R363, R374): self-test and fuse read pass or not, SFDP is valid,
the flash offers 8D-8D-8D reads. -/
def State.bootAttempt (s : State) (l : Landing) (selfTest fuse sfdp octal : Bool) : State :=
  if s.landState l ≠ 1 then s
  else if !selfTest then (s.bootFail l 0x01 0 0)
  else
    let s1 := s.setBit (Reg.LND_STATUS l.idx) 4 true
    if !fuse then (s1.bootFail l 0x02 0 0)
    else
      let s2 := if s1.interrupted l then s1.bootReason l 0x10 15 0 else s1
      let n := s2.failCount l
      if 3 ≤ n then (s2.toSlipway l)
      else
        let s3 := ((s2.setFld (bootStateReg l) 3 2 n).bootRecord l 1 0 0 0).emit (.claim l)
        let s4 := s3.stageReached l 1
        if !sfdp then (s4.bootFail l 0x03 1 0)
        else
          let s5 := ((s4.stageReached l 2).setBit (bootStateReg l) 4 (!octal)).setLandState l 2
          (if s5.fld Reg.BOOT_STATUS 1 0 = 0 then s5.setFld Reg.BOOT_STATUS 1 0 1 else s5)

/-- An image's header or section table breaks R355 or R356: the section index. -/
def headerFault (e : Nat → Nat → Nat) : Option Nat :=
  let size := e 8 4
  let off := fun (i : Nat) => e (0x24 + 16 * i) 4
  let len := fun (i : Nat) => e (0x28 + 16 * i) 4
  if e 0 4 ≠ 0x57464E53 ∨ e 4 2 ≠ 0x0100 ∨ e 6 2 ≠ 8192 ∨ size < 65536 ∨ 25165824 < size ∨ size % 4096 ≠ 0 ∨
      64 < e 0xC 1 ∨ 4 ≤ e 0xD 1 ∨ e 0xE 1 ≠ 4 ∨ e 0xF 1 ≠ 0 ∨ e 0x19 7 ≠ 0 ∨ e 0x60 192 ≠ 0 ∨ e 0x160D 2547 ≠ 0 then some 0
  else (List.range 4).find? (fun i =>
    decide (e (0x20 + 16 * i) 2 = 0) || decide (4 < e (0x20 + 16 * i) 2) || decide (e (0x22 + 16 * i) 2 ≠ 0) ||
    decide (e (0x2C + 16 * i) 4 ≠ 0) || decide (off i % 4096 ≠ 0) || decide (off i < 0x2000) ||
    decide (size < off i + len i) || (decide (e (0x20 + 16 * i) 2 = 4) && decide (len i ≠ 256)) ||
    (List.range i).any (fun j => decide (e (0x20 + 16 * i) 2 = e (0x20 + 16 * j) 2) ||
      (decide (off i < off j + len j) && decide (off j < off i + len i))))

/-- A field of the board configuration record at the fields `f`, with bytes `b`, is out of range (R358). -/
def boardFault (f : Nat → Nat → Nat) (b : List Byte) (grade : Nat) : Bool :=
  decide (f 0 4 ≠ 0x52424E53) || decide (f 4 2 ≠ 0x0100) || decide (f 6 2 ≠ 256) ||
  decide (crc32c (b.take 8 ++ leBytes 4 0 ++ b.drop 12) ≠ f 8 4) || decide (f 0xC 1 ≠ grade) || decide (2 < f 0xD 1) ||
  decide (8 < f 0xE 1) || decide (1 < f 0xF 1) || !([7500, 8533, 9600].contains (f 0x10 2)) ||
  (List.range 4).any (fun p => decide (bits (f 0x12 1) (2 * p + 1) (2 * p) = 3)) || decide (f 0x13 1 ≠ 0) ||
  decide (f 0x1A 6 ≠ 0) || decide (f 0x30 208 ≠ 0)

/-- Steps 4 to 7 of R361 on the image in a Landing's flash: the failure's cause, stage and detail (R357, R359, R364). -/
def State.imageFault (s : State) (l : Landing) (x : ImageFound) : Option (Nat × Nat × Nat) :=
  let e := s.flashLe l
  let ed := bits (e 0xD 1) 0 0
  let ml := bits (e 0xD 1) 1 1
  let board := (s.imageSection l 4).getD 0
  let at4 := ((List.range 4).find? (fun i => decide (e (0x20 + 16 * i) 2 = 4))).getD 0
  match headerFault e with
  | some i => some (0x04, 2, i)
  | none =>
    if e 0x18 1 ≠ 0xB0 then some (0x05, 2, 0)
    else if !x.edKey || !x.mlKey then some (0x06, 3, 0)
    else if s.bitAt Reg.SEC_STATUS (1 + ed) || s.bitAt Reg.SEC_STATUS (3 + ml) then some (0x07, 3, 0)
    else if e 0xC 1 < s.rd Reg.SEC_ROLLBACK then some (0x08, 3, 0)
    else match x.readFail with
      | some i => some (0x09, 4, i)
      | none =>
        if boardFault (fun o n => e (board + o) n) (s.flashBytes l board 256) (s.fld Reg.SEC_STATUS 6 6) then
          some (0x0A, 4, at4)
        else if !x.edSig then some (0x0B, 5, 0)
        else if !x.mlSig then some (0x0C, 5, 0)
        else none

/-- The image in a Landing's flash as it runs. -/
def State.imageOf (s : State) (l : Landing) : RunImage :=
  let e := s.flashLe l
  { fw := e 0x10 4, copyFmt := e 0x14 4, svn := e 0xC 1, edSlot := bits (e 0xD 1) 0 0, mlSlot := bits (e 0xD 1) 1 1 }

/-- Firmware starts: the holder of the token becomes active, the other Landing standby (R350, R361). -/
def State.firmwareStart (s : State) (l : Landing) : State :=
  if s.holder = some l then
    (if s.fld Reg.BOOT_STATUS 1 0 = 3 then s.takeover l else (s.passRoles l).bringUpStart l)
  else s.setLandState l 3

/-- IMAGE_VERIFIED: image load and both signature checks end (R357, R361). -/
def State.imageVerified (s : State) (l : Landing) (x : ImageFound) : State :=
  if s.landState l ≠ 2 then s
  else match s.imageFault l x with
  | some (c, g, d) => (s.stageReached l g).bootFail l c g d
  | none =>
    let i := s.imageOf l
    let t := ((((s.setLand l { s.land l with image := some i }).wr (bootImageReg l)
      (i.svn + i.edSlot * 256 + i.mlSlot * 512)).wr (Reg.LND_FW_VER l.idx) i.fw).wr (Reg.LND_COPY_FMT l.idx)
      i.copyFmt).stageReached l 6
    if !x.init then t.bootFail l 0x0D 6 0 else (t.stageReached l 8).firmwareStart l

/-- BOOT_OK_TIMEOUT: BOOT_OK is not set within 10 s of an attempt's start (R362). -/
def State.bootOkTimeout (s : State) (l : Landing) : State :=
  match (s.land l).attemptAt with
  | some t => if s.clk < t + 10000000000 ∨ s.bootOkSet l then s else (s.bootFail l 0x0F 8 0)
  | none => s

/-- MEM_TRAIN_WAVE_DONE: a training wave ends with the ranks `failed` (R309). -/
def State.memTrainWaveDone (s : State) (failed : List Nat) : State :=
  let g := s.fld Reg.DMG0_TRAIN_STATUS 3 0
  match s.active with
  | none => s
  | some l =>
    if !s.moor.bringUp || s.moor.memDone || decide (7 < g) then s
    else
      let t := s.trainWave g failed
      (if t.ranksShort g then (t.stageReached l 7).bootFail l 0x0E 7 g
        else if g = 7 then
          ({ t with moor := { t.moor with memDone := true } }).wr Reg.DOM_DRAM_F_BASE (t.rd Reg.DMG0_CAPACITY - 256)
        else t)

/-- BOOT_SLIPWAY_CMD (R366): RETRY and ENTER. `d` is the domain that wrote it. -/
def State.writeSlipwayCmd (s : State) (d : Dom) (v : Nat) : State :=
  let l := Landing.ofIdx (bits v 0 0)
  match bits v 9 8 with
  | 1 =>
    if s.landState l ≠ 5 then s
    else ((((s.bootRecord l 4 0 0 0).setFld (bootStateReg l) 3 2 0).landReset l).inc (Reg.LND_RESTARTS l.idx)).romStart l
  | 2 =>
    if s.holder = some l then s.writeIgnored d Reg.BOOT_SLIPWAY_CMD v
    else if s.landState l = 3 ∨ s.landState l = 2 then s.toSlipway l else s
  | _ => s

/-- BOOT_FLASH_VERIFY: GO starts the check of a Landing's flash image, by the active Landing or in basic mode by the
Landing's own ROM (R368). -/
def State.writeFlashVerify (s : State) (v : Nat) : State :=
  let l := Landing.ofIdx (bits v 0 0)
  if !(bit v 31) ∨ s.moor.verify.isSome ∨ (s.active.isNone ∧ !(s.basicMode && decide (s.landState l = 5))) then s
  else ({ s with moor := { s.moor with verify := some l } }).wr Reg.BOOT_FLASH_STATUS 1

/-- VERIFY_DONE: the flash image check ends (R368). -/
def execVerifyDone (x : ImageFound) (s : State) : Out :=
  match s.moor.verify with
  | none => done s s
  | some l =>
    let (c, pass) := match s.imageFault l x with
      | some (c, _, _) => (c, 0)
      | none => (0, 2)
    done s (((({ s with moor := { s.moor with verify := none } }).wr Reg.BOOT_FLASH_STATUS
      (pass + c * 256 + s.flashLe l 0xC 1 % 128 * 65536))).raise Page.BOOT 3)

/-- Refusal code of a fuse operation, 0 when it may run (R360). -/
def State.fuseCode (s : State) (op arg : Nat) : Nat :=
  let runs := [s.moor.a.image, s.moor.b.image].filterMap id
  match op with
  | 1 =>
    if 3 < arg then 5
    else if runs.any (fun i => decide (arg = i.edSlot) || decide (arg = 2 + i.mlSlot)) then 3
    else if s.bitAt Reg.SEC_STATUS (1 + (if arg % 2 = 0 then arg + 1 else arg - 1)) then 2
    else 0
  | 2 =>
    if arg ≤ s.rd Reg.SEC_ROLLBACK ∨ 64 < arg then 5
    else if [Landing.a, Landing.b].all (fun l => s.bootOkSet l && (match (s.land l).image with
        | some i => decide (arg ≤ i.svn)
        | none => false)) then 0
    else 4
  | _ => 0

/-- SEC_FUSE_CMD: GO starts a fuse operation or refuses it (R360). -/
def State.writeFuseCmd (s : State) (v : Nat) : State :=
  let op := bits v 3 0
  let arg := bits v 14 8
  if !(bit v 31) ∨ op = 0 ∨ 3 < op then s
  else if s.moor.fuse.isSome then s.setFld Reg.SEC_FUSE_RESULT 7 0 1
  else
    let c := s.fuseCode op arg
    if c ≠ 0 then s.wr Reg.SEC_FUSE_RESULT c
    else (({ s with moor := { s.moor with fuse := some (op, arg) } }).wr Reg.SEC_FUSE_RESULT 0x100).setBit
      Reg.SEC_STATUS 5 true

/-- FUSE_DONE: a fuse operation ends; `failed` is the number of bits programmed before one failed (R359, R360). -/
def execFuseDone (failed : Option Nat) (s : State) : Out :=
  match s.moor.fuse with
  | none => done s s
  | some (op, arg) =>
    let n := s.rd Reg.SEC_ROLLBACK
    let t := match op, failed with
      | 1, none => s.setBit Reg.SEC_STATUS (1 + arg) true
      | 2, none => s.wr Reg.SEC_ROLLBACK arg
      | 2, some k => s.wr Reg.SEC_ROLLBACK (min arg (n + k))
      | 3, none => s.setBit Reg.SEC_STATUS 0 true
      | _, _ => s
    let u := ((({ t with moor := { t.moor with fuse := none } }).wr Reg.SEC_FUSE_RESULT
      (if failed.isSome then 6 else 0)).setBit Reg.SEC_STATUS 5 false).raise Page.SEC 0
    done s (u.noteKind 67 [op, arg])

/-- LNDx_CTRL.REBOOT restarts a Landing that does not hold the token (R344). -/
def State.writeLandCtrl (s : State) (d : Dom) (l : Landing) (v : Nat) : State :=
  if !(bit v 0) then s
  else if s.holder = some l then s.writeIgnored d (Reg.LND_CTRL l.idx) v
  else s.restart l

/-- WATCHDOG_EXPIRY: the pilot core watchdog expires; the Landing fences itself and restarts (R327, R348). -/
def State.watchdogExpiry (s : State) (l : Landing) : State :=
  if s.landState l = 0 then s else ((s.fence l).restart l)

/-- LANDING_RESET_ASSERT: LNDx_RESET_N is low for at least 10 µs (R348). -/
def State.landingResetAssert (s : State) (l : Landing) : State :=
  let t := s.setLand l { s.land l with resetLow := true }
  (t.landReset l)

/-- LANDING_RESET_RELEASE: LNDx_RESET_N rises (R348). -/
def execLandingResetRelease (l : Landing) (s : State) : Out :=
  if !(s.land l).resetLow then done s s
  else done s (((s.setLand l { s.land l with resetLow := false }).inc (Reg.LND_RESTARTS l.idx)).romStart l)

/-- LANDING_RAIL_LOW: a Landing's rail falls; it fences itself and is held in reset (R327, R449). -/
def State.landingRailLow (s : State) (l : Landing) : State :=
  let t := s.setLand l { s.land l with railLow := true }
  (t.landReset l)

/-- LANDING_RAIL_RETURN: 1 ms after the rail is back the reset is released, provided LNDx_RESET_N is high (R449). -/
def execLandingRailReturn (l : Landing) (s : State) : Out :=
  if !(s.land l).railLow then done s s
  else done s (((s.setLand l { s.land l with railLow := false }).inc (Reg.LND_RESTARTS l.idx)).romStart l)

/-- LANDING_REF_LOSS: a Landing's reference stops; it fences itself (R327, R444). -/
def State.landingRefLoss (s : State) (l : Landing) : State :=
  ((s.setLand l { s.land l with refLost := true }).fence l)

end Sys2Proof.Machine
end

