-- ==== Sys2Proof/Machine/Telemetry.lean ====
section
/-! DEFINITION. Telemetry records and the SMBus view (R400 to R403, R453). -/

namespace Sys2Proof.Machine

/-- `n` counters as 4-byte words. -/
def counterBytes (m : List (Nat × Nat)) (n : Nat) : List Byte :=
  (List.range n).flatMap (fun i => leBytes 4 (aget 0 i m))

/-- The QUEUE field: the queues with events in the interval, by QID, zero after the last (R401). -/
def State.queueEntries (s : State) : List Byte :=
  let qs := (s.tel.ivOverflows.foldl (fun (m : List (Nat × Nat)) (x : Nat × Nat) => aset 0 x.1 1 m)
    (s.tel.ivResets.map (fun x => (x.1, 1)))).map Prod.fst
  let bs := qs.flatMap (fun q => leBytes 4 (q % 65536 + min 255 (aget 0 q s.tel.ivResets) * 65536 +
    min 255 (aget 0 q s.tel.ivOverflows) * 2 ^ 24))
  (bs ++ List.replicate 512 0).take 512

/-- The ECC field: corrected errors and uncorrectable lines per group. -/
def State.eccBytes (s : State) : List Byte :=
  (List.range 8).flatMap (fun g => leBytes 4 (aget 0 g s.tel.ivCe) ++ leBytes 4 (aget 0 g s.tel.ivUe))

/-- A telemetry record (R401). -/
def State.telRecord (s : State) : List Byte :=
  leBytes 4 0x4C544E53 ++ leBytes 4 s.tel.recSeq ++ leBytes 8 s.now ++ leBytes 4 s.frameSeq ++
    leBytes 4 s.tel.ivFrames ++ (List.range 4).flatMap (fun l => leBytes 4 (aget 0 (l + 1) s.tel.ivThr)) ++
    leBytes 4 (s.rd Reg.HKP_HOTTEST) ++ List.replicate 20 0 ++ counterBytes s.tel.ivHist 128 ++
    counterBytes s.tel.ivStale 32 ++ counterBytes s.tel.ivLate 32 ++ counterBytes s.tel.ivLineErr 64 ++ s.eccBytes ++
    s.queueEntries ++ (List.range 64).flatMap (fun c => leBytes 2 (s.rd (Reg.HKP_CH_READING c))) ++
    List.replicate 2304 0

/-- DRAM address of the telemetry ring. -/
def State.ringBase (s : State) : Nat :=
  (s.rd Reg.TEL_RING_BASE_LO + s.fld Reg.TEL_RING_BASE_HI 7 0 * 2 ^ 32) / 2 ^ 20 * 2 ^ 20

/-- A new interval begins: its counts are zero. -/
def Telemetry.newInterval (t : Telemetry) : Telemetry :=
  { t with
    ivHist := [], ivFrames := 0, ivThr := [], ivStale := [], ivLate := [], ivLineErr := [], ivCe := [], ivUe := []
    ivResets := [], ivOverflows := [] }

/-- TEL_RECORD: the telemetry period ends, and its record goes into slot REC_SEQ mod 256 of the ring (R401). -/
def execTelRecord (s : State) : Out :=
  if !(s.bitAt Reg.TEL_CTRL 0) ∨ s.clk < s.tel.nextAt then done s s
  else
    let q := s.tel.recSeq
    let t := (s.dramPut clsNrt2 5 (s.ringBase + 4096 * (q % 256)) s.telRecord).wr Reg.TEL_RING_HEAD q
    done s ({ t with tel := { t.tel.newInterval with
      recSeq := (q + 1) % 2 ^ 32
      nextAt := s.tel.nextAt + 1000000 * s.rd Reg.TEL_PERIOD_MS } }.raise Page.TEL 0)

/-- A write of TEL_CTRL: with RING_EN set, the first interval begins (R401). -/
def State.writeTelCtrl (s : State) (v : Nat) : State :=
  let t := s.wr Reg.TEL_CTRL v
  if bit v 0 && !(s.bitAt Reg.TEL_CTRL 0) then
    { t with tel := { t.tel.newInterval with nextAt := s.clk + 1000000 * s.rd Reg.TEL_PERIOD_MS } }
  else t

/-- One bit of the SMBus packet error code, a CRC-8 (SMBus 3.x). -/
def pecBit (c : Nat) : Nat := if c.testBit 7 then (2 * c) % 256 ^^^ 0x07 else 2 * c

/-- The SMBus packet error code of a byte sequence. -/
def pec (bs : List Byte) : Byte :=
  BitVec.ofNat 8 (bs.foldl (fun (c : Nat) (b : Byte) =>
    pecBit (pecBit (pecBit (pecBit (pecBit (pecBit (pecBit (pecBit (c ^^^ b.toNat))))))))) 0)

/-- The target answers a read of command byte `cmd` at its address with `data`; a Block Read carries its length first
(R402). At another address it does not answer. -/
def State.smbRead (s : State) (addr cmd : Nat) (block : Bool) (data : List Byte) : State :=
  if addr ≠ s.fld Reg.TEL_SMB_ADDR 6 0 then s
  else
    let bs := if block then leBytes 1 data.length ++ data else data
    ({ s with tel := { s.tel with smb := none } }).emit
      (.smbus bs (pec (leBytes 1 (2 * addr) ++ leBytes 1 cmd ++ leBytes 1 (2 * addr + 1) ++ bs)))

/-- The command byte is not one of R402. -/
def State.smbRefuse (s : State) (addr : Nat) : State :=
  if addr ≠ s.fld Reg.TEL_SMB_ADDR 6 0 then s
  else ({ s with tel := { s.tel with smb := none } }).emit .smbNack

/-- SMB_READ_CHANNEL: command 0x00 to 0x3F, Read Word (R402). -/
def execSmbReadChannel (addr command : Nat) (s : State) : Out :=
  if 0x40 ≤ command then done s (s.smbRefuse addr)
  else done s (s.smbRead addr command false (leBytes 2 (s.rd (Reg.HKP_CH_READING command))))

/-- SMB_READ_STATUS: command 0x40, Read Word (R402). -/
def execSmbReadStatus (addr : Nat) (s : State) : Out :=
  done s (s.smbRead addr 0x40 false (leBytes 2 (s.rd Reg.HKP_STATUS)))

/-- SMB_READ_HOTTEST: command 0x41, Read Word (R402). -/
def execSmbReadHottest (addr : Nat) (s : State) : Out :=
  done s (s.smbRead addr 0x41 false (leBytes 2 (s.rd Reg.HKP_HOTTEST)))

/-- SMB_READ_THROTTLE: command 0x42, Read Byte (R402). -/
def execSmbReadThrottle (addr : Nat) (s : State) : Out :=
  done s (s.smbRead addr 0x42 false (leBytes 1 s.thrLevel))

/-- SMB_READ_HOURS: command 0x43, Block Read of 8 bytes (R402). -/
def execSmbReadHours (addr : Nat) (s : State) : Out :=
  done s (s.smbRead addr 0x43 true (leBytes 4 (s.rd Reg.TEL_POWERED_S) ++ leBytes 4 (s.rd Reg.TEL_OUTPUT_S)))

/-- SMB_READ_SERIAL: command 0x44, Block Read of 16 bytes (R402). -/
def execSmbReadSerial (addr : Nat) (s : State) : Out :=
  done s (s.smbRead addr 0x44 true ((List.range 4).flatMap (fun j => leBytes 4 (s.rd (Reg.GLB_SERIAL_ASCII j)))))

/-- SMB_ALERT_RESPONSE: at the Alert Response Address 0x0C the device answers with its address while SMB_ALERT_N is
low, and releases it (R402). -/
def execSmbAlertResponse (addr : Nat) (s : State) : Out :=
  if addr ≠ 0x0C ∨ !s.hk.alert then done s s
  else
    let bs := leBytes 1 (2 * s.fld Reg.TEL_SMB_ADDR 6 0)
    done s (({ s with hk := { s.hk with alert := false } }).emit (.smbus bs (pec (leBytes 1 (2 * addr + 1) ++ bs))))

/-- SMB_WRITE: the command byte of a transaction; an unknown one, and every byte after it, is NACKed (R27, R402). -/
def execSmbWrite (addr command : Nat) (data : List Byte) (s : State) : Out :=
  if addr ≠ s.fld Reg.TEL_SMB_ADDR 6 0 then done s s
  else if 0x44 < command ∨ data ≠ [] then done s (s.smbRefuse addr)
  else done s { s with tel := { s.tel with smb := some command } }

/-- SMB_CLOCK_LOW_TIMEOUT: after 25 ms to 35 ms of a low clock the target resets its transaction (R453). -/
def execSmbClockLowTimeout (lowMs : Nat) (s : State) : Out :=
  if lowMs < 25 then done s s else done s { s with tel := { s.tel with smb := none } }

end Sys2Proof.Machine
end

