-- ==== Sys2Proof/Machine/Gangway.lean ====
section
/-! DEFINITION. The Gangway: target spaces, ownership of their ranges, and the transfers of a channel (R365, R367, R411 to
R419). -/

namespace Sys2Proof.Machine

/-- Size and largest transfer of a target space; none for an undefined code (R419). -/
def State.spaceSize (s : State) (t : Nat) : Option (Nat × Nat) :=
  if t = 0 then some (s.capacity, 2 ^ 32 - 4)
  else if t = 1 then some (0x10000, 0x10000)
  else if t = 2 then some (0x800000, 0x400000)
  else if t = 3 then some (2 ^ 33, s.sheetBankSize)
  else if t = 4 then some (0x400000, 4096)
  else if t = 5 ∨ t = 6 then some (0x1000000, 0x1000000)
  else if t = 7 then some (0x100000, 0x100000)
  else if t = 8 ∨ t = 9 then some (0x8000000, 0x1800000)
  else if 0x20 ≤ t ∧ t ≤ 0x3F then some (512, 512)
  else none

/-- Owner of a target space other than DRAM (R419). -/
def State.spaceOwner (s : State) (t : Nat) : Dom :=
  let own := fun (p : Nat) => (s.page p).owner
  if t = 1 then own Page.ING
  else if t = 2 then own Page.SEQ
  else if t = 3 then own Page.ATL
  else if t = 4 then .s
  else if t = 5 then own Page.WEAR
  else if t = 6 then own Page.LOGB
  else if t = 7 then own Page.TEL
  else if t = 8 ∨ t = 9 then own Page.BOOT
  else s.layerOwner (t - 0x20)

/-- Domain `d` may read what it does not own (R410). -/
def State.readShare (s : State) (d : Dom) : Bool := s.bitAt Reg.DOM_READ_SHARE d.code

/-- Base, end and owner of the enabled DRAM windows, in bytes (R411). -/
def State.windows (s : State) : List (Nat × Nat × Dom) :=
  ((List.range 16).filter (fun w => decide (s.rd (Reg.DOM_DRAM_WIN_SIZE w) ≠ 0))).map (fun w =>
    let b := s.rd (Reg.DOM_DRAM_WIN_BASE w) * 2 ^ 20
    (b, b + s.rd (Reg.DOM_DRAM_WIN_SIZE w) * 2 ^ 20, Dom.ofCode (s.fld (Reg.DOM_DRAM_WIN_OWNER w) 1 0)))

/-- DRAM that domain `d` reaches through the Gangway (R411). -/
def State.dramReach (s : State) (d : Dom) (read : Bool) : List (Nat × Nat) :=
  let wins := (s.windows.filter (fun x => decide (x.2.2 = d) || (read && s.readShare d))).map (fun x => (x.1, x.2.1))
  if d = .s then []
  else if d = .f then (s.rd Reg.DOM_DRAM_F_BASE * 2 ^ 20, s.capacity) :: wins
  else wins

/-- [a, e) is covered by the areas. -/
def coverFrom (areas : List (Nat × Nat)) : Nat → Nat → Nat → Bool
  | 0, a, e => decide (e ≤ a)
  | k + 1, a, e =>
    if e ≤ a then true
    else match areas.find? (fun x => decide (x.1 ≤ a) && decide (a < x.2)) with
      | some x => coverFrom areas k x.2 e
      | none => false

/-- In basic mode, the flash that a domain's channel reaches (R365). -/
def basicFlash (d : Dom) : Option Nat := match d with | .p0 => some 8 | .p1 => some 9 | .s | .f => none

/-- Basic mode serves domain `d`: its Landing is in Slipway mode and none runs (R365). -/
def State.basicFor (s : State) (d : Dom) : Bool :=
  s.basicMode && (match d with
    | .p0 => decide (s.landState .a = 5)
    | .p1 => decide (s.landState .b = 5)
    | .s | .f => false)

/-- Domain `d` may access [a, a + n) of a target space (R365, R410 to R412). -/
def State.gwyMay (s : State) (d : Dom) (t a n : Nat) (read : Bool) : Bool :=
  if s.basicFor d then decide (basicFlash d = some t)
  else if t = 0 then coverFrom (s.dramReach d read) 20 a (a + n)
  else if t = 4 then decide (d = .s)
  else decide (s.spaceOwner t = d) || (read && s.readShare d)

/-- A target code that the channel reaches (R365, R418). -/
def State.gwyReaches (s : State) (n t : Nat) : Bool :=
  if s.basicFor (Dom.ofCode n) then decide (basicFlash (Dom.ofCode n) = some t)
  else if n = 2 then decide (t = 4) else decide (t ≠ 4)

/-- Bytes from the first to the last one of a transfer. -/
def GwyChan.span (c : GwyChan) : Nat := if c.inc then (c.len / 4 - 1) * c.stride + 4 else c.len

/-- The checks of GO, in the order of R412: the code of R417, 0 when all hold. -/
def State.gwyGoCode (s : State) (n : Nat) (c : GwyChan) : Nat :=
  match s.spaceSize c.target with
  | none => 1
  | some (size, most) =>
    if !(s.gwyReaches n c.target) then 1
    else if c.len = 0 ∨ most < c.len ∨ size < c.addr + c.span then 4
    else if c.addr % 4 ≠ 0 ∨ c.len % 4 ≠ 0 ∨ c.stride % 4 ≠ 0 then 3
    else if !(s.gwyMay (Dom.ofCode n) c.target c.addr c.span c.read) then 2
    else 0

/-- The target is a flash. -/
def GwyChan.flash (c : GwyChan) : Bool := decide (c.target = 8) || decide (c.target = 9)

/-- ROOM of a channel in 64-byte units (R416). -/
def State.gwyRoom (s : State) (n : Nat) : Nat :=
  let c := s.gwyChan n
  if c.flash then (65536 - c.buf.length) / 64 else Config.gwyRoom (s.rd (Reg.GWY_MOVED n)) % 2048

/-- GO with the transfer `c` (R412). -/
def State.gwyBegin (s : State) (n : Nat) (c : GwyChan) : State :=
  let t := ((s.setGwy n { c with buf := (s.gwyChan n).buf }).wr (Reg.GWY_STATUS n) 1).wr (Reg.GWY_MOVED n) 0
  let code := s.gwyGoCode n c
  if code = 0 then t else t.gwyError n code c.addr

/-- A write of GWYn_CTRL by domain `d` (R412). -/
def State.writeGwyCtrl (s : State) (d : Dom) (n v : Nat) : State :=
  let s1 := if bit v 1 then s.gwyStop n 9 (!(bit v 0)) else s
  if !(bit v 0) then s1
  else if s1.gwyState n = 1 then s1.writeIgnored d (Reg.GWY_CTRL n) v
  else
    let g := s1.rd (Reg.GWY_CFG n)
    s1.gwyBegin n {
      target := bits g 7 0, read := bit g 8, inc := bit g 9, stride := s1.rd (Reg.GWY_STRIDE n), len := s1.rd (Reg.GWY_LEN n)
      addr := s1.rd64 (Reg.GWY_ADDR_LO n) (Reg.GWY_ADDR_HI n) }

/-- The Landing whose flash a target is. -/
def flashOf (t : Nat) : Landing := if t = 8 then .a else .b

/-- Where the next write in a flash's sector must stand. -/
def State.flashNext (s : State) (l : Landing) : Option Nat := match l with | .a => s.gwy.nextA | .b => s.gwy.nextB

/-- Set it. -/
def State.setFlashNext (s : State) (l : Landing) (a : Nat) : State :=
  match l with
  | .a => { s with gwy := { s.gwy with nextA := some a } }
  | .b => { s with gwy := { s.gwy with nextB := some a } }

/-- A flash write is refused (R367). -/
def State.flashRefused (s : State) (l : Landing) (a : Nat) : Bool :=
  let st := s.landState l
  decide (0x1800000 ≤ a) || decide (st = 1) || decide (st = 2) || decide (st = 4) ||
    !(decide (a % 65536 = 0) || decide (s.flashNext l = some a))

/-- The device takes writes to spaces beside the flashes only from RUN on (R352). -/
def State.running (s : State) : Bool := decide (s.fld Reg.BOOT_STATUS 1 0 = 3)

/-- A stream context entry's byte that the host writes (R53): fields D keep their value; with TS_MAP 1 the reference
pair is the host's. -/
def State.ctxHostByte (s : State) (i o : Nat) : Bool :=
  let refPair := (decide (0x18 ≤ o) && decide (o < 0x1C)) || (decide (0x20 ≤ o) && decide (o < 0x28))
  !(decide (o = 4) || decide (0x38 ≤ o) || (refPair && decide (s.ctxTsMap i ≠ 1)))

/-- A write of 4 bytes at `a` of a target space by domain `d` on channel `n`; none where the target refuses it (R39, R53,
R126, R138, R139, R294, R352, R367, R419). -/
def State.gwyStore (s : State) (d : Dom) (n : Nat) (c : GwyChan) (bs : List Byte) : Option State :=
  let a := c.addr
  let t := c.target
  if t = 8 ∨ t = 9 then
    let l := flashOf t
    if s.flashRefused l a then none
    else some ((s.setGwy n { c with buf := c.buf ++ (bs.zipIdx.map (fun x => (t, a + x.2, x.1))) }).setFlashNext l (a + 4))
  else if !s.running then none
  else if t = 0 then some (s.dramPut clsNrt1 5 a bs)
  else if t = 1 then
    let i := a / 64
    if s.ctxState i ≠ 0 then none
    else some { s with mem := { s.mem with
      ctxTab := bs.zipIdx.foldl (fun (m : List Host.Cell) (x : Byte × Nat) =>
        if s.ctxHostByte i (a % 64 + x.2) then aset 0 (a + x.2) x.1 m else m) s.mem.ctxTab } }
  else if t = 2 then
    let b := a / 0x400000
    if s.seq.hasMap && decide (s.mapBank = b) then none
    else some (({ s with mem := { s.mem with pmap := asetMany 0 a bs s.mem.pmap } }).mapTouched b)
  else if t = 3 then
    let k := a / 0x8000000
    let b := a / 0x4000000 % 2
    let o := a % 0x4000000
    if s.sheetWriteRefused k b o ∨ s.capacity < s.sheetBase k b + o + 4 then none
    else some ((s.dramPut clsNrt1 5 (s.sheetBase k b + o) bs).sheetTouched k b)
  else if 0x20 ≤ t then
    let k := t - 0x20
    if a < 0x100 then
      (if s.laydWriteRefused k (a / 128) then none
      else some (({ s with mem := { s.mem with layd := asetMany 0 (laydAddr k 0 + a) bs s.mem.layd } }).laydTouched k))
    else some (if a = 0x100 then s.laySpaceCommit d k (leNat bs) else s)
  else none

/-- Four bytes of the Wear ledger space (R383, chapter 17): ledger values, then the gains in force. -/
def State.wearSpace (s : State) (a : Nat) : List Byte :=
  let n := s.blocksX * s.blocksY
  if a < 0x800000 then leBytes 4 (if a / 4 < 3 * n then s.ledger (a / 4) else 0)
  else
    let b := (a - 0x800000) / 8
    if n ≤ b then leBytes 4 0
    else if a % 8 = 0 then leBytes 2 (s.wearGain (3 * b)) ++ leBytes 2 (s.wearGain (3 * b + 1))
    else leBytes 2 (s.wearGain (3 * b + 2)) ++ leBytes 2 0

/-- Four bytes of the Logbook read window (R386): the stream of the bank that LOGB_READ_SEL selects,
with 0xFF beyond its end. -/
def State.logSpace (s : State) (a : Nat) : List Byte :=
  let l := Landing.ofIdx (s.fld Reg.LOGB_READ_SEL 0 0)
  let b := if s.bitAt Reg.LOGB_READ_SEL 1 then (s.side l).target.getD {} else (s.side l).cur
  (List.range 4).map (fun i => s.streamByte l b (a + i))

/-- Four bytes of a target space, and whether they are poison (R319, R419). -/
def State.gwyLoad (s : State) (c : GwyChan) : List Byte × Bool :=
  let a := c.addr
  let t := c.target
  let dram (x : Nat) : List Byte × Bool := (s.dramBytes x 4, s.dramPoison x 4)
  if t = 0 then dram a
  else if t = 1 then (agetMany 0 a 4 s.mem.ctxTab, false)
  else if t = 2 then (agetMany 0 a 4 s.mem.pmap, false)
  else if t = 3 then dram (s.sheetBase (a / 0x8000000) (a / 0x4000000 % 2) + a % 0x4000000)
  else if t = 5 then (s.wearSpace a, false)
  else if t = 6 then (s.logSpace a, false)
  else if t = 7 then dram (s.ringBase + a)
  else if t = 8 ∨ t = 9 then (s.flashBytes (flashOf t) a 4, false)
  else if a < 0x100 then (agetMany 0 (laydAddr (t - 0x20) 0 + a) 4 s.mem.layd, false)
  else if a = 0x104 then (leBytes 4 (s.layStatusWord (t - 0x20)), false)
  else if a = 0x108 then (leBytes 4 (s.layer (t - 0x20)).commitSeq, false)
  else (leBytes 4 0, false)

/-- The channel's address and count advance by one unit (R413). -/
def State.gwyAdvance (s : State) (n : Nat) : State :=
  let c := s.gwyChan n
  (s.setGwy n { c with addr := c.addr + (if c.inc then c.stride else 4) }).wr (Reg.GWY_MOVED n) (s.rd (Reg.GWY_MOVED n) + 4)

/-- Every byte has moved and been accepted: DONE (R417). -/
def State.gwyFinish (s : State) (n : Nat) : State :=
  let c := s.gwyChan n
  if s.gwyState n = 1 ∧ s.rd (Reg.GWY_MOVED n) = c.len ∧ c.buf.isEmpty = true then
    ((s.gwyAddrEnd n).wr (Reg.GWY_STATUS n) 2).raise (Page.GWY n) 0
  else s

/-- One unit of 4 bytes is written to channel `n` (R413, R417). -/
def State.gwyPut (s : State) (n : Nat) (bs : List Byte) : State :=
  let c := s.gwyChan n
  let d := Dom.ofCode n
  if s.gwyState n ≠ 1 then s
  else if c.read then s.gwyError n 0xB c.addr
  else if c.len ≤ s.rd (Reg.GWY_MOVED n) then s.gwyError n 8 c.addr
  else if c.flash && decide (65536 < c.buf.length + 4) then s.gwyError n 8 c.addr
  else if !(s.gwyMay d c.target c.addr 4 false) then s.gwyError n 2 c.addr
  else match s.gwyStore d n c bs with
    | none => s.gwyError n 5 c.addr
    | some t => t.gwyAdvance n

/-- Split into units of 4 bytes. -/
def units4 : List Byte → List (List Byte)
  | a :: b :: c :: d :: r => [a, b, c, d] :: units4 r
  | _ => []

/-- Data reaches channel `n` at page offset `off`; written while IDLE or DONE it is discarded and recorded (R417). -/
def State.gwyWrite (s : State) (d : Dom) (n off : Nat) (bs : List Byte) : State :=
  if s.gwyState n = 0 ∨ s.gwyState n = 2 then
    s.writeIgnored d (0x1000 * Page.GWY n + off) (leNat (bs.take 4))
  else ((units4 bs).foldl (fun (t : State) (u : List Byte) => t.gwyPut n u) s).gwyFinish n

/-- One unit is read from channel `n`: the state, the bytes, and whether the completion carries EP (R413, R417). -/
def State.gwyGet (s : State) (n : Nat) : State × List Byte × Bool :=
  let c := s.gwyChan n
  let ff := leBytes 4 0xFFFFFFFF
  if s.gwyState n ≠ 1 then (s, ff, false)
  else if !c.read then (s.gwyError n 0xB c.addr, ff, false)
  else if c.len ≤ s.rd (Reg.GWY_MOVED n) then (s.gwyError n 8 c.addr, ff, false)
  else if !(s.gwyMay (Dom.ofCode n) c.target c.addr 4 true) then (s.gwyError n 2 c.addr, ff, false)
  else
    let (bs, bad) := s.gwyLoad c
    if bad then (s.gwyError n 6 c.addr, bs, true) else (s.gwyAdvance n, bs, false)

/-- `k` units are read. -/
def State.gwyGetMany (s : State) (n : Nat) : Nat → State × List Byte × Bool
  | 0 => (s, [], false)
  | k + 1 =>
    let (t, bs, e) := s.gwyGet n
    let (u, cs, f) := t.gwyGetMany n k
    (u, bs ++ cs, e || f)

/-- A read of `k` units of channel `n`. -/
def State.gwyRead (s : State) (n k : Nat) : State × List Byte × Bool :=
  let (t, bs, e) := s.gwyGetMany n k
  (t.gwyFinish n, bs, e)

/-- An 8-byte access with INC 0 at an address that is not a multiple of 8 (R413, R417). -/
def State.gwyMisaligned (s : State) (n : Nat) : Bool :=
  let c := s.gwyChan n
  decide (s.gwyState n = 1) && !c.inc && decide (c.addr % 8 ≠ 0)

/-- FLASH_PROGRAM_DONE: the oldest `bytes` bytes of a channel's buffer are programmed; a sector is erased first at its
start (R367, R416). -/
def execFlashProgramDone (ch bytes : Nat) (s : State) : Out :=
  let c := s.gwyChan ch
  let now := c.buf.take bytes
  let t := now.foldl (fun (u : State) (x : Nat × Nat × Byte) =>
    let l := flashOf x.1
    let v := if x.2.1 % 65536 = 0 then u.flashErase l x.2.1 65536 else u
    v.flashPut l x.2.1 [x.2.2]) s
  done s (t.setGwy ch { c with buf := c.buf.drop bytes })

/-- GANGWAY_DONE: every byte of a transfer has moved and been accepted by its target (R417). -/
def execGangwayDone (ch : Nat) (s : State) : Out := done s (s.gwyFinish ch)

/-- Channel `n`'s transfer ends with NOT_OWNER when its domain may no longer access its remaining range (R418). -/
def State.gwyRecheckOne (s : State) (n : Nat) : State :=
  let c := s.gwyChan n
  let left := c.len - s.rd (Reg.GWY_MOVED n)
  let span := if left = 0 then 0 else if c.inc then (left / 4 - 1) * c.stride + 4 else left
  if s.gwyState n = 1 && decide (c.target = 0) && !(s.gwyMay (Dom.ofCode n) 0 c.addr span c.read) then
    s.gwyError n 2 c.addr
  else s

/-- Transfers whose remaining range the domain may no longer access end with NOT_OWNER (R409, R411, R418). -/
def State.gwyRecheck (s : State) : State :=
  (List.range 4).foldl (fun (t : State) (n : Nat) => t.gwyRecheckOne n) s

end Sys2Proof.Machine
end

