-- ==== Sys2Proof/Machine/Hosts.lean ====
section
/-! DEFINITION. Domains, ownership and the PCIe endpoints (R404 to R411, R414, R420, R421). -/

namespace Sys2Proof.Machine

/-- A denied access is counted and recorded, and raises DENY (R410). `at_` is the register address or BAR2 offset. -/
def State.deny (s : State) (d : Dom) (write : Bool) (at_ : Nat) : State :=
  ((s.inc Reg.DOM_DENY_COUNT).wr Reg.DOM_DENY_LAST
    (d.code + (if write then 4 else 0) + at_ % 2 ^ 24 * 16)).raise Page.DOM 0

/-- Domain `d` may read the register at `a` of a populated page (R410, R431). -/
def State.mayRead (s : State) (d : Dom) (a : Nat) : Bool :=
  let p := a / 0x1000
  decide ((s.page p).owner = d) || s.readShare d || decide (p = Page.GLB) || decide (p = Page.IRQ) ||
    [0x000, 0x004, 0x030].contains (a % 0x1000)

/-- Result of DOM_OWN_CMD for a page, owner and the command's rules: 0 accepted, 1 LOCKED, 2 BAD_PAGE, 3 BAD_OWNER (R409). -/
def State.ownCode (s : State) (page : Nat) (o : Dom) : Nat :=
  if !(populated page) then 2
  else if (s.page page).lock || fixedPage page then 1
  else if page = Page.DOM ∧ o = .s then 3
  else 0

/-- A page with pending interrupts counts as newly pending for its new owner `o` (R420). -/
def State.forget (s : State) (page : Nat) (o : Dom) : State :=
  let drop (q : Nat) (t : State) : State :=
    t.setEp q { t.ep q with told := (t.ep q).told.filter (fun v => !(v = (t.ep q).vector page)) }
  match o with
  | .p0 => drop 0 s
  | .p1 => drop 1 s
  | .s => s
  | .f => s

/-- An accepted DOM_OWN_CMD: a page changes its owner, or only takes LOCK (R409). What follows the page follows it at
once: layers under R140, transfers under R418. -/
def State.setOwner (s : State) (page : Nat) (o : Dom) (lock : Bool) : State :=
  let x := s.page page
  if x.owner = o then s.setPage page { x with lock := x.lock || lock }
  else
    let t := s.setPage page { x with owner := o, lock := x.lock || lock, unlocked := false }
    let u := if page = Page.LAY then t.syncOwners else t
    (if s.intPending page = 0 then u else u.forget page o).gwyRecheck

/-- A write of DOM_OWN_CMD (R409). -/
def State.writeOwnCmd (s : State) (v : Nat) : State :=
  if !(bit v 31) then s
  else
    let page := bits v 11 0
    let o := Dom.ofCode (bits v 13 12)
    let c := s.ownCode page o
    let t := if c = 0 then s.setOwner page o (bit v 14) else s
    t.wr Reg.DOM_OWN_STATUS (c + page * 2 ^ 16)

/-- Every populated page. -/
def allPages : List Nat := allPageFams.flatMap (fun f => (List.range f.count).map (fun i => f.base + i))

/-- DOM_LOCK_ALL.GO sets LOCK on every page (R409). -/
def State.writeLockAll (s : State) (v : Nat) : State :=
  if bit v 0 then
    allPages.foldl (fun (t : State) (p : Nat) => t.setPage p { t.page p with lock := true }) s
  else s

/-- Window `w` with `size` MiB at `base` MiB would overlap an enabled window, reach beyond the usable capacity or reach the
firmware region (R411). -/
def State.windowBad (s : State) (w base size : Nat) : Bool :=
  let e := base + size
  decide (s.rd Reg.DMG0_CAPACITY < e) || decide (s.rd Reg.DOM_DRAM_F_BASE < e) ||
    (List.range 16).any (fun k => decide (k ≠ w) && decide (s.rd (Reg.DOM_DRAM_WIN_SIZE k) ≠ 0) &&
      decide (base < s.rd (Reg.DOM_DRAM_WIN_BASE k) + s.rd (Reg.DOM_DRAM_WIN_SIZE k)) &&
      decide (s.rd (Reg.DOM_DRAM_WIN_BASE k) < e))

/-- A write of BASE (field 0), SIZE (1) or OWNER (2) of DRAM window `w` by domain `d` (R411). -/
def State.writeWindow (s : State) (d : Dom) (w field v : Nat) : State :=
  if field = 0 then
    let a := Reg.DOM_DRAM_WIN_BASE w
    if s.rd (Reg.DOM_DRAM_WIN_SIZE w) ≠ 0 then s.writeIgnored d a v else s.wr a v
  else if field = 1 then
    let a := Reg.DOM_DRAM_WIN_SIZE w
    if v ≠ 0 ∧ s.windowBad w (s.rd (Reg.DOM_DRAM_WIN_BASE w)) v = true then s.writeIgnored d a v
    else (s.wr a v).gwyRecheck
  else (s.wr (Reg.DOM_DRAM_WIN_OWNER w) v).gwyRecheck

/-- The Pending Bit Array entries of vectors that endpoint `q` may send now are sent, or dropped when the vector is no
longer pending (R420). -/
def State.flushPba (s : State) (q : Nat) : State :=
  if !(s.canSend q) then s
  else (s.ep q).pba.foldl (fun (t : State) (v : Nat) =>
    let e := t.ep q
    if !(e.unmasked.contains v) then t
    else
      let u := t.setEp q { e with pba := e.pba.filter (fun w => !(w = v)) }
      if (u.pendingVecs q).contains v then u.signalVec q v else u) s

/-- Bus Master Enable of endpoint `q` (R407). -/
def State.setBusMaster (s : State) (q : Nat) (on : Bool) : State := s.setEp q { s.ep q with busMaster := on }

/-- Endpoint `q` can send no more: in that time every pending vector has its Pending Bit Array bit set (R420). -/
def State.mute (s : State) (q : Nat) : State :=
  let e := s.ep q
  s.setEp q { e with pba := e.pba ++ (s.pendingVecs q).filter (fun v => !(e.pba.contains v)) }

/-- MSIX_VECTOR_UNMASK: a vector's mask, Bus Master Enable, D0 or the link changes, and messages that waited are sent
(R404, R407, R420). -/
def execMsixVectorUnmask (q : Nat) (e : MsixEvent) (s : State) : Out :=
  let p := q % 2
  let x := s.ep p
  let t := match e with
    | .mask v true => s.setEp p { x with unmasked := x.unmasked.filter (fun w => !(w = v)) }
    | .mask v false => s.setEp p { x with unmasked := if x.unmasked.contains v || decide (63 < v) then x.unmasked
        else v :: x.unmasked }
    | .busMaster on => (if on then s else s.mute p).setBusMaster p on
    | .d0 => s.setBit (Reg.PCI_LINK_STATUS p) 9 false
    | .linkUp speed width =>
      ((s.setFld (Reg.PCI_LINK_STATUS p) 2 0 speed).setFld (Reg.PCI_LINK_STATUS p) 7 3 width).setBit
        (Reg.PCI_LINK_STATUS p) 8 true
  done s (t.flushPba p)

/-- PCIq_VEC_EOI with GO: a vector that is still pending is sent again (R420). -/
def State.writeVecEoi (s : State) (q v : Nat) : State :=
  if bit v 31 && (s.pendingVecs q).contains (bits v 5 0) then s.signalVec q (bits v 5 0) else s

/-- MSIX_HOLDOFF_END: PCIq_VEC_HOLDOFF has passed since a vector's last message; a message held back is sent if its vector
is still pending (R420). -/
def execMsixHoldoffEnd (q v : Nat) (s : State) : Out :=
  let p := q % 2
  let e := s.ep p
  let due := match e.lastMsg.find? (fun x => x.1 = v) with
    | some (_, t) => decide (t + 1000 * s.rd (Reg.PCI_VEC_HOLDOFF p) ≤ s.clk)
    | none => true
  if !(e.heldBack.contains v) || !due then done s s
  else
    let t := s.setEp p { e with heldBack := e.heldBack.filter (fun w => !(w = v)) }
    done s (if (t.pendingVecs p).contains v then t.signalVec p v else t)

/-- DL_ACTIVE of endpoint `q` falls: LINK_DOWN is raised (R421). -/
def State.linkDown (s : State) (q : Nat) : State :=
  if s.bitAt (Reg.PCI_LINK_STATUS q) 8 then ((s.mute q).setBit (Reg.PCI_LINK_STATUS q) 8 false).raise (Page.PCI q) 0 else s

/-- PCIE_LINK_DOWN. -/
def execPcieLinkDown (q : Nat) (s : State) : Out := done s (s.linkDown (q % 2))

/-- PCIE_REFCLK_LOSS: the reference of an endpoint stops, and its link goes down (R444). -/
def execPcieRefclkLoss (q : Nat) (s : State) : Out := done s (s.linkDown (q % 2))

/-- D3HOT_ENTRY: a transfer on the endpoint's channel ends with ABORTED (R407). -/
def execD3hotEntry (q : Nat) (s : State) : Out :=
  done s (((s.mute (q % 2)).setBit (Reg.PCI_LINK_STATUS (q % 2)) 9 true).gwyStop (q % 2) 9)

/-- PCIq_PERST_N falls: the endpoint's link, configuration space and MSI-X table are reset, the burst in progress ends with
ABORTED, and a held read of its port is lost with the link (R348, R407). -/
def State.endpointReset (s : State) (q : Nat) : State :=
  let t := (((s.linkDown q).wr (Reg.PCI_LINK_STATUS q) 0).setEp q { vecMap := (s.ep q).vecMap }).gwyStop q 9
  { t with moor := { t.moor with held := t.moor.held.filter (fun x =>
      match x.2 with
      | .read d _ => !(decide (d = domOfPort q))
      | .dataRead d _ _ => !(decide (d = domOfPort q))
      | .apRead d _ _ => !(decide (d = domOfPort q))
      | .write _ | .data _ _ _ _ | .apWrite _ _ _ _ | .safety _ => true) } }

/-- PERST_ASSERT. -/
def execPerstAssert (q : Nat) (s : State) : Out :=
  let p := q % 2
  let t := s.endpointReset p
  done s (t.setEp p { t.ep p with perst := true })

/-- Instant by which an endpoint that may become ready is ready: 20 ms after first light, else 250 ms after the later of t0
and now (R349, R351). -/
def State.readyLimit (s : State) : Nat :=
  if s.bitAt Reg.BOOT_STATUS 2 then s.clk + 20000000 else max s.clk s.moor.t0 + 250000000

/-- PERST_RELEASE: PCIq_PERST_N rises (R349, R351). -/
def execPerstRelease (q : Nat) (s : State) : Out :=
  let p := q % 2
  if !(s.ep p).perst then done s s
  else done s (s.setEp p { s.ep p with perst := false, readyBy := some s.readyLimit })

/-- FUNCTION_LEVEL_RESET acts as a pulse of PCIq_PERST_N (R404). -/
def execFunctionLevelReset (q : Nat) (s : State) : Out :=
  let p := q % 2
  let t := s.endpointReset p
  done s (t.setEp p { t.ep p with readyBy := some t.readyLimit, perst := (s.ep p).perst })

/-- PCIE_READY: an endpoint becomes ready for configuration with its link up (R351); with both ready, PCIE_READY is set and
the time recorded. -/
def execPcieReady (q speed width : Nat) (s : State) : Out :=
  let p := q % 2
  let x := s.ep p
  if x.perst ∨ x.ready ∨ s.moor.pwrgoodAt.isNone ∨ s.moor.resetLow then done s s
  else
    let t := (s.setEp p { x with ready := true, readyBy := none }).wr (Reg.PCI_LINK_STATUS p)
      (speed % 8 + width % 32 * 8 + 256)
    let u := t.flushPba p
    done s (if (u.ep (1 - p)).ready && !(u.bitAt Reg.BOOT_STATUS 3) then
      (u.setBit Reg.BOOT_STATUS 3 true).wr Reg.BOOT_PCIE_READY_US ((u.clk - u.moor.t0) / 1000) else u)

/-- An error is reported through AER and counted in PCIq_AER_COUNT (R406, R407). -/
def State.aer (s : State) (q : Nat) : State := s.inc (Reg.PCI_AER_COUNT q)

/-- BAR_UNSUPPORTED: a memory request outside every BAR or to the reserved part of BAR2 (R406). -/
def execBarUnsupported (q : Nat) (posted : Bool) (s : State) : Out :=
  done s (if posted then s.aer (q % 2) else s.emit (.unsupported (q % 2)))

/-- The endpoint of a PCIe domain. -/
def portOf (d : Dom) : Option Nat := match d with | .p0 => some 0 | .p1 => some 1 | .s | .f => none

/-- A write TLP of domain `d` to the BAR2 window (R407, R410, R414). -/
def State.apertureWrite (s : State) (d : Dom) (offset : Nat) (bytes : List Byte) (poisoned : Bool) : State :=
  match portOf d with
  | none => s
  | some q =>
    let n := offset / 0x10000
    if 3 < n then s.aer q
    else if poisoned then
      (if n = q then (s.aer q).gwyStop n 6 else s.aer q)
    else if n ≠ q then s.deny d true offset
    else if s.gwyState n = 1 ∧ offset % 0x10000 ≠ s.rd (Reg.GWY_MOVED n) % 0x10000 then
      s.gwyError n 7 (s.gwyChan n).addr
    else s.gwyWrite d n 0x60 bytes

/-- A read TLP of domain `d` for `len` bytes of the BAR2 window (R410, R414, R417). -/
def State.apertureRead (s : State) (d : Dom) (offset len : Nat) : State :=
  match portOf d with
  | none => s
  | some q =>
    let n := offset / 0x10000
    let ones := List.replicate len (0xFF : Byte)
    if 3 < n then s.emit (.unsupported q)
    else if n ≠ q then (s.deny d false offset).emit (.completion d (List.replicate len 0) false)
    else if s.gwyState n = 1 ∧ offset % 0x10000 ≠ s.rd (Reg.GWY_MOVED n) % 0x10000 then
      (s.gwyError n 7 (s.gwyChan n).addr).emit (.completion d ones false)
    else
      let (t, bs, ep) := s.gwyRead n (len / 4)
      t.emit (.completion d bs ep)

/-- A write of 4 or 8 bytes to GWYn_DATA by domain `d` (R410, R413, R417). -/
def State.dataWrite (s : State) (d : Dom) (n : Nat) (lo : W32) (hi : Option W32) : State :=
  let a := Reg.GWY_DATA n
  if !(decide ((s.page (a / 0x1000)).owner = d)) then s.deny d true a
  else match hi with
    | none => s.gwyWrite d n 0x60 (leBytes 4 lo.toNat)
    | some h =>
      if s.gwyMisaligned n then s.gwyError n 3 (s.gwyChan n).addr
      else s.gwyWrite d n 0x60 (leBytes 4 lo.toNat ++ leBytes 4 h.toNat)

/-- A read of 4 or 8 bytes of GWYn_DATA by domain `d` (R410, R413, R417). A domain that does not own the channel takes no
data from it: with read share it reads 0. -/
def State.dataRead (s : State) (d : Dom) (n : Nat) (wide : Bool) : State :=
  let a := Reg.GWY_DATA n
  let k := if wide then 2 else 1
  if !(decide ((s.page (a / 0x1000)).owner = d)) then
    (if s.readShare d then s else s.deny d false a).emit (.completion d (List.replicate (4 * k) 0) false)
  else if wide && s.gwyMisaligned n then
    (s.gwyError n 3 (s.gwyChan n).addr).emit (.completion d (List.replicate 8 0xFF) false)
  else
    let (t, bs, ep) := s.gwyRead n k
    t.emit (.completion d bs ep)

end Sys2Proof.Machine
end

