-- ==== Sys2Proof/Machine/Registers.lean ====
section
/-! DEFINITION. What an accepted register write does, family by family, and the common header (R12, R13, R226, R424 to R435,
R462). A value reaches these functions without its reserved bits and with every field in range. -/

namespace Sys2Proof.Machine

/-- A register holds all but bit `i` of what is written: GO clears itself. -/
def State.wrWithout (s : State) (a v i : Nat) : State := s.wr a (clearBit v i)

/-- A write of MOOR_DRILL (R341): it starts a drill, or is ignored while one runs or no Landing holds the token. -/
def State.writeDrill (s : State) (d : Dom) (v : Nat) : State :=
  if !(bit v 0) then s.wr Reg.MOOR_DRILL v
  else match s.drillStart v with
    | none => s.writeIgnored d Reg.MOOR_DRILL v
    | some t => t.wrWithout Reg.MOOR_DRILL v 0

/-- Control pages: MOOR, LNDx, BOOT, LOGB, SEC, DOM. -/
def State.writeControl (s : State) (d : Dom) (a v : Nat) : State :=
  if a = Reg.MOOR_PREFERRED ∨ a = Reg.MOOR_REVERT then (s.wr a v).revertWatch
  else if a = Reg.MOOR_DRILL then s.writeDrill d v
  else if a = Reg.LND_CTRL 0 then s.writeLandCtrl d .a v
  else if a = Reg.LND_CTRL 1 then s.writeLandCtrl d .b v
  else if a = Reg.BOOT_FLASH_VERIFY then s.writeFlashVerify v
  else if a = Reg.BOOT_SLIPWAY_CMD then (s.wr a v).writeSlipwayCmd d v
  else if a = Reg.LOGB_NOTE_GO then s.writeNoteGo v
  else if a = Reg.LOGB_COMPACT_NOW then s.writeCompactNow v
  else if a = Reg.SEC_FUSE_CMD then (s.wr a v).writeFuseCmd v
  else if a = Reg.DOM_OWN_CMD then s.writeOwnCmd v
  else if a = Reg.DOM_READ_SHARE then (s.wr a v).gwyRecheck
  else if a = Reg.DOM_LOCK_ALL then s.writeLockAll v
  else if Reg.DOM_DRAM_WIN_BASE 0 ≤ a ∧ a < Reg.DOM_DRAM_WIN_BASE 16 then
    s.writeWindow d ((a - Reg.DOM_DRAM_WIN_BASE 0) / 16) ((a - Reg.DOM_DRAM_WIN_BASE 0) % 16 / 4) v
  else s.wr a v

/-- GWYn pages (R412, R413). A 4-byte access to GWYn_DATA_HI alone is ignored and recorded. -/
def State.writeGwyPage (s : State) (d : Dom) (a v : Nat) : State :=
  let n := a / 0x1000 - Page.GWY 0
  if a = Reg.GWY_CTRL n then s.writeGwyCtrl d n v
  else if a = Reg.GWY_ADDR_LO n ∨ a = Reg.GWY_ADDR_HI n then
    (s.setGwy n { s.gwyChan n with rewritten := s.gwyState n = 1 || (s.gwyChan n).rewritten }).wr a v
  else if a = Reg.GWY_DATA n then s.gwyWrite d n 0x60 (leBytes 4 v)
  else if a = Reg.GWY_DATA_HI n then s.writeIgnored d a v
  else s.wr a v

/-- PCIq pages (R420). -/
def State.writePciPage (s : State) (a v : Nat) : State :=
  let q := a / 0x1000 - Page.PCI 0
  if a = Reg.PCI_VEC_MAP q then
    let p := s.fld (Reg.PCI_VEC_SEL q) 11 0
    s.setEp q { s.ep q with vecMap := aset (defaultVector p) p v (s.ep q).vecMap }
  else if a = Reg.PCI_VEC_EOI q then s.writeVecEoi q v
  else s.wr a v

/-- DTM_STEP_APPROVE, the DTM and ING pages, the decoders (R56, R66 to R69, R71 to R89, R111, R112). -/
def State.writeSource (s : State) (d : Dom) (a v : Nat) : State :=
  if a = Reg.DTM_CTRL then s.writeDtmCtrl v
  else if a = Reg.DTM_STEP_APPROVE then s.stepApprove v
  else if a = Reg.DTM_TIME_SET_HI then s.writeTimeSetHi d v
  else if a = Reg.DTM_PHASE_PERIOD then s.writePhasePeriod v
  else if a = Reg.DTM_PHASE_OFFSET then s.writePhaseOffset v
  else if a = Reg.ING_CTX_CMD then s.ctxCmd v
  else if Reg.ING_GROUP_CFG 0 ≤ a ∧ a < Reg.ING_GROUP_CFG 64 then
    (if (a - Reg.ING_GROUP_CFG 0) % 8 = 0 then s.writeGroupCfg ((a - Reg.ING_GROUP_CFG 0) / 8) v
    else s.writeGroupPhase ((a - Reg.ING_GROUP_CFG 0) / 8) v)
  else if (a / 0x1000 - Page.DEC 0) < 8 ∧ a = Reg.DEC_CTRL (a / 0x1000 - Page.DEC 0) then
    s.writeDecCtrl (a / 0x1000 - Page.DEC 0) v
  else if (a / 0x1000 - Page.DEC 0) < 8 ∧ a = Reg.DEC_CLASS_PERMIT (a / 0x1000 - Page.DEC 0) then
    s.writeClassPermit (a / 0x1000 - Page.DEC 0) v
  else s.wr a v

/-- The ATL page (R127 to R129, R136): the store's place and the slot size change while no slot is enabled. -/
def State.writeAtl (s : State) (d : Dom) (a v : Nat) : State :=
  if a = Reg.ATL_STORE_BASE_LO ∨ a = Reg.ATL_STORE_BASE_HI ∨ a = Reg.ATL_SLOT_SIZE then
    (if s.sheetStoreIdle then s.wr a v else s.writeIgnored d a v)
  else if a = Reg.ATL_SHEET_CMD then s.sheetCmd v
  else if Reg.ATL_SLOT_CFG 0 ≤ a ∧ a < Reg.ATL_SLOT_CFG 64 then s.writeSlotCfg d ((a - Reg.ATL_SLOT_CFG 0) / 4) v
  else s.wr a v

/-- A commit of the LAY page by domain `d` (R141, R426). -/
def State.layPageCommit (s : State) (d : Dom) : State := s.layCommit d true (s.rd Reg.LAY_COMMIT_MASK)

/-- The LAY, INS, CART and SIG pages. -/
def State.writeLayers (s : State) (d : Dom) (a v : Nat) : State :=
  if a = Reg.LAY_COMMIT then (if bit v 0 then s.layPageCommit d else s)
  else if a = Reg.LAY_OWNER0 ∨ a = Reg.LAY_OWNER1 then s.writeLayOwner a v
  else if a = Reg.INS_FORCE_UNFLAT then s.writeForceUnflat v
  else if a = Reg.SIG_COMMIT then (if bit v 0 then s.sigCommit else s)
  else if a = Reg.CART_CTRL then s.writeCartCtrl v
  else if a = Reg.CART_DEADLINE then s.writeCartDeadline v
  else if a = Reg.CART_FAULT then s.writeCartFault v
  else if a = Reg.CART_HB_RESYNC then s.writeHbResync v
  else s.wr a v

/-- The GRT and GCOLnn pages (R193, R211, R212). -/
def State.writeGrat (s : State) (a v : Nat) : State :=
  let c := a / 0x1000 - Page.GCOL 0
  if a = Reg.GRT_REBALANCE then (s.wrWithout a v 0).writeRebalance v
  else if Page.GCOL 0 ≤ a / 0x1000 ∧ a = Reg.GCOL_RETIRE c then (s.wrWithout a v 31).writeGcolRetire c v
  else if Page.GCOL 0 ≤ a / 0x1000 ∧ a = Reg.GCOL_BIST_NOW c then s.writeBistNow c v
  else s.wr a v

/-- TPnn_CTRL: BK_SLEEP puts the return lane of a port that is not off to sleep (R273). -/
def State.writeTpCtrl (s : State) (p v : Nat) : State :=
  let t := s.wr (Reg.TP_CTRL p) v
  if s.fld (Reg.TP_STATUS p) 3 2 = 0 then t else t.setFld (Reg.TP_STATUS p) 3 2 (if bit v 1 then 1 else 3)

/-- The SEQ, TLG and TPnn pages (R40, R223, R233, R268, R270, R271). -/
def State.writePanel (s : State) (d : Dom) (a v : Nat) : State :=
  let p := a / 0x1000 - Page.TP 0
  let port := decide (Page.TP 0 ≤ a / 0x1000)
  if a = Reg.SEQ_PMAP_VALIDATE then s.writePmapValidate v
  else if a = Reg.SEQ_MODE_REQ then s.writeModeReq v
  else if a = Reg.SEQ_GATE_FORCE then s.writeGateForce v
  else if a = Reg.TLG_DISCOVER then s.writeDiscover v
  else if port ∧ a = Reg.TP_CTRL p then s.writeTpCtrl p v
  else if port ∧ a = Reg.TP_BK_SLIP p then s.writeBkSlip p v
  else if port ∧ a = Reg.TP_LANE_SWAP p then s.writeLaneSwap d p v
  else s.wr a v

/-- The memory, RAS, BMK, HKP, WEAR and TEL pages (R320, R325, R384, R390, R391, R396, R399, R401). -/
def State.writeHouse (s : State) (d : Dom) (a v : Nat) : State :=
  if a = Reg.RAS_MIG_CMD then
    s.writeMigCmd d v
  else if a = Reg.RAS_INJECT_HI then s.writeInject v
  else if a = Reg.BMK_CMD then s.writeBmkCmd d v
  else if Reg.BMK_TRIM 0 ≤ a ∧ a < Reg.BMK_TRIM 16 then s.writeTrim d ((a - Reg.BMK_TRIM 0) / 4) v
  else if a = Reg.HKP_MASK_LO ∨ a = Reg.HKP_MASK_HI then s.writeMask d a v
  else if Reg.HKP_CH_THR0 0 ≤ a ∧ a < Reg.HKP_CH_THR0 64 ∧ (a - Reg.HKP_CH_THR0 0) % 8 = 4 then
    s.writeThr1 d ((a - Reg.HKP_CH_THR0 0) / 8) v
  else if a = Reg.WEAR_CMD then s.writeWearCmd v
  else if a = Reg.TEL_CTRL then s.writeTelCtrl v
  else s.wr a v

/-- The effect of an accepted write of `v` to the window register at `a` by domain `d`. -/
def State.applyWrite (s : State) (d : Dom) (a v : Nat) : State :=
  match famOfPage (a / 0x1000) with
  | none => s
  | some (f, _) => match f with
    | .moor | .lnd | .boot | .logb | .sec | .dom => s.writeControl d a v
    | .gwy => s.writeGwyPage d a v
    | .pci => s.writePciPage a v
    | .dtm | .ing | .dec => s.writeSource d a v
    | .atl => s.writeAtl d a v
    | .lay | .ins | .cart | .sig => s.writeLayers d a v
    | .grt | .gcol => s.writeGrat a v
    | .seq | .tlg | .tp => s.writePanel d a v
    | .dmg | .dch | .ras | .bmk | .hkp | .wear | .tel => s.writeHouse d a v
    | .glb | .haws | .irq | .sft | .eth | .wbk => s.wr a v

/-- The RW registers of a page, and its RWL registers while it is unlocked. -/
def writtenRegs (page : Nat) (unlocked : Bool) : List Nat :=
  match famOfPage page with
  | none => []
  | some (f, i) => (f.rows.filter (fun r =>
      (decide (r.access = .rw) || (unlocked && decide (r.access = .rwl))) && (!r.only0 || decide (i = 0)))).flatMap (fun r =>
    (List.range r.n1).flatMap (fun x => (List.range r.n2).map (fun y =>
      0x1000 * page + r.off + r.st1 * x + r.st2 * y)))

/-- A written value returns to its reset value (R425), without the checks that a host's write meets (R411). -/
def State.resetReg (s : State) (d : Dom) (a : Nat) : State :=
  let v := (regReset s.dev a).toNat
  let page := a / 0x1000
  if Reg.BMK_TRIM 0 ≤ a ∧ a < Reg.BMK_TRIM 16 then
    { s with bmk := { s.bmk with trims := aset 0 (16 * s.bmkSel + (a - Reg.BMK_TRIM 0) / 4) 0 s.bmk.trims } }
  else if page = Page.PCI 0 ∨ page = Page.PCI 1 then
    (if a = Reg.PCI_VEC_MAP (page - Page.PCI 0) then
      s.setEp (page - Page.PCI 0) { s.ep (page - Page.PCI 0) with vecMap := [] } else s.wr a v)
  else if s.rd a = v then s
  else if page = Page.DOM ∨ a = Reg.ATL_STORE_BASE_LO ∨ a = Reg.ATL_STORE_BASE_HI ∨ a = Reg.ATL_SLOT_SIZE then s.wr a v
  else s.applyWrite d a v

/-- ERR_CAPTURE0 to 3 are cleared, and LOST with VALID (R424, R425). -/
def State.clearCapture (s : State) (page : Nat) : State :=
  ((((s.wr (Reg.ERR_CAPTURE0 page) 0).wr (Reg.ERR_CAPTURE1 page) 0).wr (Reg.ERR_CAPTURE2 page) 0).wr
    (Reg.ERR_CAPTURE3 page) 0).setPage page { s.page page with lost := false }

/-- SOFT_RESET of a page (R411, R425): its DRAM windows are disabled at one instant. -/
def State.softReset (s : State) (d : Dom) (page : Nat) : State :=
  let t := (writtenRegs page (s.page page).unlocked).foldl (fun (u : State) (a : Nat) => u.resetReg d a) s
  let u := ((t.wr (Reg.INT_RAW page) 0).wr (Reg.INT_ENABLE page) 0).clearCapture page
  if page = Page.DOM then u.gwyRecheck else u

/-- COMMIT of a page by domain `d` (R226, R425, R426). -/
def State.pageCommit (s : State) (d : Dom) (page : Nat) : State :=
  if !(commitPage page) then s
  else if page = Page.LAY then s.layPageCommit d
  else if page = Page.SIG then s.sigCommit
  else s.makeCommit page

/-- EXPERT_UNLOCK: 0x5EA7 unlocks, 0 leaves the lock as it is, any other value locks (R425, R434). -/
def State.writeUnlock (s : State) (page key : Nat) : State :=
  if key = 0 then s else s.setPage page { s.page page with unlocked := decide (key = 0x5EA7) }

/-- A write of PAGE_CTRL: its fields act in the order EXPERT_UNLOCK, SOFT_RESET, COMMIT (R425). -/
def State.writePageCtrl (s : State) (d : Dom) (page v : Nat) : State :=
  let s1 := s.writeUnlock page (bits v 31 16)
  let s2 := if bit v 1 then s1.softReset d page else s1
  if bit v 2 then s2.pageCommit d page else s2

/-- W1C of INT_RAW (R12, R427). -/
def State.clearRaw (s : State) (page v : Nat) : State :=
  s.wr (Reg.INT_RAW page) (s.rd (Reg.INT_RAW page) &&& (0xFFFFFFFF ^^^ v % 2 ^ 32))

/-- INT_FORCE: assigned bits are set as their events would (R424, R427). -/
def State.forceRaw (s : State) (page v : Nat) : State :=
  s.wr (Reg.INT_RAW page) (s.rd (Reg.INT_RAW page) ||| (v &&& intMask page))

/-- Writing 1 to ERR_CAPTURE0.VALID clears VALID and LOST (R429). -/
def State.clearValid (s : State) (page v : Nat) : State :=
  if bit v 31 then
    (s.setBit (Reg.ERR_CAPTURE0 page) 31 false).setPage page { s.page page with lost := false }
  else s

/-- A write to the common header by the page's owner `d` (R424, R425, R427, R429). -/
def State.headerWrite (s : State) (d : Dom) (a v : Nat) : State :=
  let page := a / 0x1000
  let off := a % 0x1000
  if off = 0x008 then s.writePageCtrl d page v
  else if off = 0x010 then s.clearRaw page v
  else if off = 0x014 then s.wr a (v &&& intMask page)
  else if off = 0x01C then s.forceRaw page v
  else if off = 0x020 then s.clearValid page v
  else s

/-- A whole-word write by the owner to the window register at `a`: reserved bits are dropped, and a value out of range is
ignored and recorded (R12, R13, R462). -/
def State.windowWrite (s : State) (d : Dom) (a v : Nat) : State :=
  match rowAt a with
  | none => s
  | some r =>
    let w := v &&& fieldMask r.fields
    match r.access with
    | .ro | .rc => s
    | .rw | .rwl => if fieldsAdmit r.fields w then s.applyWrite d a w else s.writeIgnored d a v
    | .wo | .w1c | .w1s => s.applyWrite d a w

/-- Pages whose writes are accepted before STAGE reads RUN (R352). -/
def earlyPage (page : Nat) : Bool :=
  [Page.GLB, Page.BOOT, Page.SEC, Page.DOM, Page.MOOR, Page.LND 0, Page.LND 1, Page.PCI 0, Page.PCI 1, Page.IRQ, Page.GWY 0,
    Page.GWY 1, Page.GWY 2, Page.GWY 3].contains page

/-- Pages that BAR0 of domain `d` answers in basic mode (R365). -/
def basicPage (d : Dom) (page : Nat) : Bool :=
  [Page.GLB, Page.BOOT, Page.SEC, Page.LND 0, Page.LND 1, Page.PCI d.code, Page.GWY d.code].contains page

/-- A frame-scoped register. -/
def scopedReg (a : Nat) : Bool := (frameScoped (a / 0x1000)).contains a

/-- A commit control of R226: PAGE_CTRL.COMMIT, LAY_COMMIT, SIG_COMMIT, ATL_SHEET_CMD, SEQ_MODE_REQ. -/
def commitControl (a v : Nat) : Bool :=
  (decide (a % 0x1000 = 0x008) && commitPage (a / 0x1000) && bit v 2) ||
    ((decide (a = Reg.LAY_COMMIT) || decide (a = Reg.SIG_COMMIT)) && bit v 0) || decide (a = Reg.ATL_SHEET_CMD) ||
    (decide (a = Reg.SEQ_MODE_REQ) && bit v 31)

/-- A write that a Landing's shadow set serves is counted (R334). -/
def State.countScoped (s : State) (a v : Nat) : State :=
  if scopedReg a || commitControl a v then { s with moor := { s.moor with writes := s.moor.writes + 1 } } else s

/-- A write that has passed the ownership check: NOT_RUN, PARTIAL_WRITE and RWL_LOCKED are recorded, and what is left takes
effect (R352, R406, R422, R430, R435). -/
def State.ownedWrite (s : State) (w : RegWrite) : State :=
  let page := w.addr / 0x1000
  let off := w.addr % 0x1000
  let v := w.value.toNat
  if off < 0x040 then
    (if !s.running && !(earlyPage page) then s.ignoredWrite w.dom w.addr 0x00F5 v
    else if w.be % 16 ≠ 15 then s.ignoredWrite w.dom w.addr 0x00F3 v
    else (s.countScoped w.addr v).headerWrite w.dom w.addr v)
  else if (rowAt w.addr).isNone then s
  else if !s.running && !(earlyPage page) then s.ignoredWrite w.dom w.addr 0x00F5 v
  else if w.be % 16 ≠ 15 then s.ignoredWrite w.dom w.addr 0x00F3 v
  else if 0x400 ≤ off ∧ !(s.page page).unlocked then s.ignoredWrite w.dom w.addr 0x00F2 v
  else (s.countScoped w.addr v).windowWrite w.dom w.addr v

/-- A register write of a domain (R365, R406, R410, R433). `none` stands for no Landing: what a Landing serves is recorded
as ignored then (R463). -/
def State.regWrite (s : State) (w : RegWrite) (landing : Bool) : State :=
  let page := w.addr / 0x1000
  if w.addr % 4 ≠ 0 ∨ !(populated page) then s
  else if s.basicFor w.dom then (if basicPage w.dom page then s.ownedWrite w else s)
  else if !(decide ((s.page page).owner = w.dom)) then s.deny w.dom true w.addr
  else if !landing && (scopedReg w.addr || commitControl w.addr w.value.toNat) then
    s.writeIgnored w.dom w.addr w.value.toNat
  else s.ownedWrite w

end Sys2Proof.Machine
end

