-- ==== Sys2Proof/Machine/Views.lean ====
section
/-! DEFINITION. What a register read returns: the header and the registers whose value follows from other state (R12, R71,
R410, R420, R424, R431, R432, R436), and what a read changes (R12, R71). -/

namespace Sys2Proof.Machine

/-- A Bool as a bit. -/
def b2n (b : Bool) : Nat := if b then 1 else 0

/-- COMMIT_PENDING of a page (R424, R432). -/
def State.commitPendingReg (s : State) (page : Nat) : Nat :=
  if page = Page.LAY then s.layPendMask
  else if page = Page.CART then b2n s.cart.pend.isSome
  else b2n (commitPage page && s.commitPends page)

/-- PAGE_STATUS (R424). -/
def State.pageStatusReg (s : State) (page : Nat) : Nat :=
  b2n (s.page page).unlocked +
    2 * b2n (decide (s.commitPendingReg page ≠ 0) || (decide (page = Page.LAY) && s.commitPends page)) +
    4 * b2n (s.bitAt (Reg.ERR_CAPTURE0 page) 31) + 8 * b2n (s.page page).lost

/-- PAGE_ID and PAGE_CAPS of the page at index `i` of its family (R424). -/
def pageIdReg (f : PageFam) (i : Nat) : Nat := 1 + i * 0x100 + f.base * 0x10000

/-- PAGE_CAPS. -/
def pageCapsReg (f : PageFam) (i : Nat) : Nat :=
  1 + 2 * b2n (f.rows.any (fun r => decide (0x400 ≤ r.off) && (!r.only0 || decide (i = 0)))) + 4 * b2n f.hasCommit +
    f.intSpan i * 0x100 + f.regCount i * 0x10000

/-- PAGE_OWNER (R408). -/
def State.ownerReg (s : State) (page : Nat) : Nat :=
  (s.page page).owner.code + 0x100 * b2n (s.page page).lock + 0x200 * b2n (fixedPage page)

/-- A header register as read (R424). -/
def State.viewHeader (s : State) (a : Nat) : Nat :=
  let page := a / 0x1000
  let off := a % 0x1000
  match famOfPage page with
  | none => 0
  | some (f, i) =>
    if off = 0x000 then pageIdReg f i
    else if off = 0x004 then pageCapsReg f i
    else if off = 0x008 then 1 + 0x5EA70000 * b2n (s.page page).unlocked
    else if off = 0x00C then s.pageStatusReg page
    else if off = 0x018 then s.intPending page
    else if off = 0x030 then s.ownerReg page
    else if off = 0x034 then (if page = Page.CART then s.rd Reg.CART_COMMIT_SEQ
      else if commitPage page then s.rd a else 0)
    else if off = 0x038 then s.commitPendingReg page
    else if [0x010, 0x014, 0x020, 0x024, 0x028, 0x02C].contains off then s.rd a
    else 0

/-- SWAP_STATE of MOOR_STATUS (R341, R343, chapter 15): 0 none, 1 a swap waits for its gate, 2 a take-over, 3 a drill's
watch, 4 the revert hold-off. -/
def State.swapState (s : State) : Nat :=
  if s.moor.lastHolder.isSome || s.moor.window.isSome then 2
  else if s.moor.swapAtGate || decide (s.moor.swapWant ≠ 0) then 1
  else if s.moor.watchEnd.isSome then 3
  else if s.moor.revertFrom.isSome then 4
  else 0

/-- Pending vectors of endpoint `q` as a mask (R420). -/
def State.vecMask (s : State) (q : Nat) : Nat :=
  (List.range 64).foldl (fun (m v : Nat) => if (s.pendingVecs q).contains v then m + 2 ^ v else m) 0

/-- Control pages. -/
def State.viewControl (s : State) (d : Dom) (a : Nat) : Nat :=
  let q := a / 0x1000 - Page.PCI 0
  let n := a / 0x1000 - Page.GWY 0
  if a = Reg.GLB_WHOAMI then d.code + 4 * b2n (s.basicFor d)
  else if a = Reg.GLB_UPTIME_S then
    (match s.moor.pwrgoodAt with | some t => min ((s.clk - t) / 1000000000) 0xFFFFFFFF | none => 0)
  else if a = Reg.MOOR_STATUS then putBits (s.rd a) 10 8 s.swapState
  else if a = Reg.MOOR_REVERT_COUNT then s.recentReverts.length
  else if a = Reg.IRQ_NEXT then (match s.pendingPagesOf d with | p :: _ => p | [] => 0x80000000)
  else if a = Reg.IRQ_PEND_COUNT then (s.pendingPagesOf d).length
  else if a = Reg.IRQ_S_PIN then b2n (!s.irqSN)
  else if a = Reg.PCI_VEC_MAP q then (s.ep q).vector (s.fld (Reg.PCI_VEC_SEL q) 11 0)
  else if a = Reg.PCI_VEC_PEND_LO q then s.vecMask q % 2 ^ 32
  else if a = Reg.PCI_VEC_PEND_HI q then s.vecMask q / 2 ^ 32
  else if a = Reg.SFT_STATUS then b2n s.sftFaultN + 2 * b2n s.irqSN
  else if a = Reg.GWY_ADDR_LO n ∧ s.gwyState n = 1 then (s.gwyChan n).addr % 2 ^ 32
  else if a = Reg.GWY_ADDR_HI n ∧ s.gwyState n = 1 then (s.gwyChan n).addr / 2 ^ 32
  else if a = Reg.GWY_STATUS n ∧ s.gwyState n = 1 then putBits (s.rd a) 26 16 (s.gwyRoom n)
  else s.rd a

/-- Datum, decoder, layer and Graticule pages. -/
def State.viewImage (s : State) (a : Nat) : Nat :=
  let n := a / 0x1000 - Page.DEC 0
  if a = Reg.DTM_TIME_LO then s.dtm.time % 2 ^ 32
  else if a = Reg.DTM_FREQ_ADJ then s.freqAdjReg
  else if a = Reg.DTM_HOLD_TIME then s.holdTimeReg
  else if a = Reg.DTM_HOLD_DRIFT then s.holdDriftReg
  else if a = Reg.DEC_STATUS n then s.decStatusReg n
  else if Reg.DEC_CORE_UTIL n 0 ≤ a ∧ a < Reg.DEC_CORE_UTIL n 4 ∧ (a - Reg.DEC_CORE_UTIL n 0) % 16 = 0 then
    s.coreBusy (4 * n + (a - Reg.DEC_CORE_UTIL n 0) / 16) / 1000000
  else if a = Reg.DEC0_AGG_UTIL then
    (List.range 32).foldl (fun (m k : Nat) => m + s.coreBusy k) 0 / 32000000
  else if a = Reg.LAY_READY then s.layReadyMask
  else if Reg.GRT_PORT_MAP 0 ≤ a ∧ a < Reg.GRT_PORT_MAP 64 then
    aget 0 ((a - Reg.GRT_PORT_MAP 0) / 4) s.grt.assign
  else s.rd a

/-- Memory, reliability, Benchmark and telemetry pages. -/
def State.viewHouse (s : State) (a : Nat) : Nat :=
  let g := a / 0x1000 - Page.DMG 0
  if a = Reg.DMG_BW_RT g then s.memTraffic g true
  else if a = Reg.DMG_BW_NRT g then s.memTraffic g false
  else if a = Reg.RAS_RANK_CE then (s.rank (s.fld Reg.RAS_RANK_SEL 6 0)).ce
  else if a = Reg.RAS_RANK_UE then (s.rank (s.fld Reg.RAS_RANK_SEL 6 0)).ue
  else if a = Reg.RAS_INJECT_HI then putBits (s.rd a) 31 31 (b2n s.mem.inject.isSome)
  else if a = Reg.BMK_QUAL then s.bmkQual
  else if Reg.BMK_TRIM 0 ≤ a ∧ a < Reg.BMK_TRIM 16 then (s.trim s.bmkSel ((a - Reg.BMK_TRIM 0) / 4)).toNat
  else if a = Reg.TEL_HIST_DATA then
    aget 0 (32 * s.fld Reg.TEL_HIST_SEL 9 8 + s.fld Reg.TEL_HIST_SEL 4 0) s.tel.hist
  else if a = Reg.TEL_QID_COUNT then
    let q := s.fld Reg.TEL_QID_SEL 15 0
    min (aget 0 q s.tel.resets) 65535 + 65536 * min (aget 0 q s.tel.overflows) 65535
  else s.rd a

/-- The value that a read of the register at `a` by domain `d` returns; GWYn_DATA is read elsewhere (R12, R406, R424). -/
def State.viewReg (s : State) (d : Dom) (a : Nat) : Nat :=
  match famOfPage (a / 0x1000) with
  | none => 0
  | some (f, _) =>
    if a % 0x1000 < 0x040 then s.viewHeader a
    else match rowAt a with
    | none => 0
    | some r =>
      if r.access = .wo then 0
      else match f with
        | .glb | .moor | .lnd | .haws | .boot | .logb | .sec | .dom | .irq | .gwy | .pci | .sft => s.viewControl d a
        | .dtm | .eth | .ing | .dec | .atl | .lay | .ins | .wbk | .cart | .sig | .grt | .gcol => s.viewImage a
        | .seq | .tlg | .tp | .dmg | .dch | .ras | .bmk | .hkp | .wear | .tel => s.viewHouse a

/-- What a read changes: an RC register restarts (R12), and DTM_TIME_LO latches the other time words (R71). -/
def State.readEffect (s : State) (a : Nat) : State :=
  if a = Reg.DTM_TIME_LO then s.latchTime
  else match rowAt a with
  | some r => if r.access = .rc then s.setReg a (regReset s.dev a) else s
  | none => s

/-- A register read of a domain (R365, R406, R410, R431): the state after it and the value. A partial read returns the
aligned word. Without a Landing, a frame-scoped register reads its value in force (R463). -/
def State.regRead (s : State) (d : Dom) (addr : Nat) (landing : Bool) : State × Nat :=
  let a := addr / 4 * 4
  let page := a / 0x1000
  if !(populated page) then (s, 0)
  else if s.basicFor d && !(basicPage d page) then (s, 0)
  else if !(s.basicFor d) && !(s.mayRead d a) then (s.deny d false a, 0)
  else if !landing && scopedReg a then (s, s.inForce a)
  else (s.readEffect a, s.viewReg d a)

end Sys2Proof.Machine
end

