-- ==== Sys2Proof/Machine/SafetyPort.lean ====
section
/-! DEFINITION. The safety port (R178 to R184, R418): the request frame, its checks and its commands. -/

namespace Sys2Proof.Machine

/-- The command codes of R181. -/
def safetyCmds : List Nat := [0x0101, 0x0102, 0x0201, 0x0202, 0x0203, 0x0301, 0x0401, 0x0402]

/-- Length of the request's payload: LEN for the commands that write (R179, R181). -/
def safetyBody (cmd len : Nat) : Nat := if [0x0102, 0x0201, 0x0202, 0x0402].contains cmd then len else 0

/-- The bytes on SFT_MOSI: header, payload and CRC (R179). -/
def frameStream (f : SafetyFrame) : List Byte :=
  beBytes 2 f.cmd ++ beBytes 4 f.addr ++ beBytes 2 f.len ++ f.payload ++ beBytes 4 f.crc

/-- Bytes before the CRC of the frame that the header announces. -/
def frameSize (f : SafetyFrame) : Nat := 8 + safetyBody (f.cmd % 65536) (f.len % 65536)

/-- The request frame is complete (R183). -/
def frameComplete (f : SafetyFrame) : Bool := decide ((frameSize f) + 4 ≤ (frameStream f).length)

/-- The CRC over all preceding bytes of the frame matches (R179). -/
def frameCrcOk (f : SafetyFrame) : Bool :=
  decide (((frameStream f).drop (frameSize f)).take 4 = beBytes 4 (crc32c ((frameStream f).take (frameSize f))))

/-- A field that must be 0 is not (R181, R182). -/
def frameBadZero (f : SafetyFrame) : Bool :=
  ([0x0202, 0x0401, 0x0402].contains f.cmd && decide (f.addr ≠ 0)) || (decide (f.cmd = 0x0301) && decide (65536 ≤ f.addr)) ||
    (decide (f.cmd = 0x0202) && decide (4 ≤ f.len) && decide (1 < leNat (f.payload.take 4)))

/-- LEN is not a multiple of 4, above 4,096, or wrong for the command (R182). -/
def frameBadLen (f : SafetyFrame) : Bool :=
  decide (f.len % 4 ≠ 0) || decide (4096 < f.len) ||
    (if f.cmd = 0x0202 then decide (f.len ≠ 12)
    else if f.cmd = 0x0301 ∨ f.cmd = 0x0401 then decide (f.len ≠ 0)
    else if f.cmd = 0x0402 then decide (f.len ≠ 4)
    else if f.cmd = 0x0201 ∨ f.cmd = 0x0203 then decide (f.len = 0)
    else false)

/-- ADDR is misaligned, outside the space, or the access crosses the end of a page or bank (R182). -/
def frameBadAddr (f : SafetyFrame) : Bool :=
  if f.cmd = 0x0101 ∨ f.cmd = 0x0102 then
    decide (f.addr % 4 ≠ 0) || decide (0x1000000 ≤ f.addr) || decide (0x1000 < f.addr % 0x1000 + f.len)
  else if f.cmd = 0x0201 ∨ f.cmd = 0x0203 then
    decide (f.addr % 4 ≠ 0) || decide (0x400000 ≤ f.addr) || decide (0x200000 < f.addr % 0x200000 + f.len)
  else false

/-- The page is not one that S owns (R181). -/
def State.safetyAlien (s : State) (f : SafetyFrame) : Bool :=
  (decide (f.cmd = 0x0101) || decide (f.cmd = 0x0102)) &&
    (!(populated (f.addr / 0x1000)) || !(decide ((s.page (f.addr / 0x1000)).owner = .s)))

/-- The checks of a frame whose CRC matches: the STATUS of R182, 0 when all hold. -/
def State.safetyCheck (s : State) (f : SafetyFrame) : Nat :=
  if !(safetyCmds.contains f.cmd) || (frameBadZero f) then 2
  else if (frameBadLen f) then 5
  else if (frameBadAddr f) then 4
  else if s.safetyAlien f then 3
  else 0

/-- GWY2 takes up a transfer with the pane store (R181, R418). -/
def State.paneStart (s : State) (read : Bool) (addr len : Nat) : State :=
  (((s.wr (Reg.GWY_CFG 2) (4 + (if read then 256 else 0))).wr64 (Reg.GWY_ADDR_LO 2) (Reg.GWY_ADDR_HI 2) addr).wr
    (Reg.GWY_LEN 2) len).gwyBegin 2 { target := 4, read := read, len := len, addr := addr }

/-- Every byte of GWY2's transfer has moved: DONE (R417). -/
def State.paneMoved (s : State) (addr len : Nat) : State :=
  (((s.setGwy 2 { s.gwyChan 2 with addr := addr + len }).wr (Reg.GWY_MOVED 2) len)).gwyFinish 2

/-- PANE_UPLOAD: bytes are written to a bank that is neither active nor pending (R172, R181 to R183). -/
def State.paneUpload (s : State) (addr : Nat) (bs : List Byte) : State × Nat × List Byte :=
  let t := s.paneStart false addr bs.length
  if s.paneLocked (addr / 0x200000) then (t.gwyError 2 5 addr, 6, [])
  else ((t.panePut addr bs).paneMoved addr bs.length, 0, [])

/-- A word of the store in [addr, addr + len) is uncorrectable (R172). -/
def State.paneHurt (s : State) (addr len : Nat) : Bool :=
  s.mem.paneBad.any (fun w => decide (8 * w < addr + len) && decide (addr < 8 * w + 8))

/-- PANE_READ: bytes of the store, or STORE_ERR with STORE_ECC latched (R172, R182). -/
def State.paneRead (s : State) (addr len : Nat) : State × Nat × List Byte :=
  let t := s.paneStart true addr len
  if s.paneHurt addr len then ((t.gwyError 2 6 addr).cartLatch 16, 8, [])
  else (t.paneMoved addr len, 0, agetMany 0 addr len s.mem.pane)

/-- PAGE_WRITE: the words are written in address order (R181). -/
def State.pageWrite (s : State) (addr : Nat) (bs : List Byte) (landing : Bool) : State :=
  (units4 bs).zipIdx.foldl (fun (t : State) (x : List Byte × Nat) =>
    t.regWrite { dom := .s, addr := addr + 4 * x.2, value := BitVec.ofNat 32 (leNat x.1), be := 15 } landing) s

/-- A register read, with GWYn_DATA and GWYn_DATA_HI of a channel that the reader owns (R413). -/
def State.wordRead (s : State) (d : Dom) (addr : Nat) (landing : Bool) : State × Nat :=
  let a := addr / 4 * 4
  let n := a / 0x1000 - Page.GWY 0
  let chan := decide (Page.GWY 0 ≤ a / 0x1000) && decide (n < 4) && decide (Dom.ofCode n = d)
  if chan && decide (a = Reg.GWY_DATA n) then
    let (t, bs, _) := s.gwyRead n 1
    (t, leNat bs)
  else if chan && decide (a = Reg.GWY_DATA_HI n) then (s.writeIgnored d a 0, 0)
  else s.regRead d addr landing

/-- PAGE_READ: `k` words from `addr` on (R181). -/
def State.pageRead (s : State) (addr : Nat) (landing : Bool) : Nat → State × List Byte
  | 0 => (s, [])
  | k + 1 =>
    let (t, v) := s.wordRead .s addr landing
    let (u, bs) := t.pageRead (addr + 4) landing k
    (u, leBytes 4 v ++ bs)

/-- HEARTBEAT: accepted, the next sequence and CART_FAULT are returned; refused with BAD_SEQ (R181, R184). -/
def State.heartbeat (s : State) (seq : Nat) : State × Nat × List Byte :=
  if s.hbAccepts seq then
    let t := s.hbAccept seq
    (t, 0, leBytes 4 (t.fld Reg.CART_HB_SEQ 15 0 + 65536 * t.fld Reg.CART_FAULT 5 0))
  else (s, 7, [])

/-- FAULT_QUERY (R181). -/
def State.faultQuery (s : State) : List Byte :=
  leBytes 4 (s.rd Reg.CART_FAULT) ++ leBytes 4 (s.rd Reg.CART_STATUS) ++ leBytes 4 (s.rd Reg.CART_FAULT_FRAME) ++
    leBytes 4 (s.rd Reg.CART_HB_MISS_COUNT)

/-- What a request that passed the checks does: the state, STATUS and the response's payload (R181). -/
def State.safetyRun (s : State) (f : SafetyFrame) (landing : Bool) : State × Nat × List Byte :=
  let body := f.payload.take f.len
  if f.cmd = 0x0101 then
    let (t, bs) := s.pageRead f.addr landing (f.len / 4)
    (t, 0, bs)
  else if f.cmd = 0x0102 then (s.pageWrite f.addr body landing, 0, [])
  else if f.cmd = 0x0201 then s.paneUpload f.addr body
  else if f.cmd = 0x0202 then
    (s.paneCommit (leNat (body.take 4)) (leNat ((body.drop 4).take 4)) (leNat ((body.drop 8).take 4)), 0, [])
  else if f.cmd = 0x0203 then s.paneRead f.addr f.len
  else if f.cmd = 0x0301 then s.heartbeat f.addr
  else if f.cmd = 0x0401 then (s, 0, s.faultQuery)
  else if f.cmd = 0x0402 then (s.writeCartFault (leNat body), 0, [])
  else (s, 2, [])

/-- The response after its wait bytes: the start byte and the frame (R178, R180). -/
def safetyResponse (status cmd : Nat) (payload : List Byte) : List Byte :=
  let r := beBytes 2 status ++ beBytes 2 cmd ++ beBytes 2 payload.length ++ payload
  0x5A :: (r ++ beBytes 4 (crc32c r))

/-- The response is sent; a refusal is counted (R180, R182). -/
def State.safetyAnswer (s : State) (f : SafetyFrame) (status : Nat) (payload : List Byte) : State :=
  (if status = 0 then s else s.inc Reg.SFT_REFUSED_COUNT).emit (.safety (safetyResponse status f.cmd payload))

/-- A complete request frame with a correct CRC (R180 to R182). -/
def State.safetyAct (s : State) (f : SafetyFrame) (landing : Bool) : State :=
  let code := s.safetyCheck f
  if code ≠ 0 then s.safetyAnswer f code []
  else
    let (t, status, payload) := s.safetyRun f landing
    t.safetyAnswer f status payload

/-- A request cut short is discarded and counted (R183). -/
def State.safetyAbort (s : State) : State := s.inc Reg.SFT_ABORT_COUNT

/-- A request of the safety host (R178 to R183). -/
def State.safetyRequest (s : State) (f : SafetyFrame) (landing : Bool) : State :=
  if !(frameComplete f) then s.safetyAbort
  else if !(frameCrcOk f) then (s.inc Reg.SFT_CRC_ERR_COUNT).safetyAnswer f 1 []
  else s.safetyAct f landing

end Sys2Proof.Machine
end

