-- ==== Sys2Proof/Machine/HostPort.lean ====
section
/-! DEFINITION. The host ports: how a domain's request is performed, held during a hand-over of the helm token, and released
(R338, R340, R463). -/

namespace Sys2Proof.Machine

/-- The domain that sends a request. -/
def reqDom : HostReq → Dom
  | .write w => w.dom
  | .read d _ => d
  | .data d _ _ _ => d
  | .dataRead d _ _ => d
  | .apWrite d _ _ _ => d
  | .apRead d _ _ => d
  | .safety _ => .s

/-- The request awaits a completion or a response. -/
def reqNonPosted : HostReq → Bool
  | .write _ => false
  | .read _ _ => true
  | .data _ _ _ _ => false
  | .dataRead _ _ _ => true
  | .apWrite _ _ _ _ => false
  | .apRead _ _ _ => true
  | .safety _ => true

/-- A word of a PAGE_READ or PAGE_WRITE frame is bound for a Landing. -/
def frameBound (f : SafetyFrame) : Bool :=
  if f.cmd = 0x0101 then (List.range (f.len / 4)).any (fun i => scopedReg (f.addr + 4 * i))
  else if f.cmd = 0x0102 then (units4 f.payload).zipIdx.any (fun x =>
    scopedReg (f.addr + 4 * x.2) || commitControl (f.addr + 4 * x.2) (leNat x.1))
  else false

/-- A Landing's shadow set serves the request (R463). -/
def reqBound : HostReq → Bool
  | .write w => scopedReg w.addr || commitControl w.addr w.value.toNat
  | .read _ a => scopedReg (a / 4 * 4)
  | .data _ _ _ _ => false
  | .dataRead _ _ _ => false
  | .apWrite _ _ _ _ => false
  | .apRead _ _ _ => false
  | .safety f => frameBound f

/-- The port performs a request; without `landing` no Landing serves it (R463). -/
def State.perform (s : State) (r : HostReq) (landing : Bool) : State :=
  match r with
  | .write w => s.regWrite w landing
  | .read d a =>
    let x := s.wordRead d a landing
    x.1.emit (.readData d a (BitVec.ofNat 32 x.2))
  | .data d n lo hi => s.dataWrite d n lo hi
  | .dataRead d n wide => s.dataRead d n wide
  | .apWrite d o bs poisoned => s.apertureWrite d o bs poisoned
  | .apRead d o n => s.apertureRead d o n
  | .safety f => s.safetyRequest f landing

/-- Requests of domain `d` are held. -/
def State.holding (s : State) (d : Dom) : Bool := s.moor.held.any (fun x => decide (reqDom x.2 = d))

/-- The hold of domain `d` ended by timeout and no Landing holds the token yet (R463). -/
def State.unserved (s : State) (d : Dom) : Bool := s.moor.hold && s.moor.holdOver.contains d

/-- The port holds the request: one of its domain is held already, or it is the first one bound for a Landing (R463). -/
def State.holds (s : State) (r : HostReq) : Bool :=
  s.moor.hold && !(decide (reqDom r = .f)) && !(s.moor.holdOver.contains (reqDom r)) &&
    (s.holding (reqDom r) || reqBound r)

/-- Requests are performed in issue order. -/
def State.performAll (s : State) (rs : List (Nat × HostReq)) (landing : Bool) : State :=
  rs.foldl (fun (t : State) (x : Nat × HostReq) => t.perform x.2 landing) s

/-- The hold has ended: every held request is performed (R463). -/
def State.releaseHeld (s : State) : State :=
  if s.moor.hold then s
  else ({ s with moor := { s.moor with held := [] } }).performAll s.moor.held true

/-- A request reaches its port (R463); nothing is held outside a hold. -/
def State.submit (s : State) (r : HostReq) : State :=
  if s.holds r then { s with moor := { s.moor with held := s.moor.held ++ [(s.clk, r)] } }
  else if s.moor.hold then (s.perform r (!(s.unserved (reqDom r)))).releaseHeld
  else s.perform r true

/-- The earliest held non-posted request of domain `d` has waited 500 µs. -/
def State.holdDue (s : State) (d : Dom) : Bool :=
  match s.moor.held.find? (fun x => decide (reqDom x.2 = d) && reqNonPosted x.2) with
  | some (t, _) => decide (t + 500000 ≤ s.clk)
  | none => false

/-- The hold of domain `d` ends by timeout: its requests are performed without a Landing (R463). -/
def State.holdTimeout (s : State) (d : Dom) : State :=
  let t := { s with moor := { s.moor with
    holdOver := d :: s.moor.holdOver
    held := s.moor.held.filter (fun x => !(decide (reqDom x.2 = d))) } }
  t.performAll (s.moor.held.filter (fun x => decide (reqDom x.2 = d))) false

/-- HOST_HOLD_TIMEOUT (R463). -/
def execHostHoldTimeout (d : Dom) (s : State) : Out :=
  if s.holdDue d then done s (s.holdTimeout d).releaseHeld else done s s

/-- The answer of a meaning that a port's request has: the request reaches the port. -/
def request (s : State) (r : HostReq) : Out := done s (s.submit r)

/-- A whole-word register write of domain `d`. -/
def writeReq (s : State) (d : Dom) (a : Nat) (v : W32) : Out :=
  request s (.write { dom := d, addr := a, value := v, be := 15 })

/-- The answer of a meaning that may end a hold: held requests follow at once (R463). -/
def doneHeld (before s : State) : Out := done before s.releaseHeld

end Sys2Proof.Machine
end

