-- ==== Sys2Proof/Machine/HostCommands.lean ====
section
/-! DEFINITION. The commands of the hosts: register writes and reads, Gangway accesses and safety port requests, each a request
of its domain on its port (R463). -/

namespace Sys2Proof.Machine

/-- REGISTER_WRITE: a domain writes a register (R406, R410, R422, R435, R462). -/
def execRegisterWrite (w : RegWrite) (s : State) : Out :=
  request s (.write w)

/-- RC_READ: a domain reads a register; one marked RC restarts (R12, R406, R410). -/
def execRcRead (d : Dom) (addr : Nat) (s : State) : Out :=
  request s (.read d addr)

/-- PAGE_UNLOCK: 0x5EA7 is written to PAGE_CTRL.EXPERT_UNLOCK (R434). -/
def execPageUnlock (d : Dom) (page : Nat) (s : State) : Out :=
  writeReq s d (Reg.PAGE_CTRL page) 0x5EA70000#32

/-- PAGE_LOCK: another value is written to PAGE_CTRL.EXPERT_UNLOCK, and any but 0 locks (R425, R434). -/
def execPageLock (d : Dom) (page key : Nat) (s : State) : Out :=
  writeReq s d (Reg.PAGE_CTRL page) (BitVec.ofNat 32 (key % 65536 * 65536))

/-- SOFT_RESET: PAGE_CTRL.SOFT_RESET is written (R425). -/
def execSoftReset (d : Dom) (page : Nat) (s : State) : Out :=
  writeReq s d (Reg.PAGE_CTRL page) 2#32

/-- PAGE_COMMIT: PAGE_CTRL.COMMIT is written (R226, R425). -/
def execPageCommit (d : Dom) (page : Nat) (s : State) : Out :=
  writeReq s d (Reg.PAGE_CTRL page) 4#32

/-- INT_FORCE: a write of INT_FORCE (R427). -/
def execIntForce (d : Dom) (page : Nat) (value : W32) (s : State) : Out :=
  writeReq s d (Reg.INT_FORCE page) value

/-- INT_RAW_CLEAR: a W1C write of INT_RAW; an event of the same cycle stands behind the write (R427). -/
def execIntRawClear (d : Dom) (page : Nat) (value : W32) (s : State) : Out :=
  writeReq s d (Reg.INT_RAW page) value

/-- ERR_CAPTURE_CLEAR: 1 is written to ERR_CAPTURE0.VALID (R429). -/
def execErrCaptureClear (d : Dom) (page : Nat) (s : State) : Out :=
  writeReq s d (Reg.ERR_CAPTURE0 page) 0x80000000#32

/-- PMAP_VALIDATE: a write of SEQ_PMAP_VALIDATE (R40). -/
def execPmapValidate (d : Dom) (value : W32) (s : State) : Out :=
  writeReq s d Reg.SEQ_PMAP_VALIDATE value

/-- MODE_REQ: a write of SEQ_MODE_REQ (R233). -/
def execModeReq (d : Dom) (value : W32) (s : State) : Out :=
  writeReq s d Reg.SEQ_MODE_REQ value

/-- STEP_APPROVE: a write of DTM_STEP_APPROVE (R81). -/
def execStepApprove (d : Dom) (value : W32) (s : State) : Out :=
  writeReq s d Reg.DTM_STEP_APPROVE value

/-- DTM_CTRL_WRITE: a write of DTM_CTRL (R66, R79). -/
def execDtmCtrlWrite (d : Dom) (value : W32) (s : State) : Out :=
  writeReq s d Reg.DTM_CTRL value

/-- TIME_SET_WRITE: a write of DTM_TIME_SET_HI (R85). -/
def execTimeSetWrite (d : Dom) (value : W32) (s : State) : Out :=
  writeReq s d Reg.DTM_TIME_SET_HI value

/-- PHASE_PERIOD_WRITE: a write of DTM_PHASE_PERIOD (R88). -/
def execPhasePeriodWrite (d : Dom) (value : W32) (s : State) : Out :=
  writeReq s d Reg.DTM_PHASE_PERIOD value

/-- PHASE_OFFSET_WRITE: a write of DTM_PHASE_OFFSET (R88). -/
def execPhaseOffsetWrite (d : Dom) (value : W32) (s : State) : Out :=
  writeReq s d Reg.DTM_PHASE_OFFSET value

/-- LAY_COMMIT: a write of LAY_COMMIT (R141). -/
def execLayCommit (d : Dom) (value : W32) (s : State) : Out :=
  writeReq s d Reg.LAY_COMMIT value

/-- INS_FORCE_UNFLAT: a write of INS_FORCE_UNFLAT (R162). -/
def execInsForceUnflat (d : Dom) (value : W32) (s : State) : Out :=
  writeReq s d Reg.INS_FORCE_UNFLAT value

/-- SIG_COMMIT: a write of SIG_COMMIT (R166). -/
def execSigCommit (d : Dom) (value : W32) (s : State) : Out :=
  writeReq s d Reg.SIG_COMMIT value

/-- CART_DEADLINE_WRITE: a write of CART_DEADLINE (R184). -/
def execCartDeadlineWrite (d : Dom) (value : W32) (s : State) : Out :=
  writeReq s d Reg.CART_DEADLINE value

/-- HB_RESYNC: a write of CART_HB_RESYNC (R184). -/
def execHbResync (d : Dom) (value : W32) (s : State) : Out :=
  writeReq s d Reg.CART_HB_RESYNC value

/-- GRT_REBALANCE: a write of GRT_REBALANCE (R193). -/
def execGrtRebalance (d : Dom) (value : W32) (s : State) : Out :=
  writeReq s d Reg.GRT_REBALANCE value

/-- GATE_FORCE: a write of SEQ_GATE_FORCE (R223). -/
def execGateForce (d : Dom) (value : W32) (s : State) : Out :=
  writeReq s d Reg.SEQ_GATE_FORCE value

/-- TLG_DISCOVER: a write of TLG_DISCOVER (R270). -/
def execTlgDiscover (d : Dom) (value : W32) (s : State) : Out :=
  writeReq s d Reg.TLG_DISCOVER value

/-- MIG_CMD: a write of RAS_MIG_CMD (R320). -/
def execMigCmd (d : Dom) (value : W32) (s : State) : Out :=
  writeReq s d Reg.RAS_MIG_CMD value

/-- DRILL_START: a write of MOOR_DRILL (R341). -/
def execDrillStart (d : Dom) (value : W32) (s : State) : Out :=
  writeReq s d Reg.MOOR_DRILL value

/-- FLASH_VERIFY: a write of BOOT_FLASH_VERIFY (R368). -/
def execFlashVerify (d : Dom) (value : W32) (s : State) : Out :=
  writeReq s d Reg.BOOT_FLASH_VERIFY value

/-- LOGB_COMPACT_NOW: a write of LOGB_COMPACT_NOW (R377). -/
def execLogbCompactNow (d : Dom) (value : W32) (s : State) : Out :=
  writeReq s d Reg.LOGB_COMPACT_NOW value

/-- LOGB_NOTE_GO: a write of LOGB_NOTE_GO (R373). -/
def execLogbNoteGo (d : Dom) (value : W32) (s : State) : Out :=
  writeReq s d Reg.LOGB_NOTE_GO value

/-- BMK_CMD: a write of BMK_CMD (R396). -/
def execBmkCmd (d : Dom) (value : W32) (s : State) : Out :=
  writeReq s d Reg.BMK_CMD value

/-- DOM_OWN_CMD: a write of DOM_OWN_CMD (R409). -/
def execDomOwnCmd (d : Dom) (value : W32) (s : State) : Out :=
  writeReq s d Reg.DOM_OWN_CMD value

/-- DOM_LOCK_ALL: a write of DOM_LOCK_ALL (R409). -/
def execDomLockAll (d : Dom) (value : W32) (s : State) : Out :=
  writeReq s d Reg.DOM_LOCK_ALL value

/-- CTX_OPEN: ING_CTX_CMD with OP OPEN (R56). -/
def execCtxOpen (d : Dom) (ctx : Nat) (s : State) : Out :=
  writeReq s d Reg.ING_CTX_CMD (BitVec.ofNat 32 (ctx % 1024 + 0x10000))

/-- CTX_CLOSE: ING_CTX_CMD with OP CLOSE (R56). -/
def execCtxClose (d : Dom) (ctx : Nat) (s : State) : Out :=
  writeReq s d Reg.ING_CTX_CMD (BitVec.ofNat 32 (ctx % 1024 + 0x20000))

/-- GROUP_CFG_WRITE: a write of ING_GROUPg_CFG (R67, R68). -/
def execGroupCfgWrite (d : Dom) (group : Nat) (value : W32) (s : State) : Out :=
  writeReq s d (Reg.ING_GROUP_CFG (group % 64)) value

/-- SHEET_COMMIT: ATL_SHEET_CMD with OP COMMIT (R127). -/
def execSheetCommit (d : Dom) (slot : Nat) (s : State) : Out :=
  writeReq s d Reg.ATL_SHEET_CMD (BitVec.ofNat 32 (slot % 64 + 0x100))

/-- SHEET_CLEAR: ATL_SHEET_CMD with OP CLEAR (R129). -/
def execSheetClear (d : Dom) (slot : Nat) (s : State) : Out :=
  writeReq s d Reg.ATL_SHEET_CMD (BitVec.ofNat 32 (slot % 64 + 0x200))

/-- SLOT_CFG_WRITE: a write of ATL_SLOTs_CFG (R136). -/
def execSlotCfgWrite (d : Dom) (slot : Nat) (value : W32) (s : State) : Out :=
  writeReq s d (Reg.ATL_SLOT_CFG (slot % 64)) value

/-- LAY_OWNER_WRITE: a write of LAY_OWNER0 or LAY_OWNER1 (R140). -/
def execLayOwnerWrite (d : Dom) (half : Nat) (value : W32) (s : State) : Out :=
  writeReq s d (if half = 0 then Reg.LAY_OWNER0 else Reg.LAY_OWNER1) value

/-- GCOL_RETIRE: a write of GCOLnn_RETIRE (R212). -/
def execGcolRetire (d : Dom) (col : Nat) (value : W32) (s : State) : Out :=
  writeReq s d (Reg.GCOL_RETIRE (col % 32)) value

/-- GCOL_BIST_NOW: a write of GCOLnn_BIST_NOW (R211). -/
def execGcolBistNow (d : Dom) (col : Nat) (value : W32) (s : State) : Out :=
  writeReq s d (Reg.GCOL_BIST_NOW (col % 32)) value

/-- BK_SLIP: a write of TPnn_BK_SLIP (R268). -/
def execBkSlip (d : Dom) (port : Nat) (value : W32) (s : State) : Out :=
  writeReq s d (Reg.TP_BK_SLIP (port % 64)) value

/-- LANE_SWAP_WRITE: a write of TPnn_LANE_SWAP (R271). -/
def execLaneSwapWrite (d : Dom) (port : Nat) (value : W32) (s : State) : Out :=
  writeReq s d (Reg.TP_LANE_SWAP (port % 64)) value

/-- RAS_INJECT: a write of RAS_INJECT_LO, or of RAS_INJECT_HI, which arms (R325). -/
def execRasInject (d : Dom) (high : Bool) (value : W32) (s : State) : Out :=
  writeReq s d (if high then Reg.RAS_INJECT_HI else Reg.RAS_INJECT_LO) value

/-- LANDING_REBOOT: LNDx_CTRL.REBOOT is written (R344). -/
def execLandingReboot (d : Dom) (l : Landing) (s : State) : Out :=
  writeReq s d (Reg.LND_CTRL l.idx) 1#32

/-- SLIPWAY_RETRY: BOOT_SLIPWAY_CMD with RETRY (R366). -/
def execSlipwayRetry (d : Dom) (l : Landing) (s : State) : Out :=
  writeReq s d Reg.BOOT_SLIPWAY_CMD (BitVec.ofNat 32 (l.idx + 0x100))

/-- SLIPWAY_ENTER: BOOT_SLIPWAY_CMD with ENTER (R366). -/
def execSlipwayEnter (d : Dom) (l : Landing) (s : State) : Out :=
  writeReq s d Reg.BOOT_SLIPWAY_CMD (BitVec.ofNat 32 (l.idx + 0x200))

/-- FUSE_REVOKE: SEC_FUSE_CMD with REVOKE of a key slot (R360). -/
def execFuseRevoke (d : Dom) (slot : Nat) (s : State) : Out :=
  writeReq s d Reg.SEC_FUSE_CMD (BitVec.ofNat 32 (1 + slot % 128 * 256 + 0x80000000))

/-- FUSE_ADVANCE: SEC_FUSE_CMD with ADVANCE to a security version (R360). -/
def execFuseAdvance (d : Dom) (target : Nat) (s : State) : Out :=
  writeReq s d Reg.SEC_FUSE_CMD (BitVec.ofNat 32 (2 + target % 128 * 256 + 0x80000000))

/-- FUSE_LOCK_JTAG: SEC_FUSE_CMD with LOCK_JTAG (R360). -/
def execFuseLockJtag (d : Dom) (s : State) : Out :=
  writeReq s d Reg.SEC_FUSE_CMD 0x80000003#32

/-- WEAR_SNAPSHOT_NOW: WEAR_CMD with SNAPSHOT_NOW (R384). -/
def execWearSnapshotNow (d : Dom) (s : State) : Out :=
  writeReq s d Reg.WEAR_CMD 0x80000001#32

/-- WEAR_ADOPT: WEAR_CMD with ADOPT (R384). -/
def execWearAdopt (d : Dom) (s : State) : Out :=
  writeReq s d Reg.WEAR_CMD 0x80000002#32

/-- WEAR_RESET_PORT: WEAR_CMD with RESET_PORT (R384). -/
def execWearResetPort (d : Dom) (port : Nat) (s : State) : Out :=
  writeReq s d Reg.WEAR_CMD (BitVec.ofNat 32 (3 + port % 64 * 256 + 0x80000000))

/-- HKP_MASK_WRITE: a write of HKP_MASK_LO or HKP_MASK_HI (R391). -/
def execHkpMaskWrite (d : Dom) (high : Bool) (value : W32) (s : State) : Out :=
  writeReq s d (if high then Reg.HKP_MASK_HI else Reg.HKP_MASK_LO) value

/-- HKP_THRESHOLD_WRITE: a write of a channel's threshold words (R390). -/
def execHkpThresholdWrite (d : Dom) (ch : Nat) (word1 : Bool) (value : W32) (s : State) : Out :=
  writeReq s d (if word1 then Reg.HKP_CH_THR1 (ch % 64) else Reg.HKP_CH_THR0 (ch % 64)) value

/-- DRAM_WINDOW_WRITE: a write of BASE (field 0), SIZE (1) or OWNER (2) of a DRAM window (R411). -/
def execDramWindowWrite (d : Dom) (w field : Nat) (value : W32) (s : State) : Out :=
  writeReq s d (Reg.DOM_DRAM_WIN_BASE (w % 16) + 4 * (field % 3)) value

/-- GANGWAY_GO: GWYn_CTRL.GO is written, alone or with ABORT (R412). -/
def execGangwayGo (d : Dom) (ch : Nat) (abort : Bool) (s : State) : Out :=
  writeReq s d (Reg.GWY_CTRL (ch % 4)) (if abort then 3#32 else 1#32)

/-- GANGWAY_ABORT: GWYn_CTRL.ABORT is written (R412). -/
def execGangwayAbort (d : Dom) (ch : Nat) (s : State) : Out :=
  writeReq s d (Reg.GWY_CTRL (ch % 4)) 2#32

/-- VEC_EOI: PCIq_VEC_EOI names a vector (R420). -/
def execVecEoi (d : Dom) (q vector : Nat) (s : State) : Out :=
  writeReq s d (Reg.PCI_VEC_EOI (q % 2)) (BitVec.ofNat 32 (vector % 64 + 0x80000000))

/-- TIME_LO_READ: a read of DTM_TIME_LO latches the other time words (R71). -/
def execTimeLoRead (d : Dom) (s : State) : Out :=
  request s (.read d Reg.DTM_TIME_LO)

/-- GANGWAY_DATA_WRITE: a write of 4 or 8 bytes to GWYn_DATA (R413, R417). -/
def execGangwayDataWrite (d : Dom) (ch : Nat) (lo : W32) (hi : Option W32) (s : State) : Out :=
  request s (.data d (ch % 4) lo hi)

/-- GANGWAY_DATA_READ: a read of 4 or 8 bytes of GWYn_DATA (R413, R417). -/
def execGangwayDataRead (d : Dom) (ch : Nat) (wide : Bool) (s : State) : Out :=
  request s (.dataRead d (ch % 4) wide)

/-- APERTURE_WRITE: a write TLP to the BAR2 window (R407, R410, R414). -/
def execApertureWrite (d : Dom) (offset : Nat) (data : List Byte) (poisoned : Bool) (s : State) : Out :=
  request s (.apWrite d offset data poisoned)

/-- APERTURE_READ: a read TLP to the BAR2 window (R410, R414). -/
def execApertureRead (d : Dom) (offset len : Nat) (s : State) : Out :=
  request s (.apRead d offset len)

/-- A transaction of the safety port whose request frame is `f`: the meaning of the row with command code `code`. A frame
cut short is counted (R183); one that carries another command of R181 stands under that command's row. -/
def safetyRow (code : Nat) (f : SafetyFrame) (s : State) : Out :=
  if !(frameComplete f) then done s s.safetyAbort
  else if frameCrcOk f && safetyCmds.contains f.cmd && !(decide (f.cmd = code)) then done s s
  else request s (.safety f)

/-- What the store's ECC finds while a PANE_READ reads it (R172): corrected errors, and words found uncorrectable. -/
def State.paneFound (s : State) (f : SafetyFrame) (corrected : Nat) (bad : List Nat) : State :=
  if frameComplete f && frameCrcOk f && decide (f.cmd = 0x0203) && decide (s.safetyCheck f = 0) then
    let new := bad.filter (fun w => decide (f.addr < 8 * w + 8) && decide (8 * w < f.addr + f.len))
    { s.addCnt Reg.CART_STORE_ECC_COUNT corrected with
      mem := { s.mem with paneBad := new ++ s.mem.paneBad.filter (fun w => !(new.contains w)) } }
  else s

/-- PAGE_READ: register words of a page that S owns are read (R181). -/
def execPageRead (f : SafetyFrame) (s : State) : Out :=
  safetyRow 0x0101 f s

/-- PAGE_WRITE: registers of a page that S owns are written (R181). -/
def execPageWrite (f : SafetyFrame) (s : State) : Out :=
  safetyRow 0x0102 f s

/-- PANE_UPLOAD: bytes are written to the inactive pane store bank (R181, R182). -/
def execPaneUpload (f : SafetyFrame) (s : State) : Out :=
  safetyRow 0x0201 f s

/-- PANE_COMMIT: validation of a pane store bank starts (R176, R181). -/
def execPaneCommit (f : SafetyFrame) (s : State) : Out :=
  safetyRow 0x0202 f s

/-- PANE_READ: bytes of the pane store are read (R172, R181, R182). -/
def execPaneRead (f : SafetyFrame) (corrected : Nat) (bad : List Nat) (s : State) : Out :=
  safetyRow 0x0203 f (s.paneFound f corrected bad)

/-- HEARTBEAT: the deadline timer restarts, or the sequence is refused (R181, R184). -/
def execHeartbeat (f : SafetyFrame) (s : State) : Out :=
  safetyRow 0x0301 f s

/-- FAULT_QUERY: the fault state is returned (R181). -/
def execFaultQuery (f : SafetyFrame) (s : State) : Out :=
  safetyRow 0x0401 f s

/-- FAULT_CLEAR: bits of CART_FAULT are cleared (R181, R188). -/
def execFaultClear (f : SafetyFrame) (s : State) : Out :=
  safetyRow 0x0402 f s

/-- SFT_ABORT: SFT_CS_N rises before the request frame is complete (R183). -/
def execSftAbort (s : State) : Out :=
  done s s.safetyAbort

end Sys2Proof.Machine
end

