-- ==== Sys2Proof/Machine/Handover.lean ====
section
/-! DEFINITION. The events that may end a hold of host requests: gates, crossings, claims, copies, and the restart of a Landing
(R221 to R236, R327 to R345, R348, R357, R361, R463). Each performs the held requests when the hold is over. -/

namespace Sys2Proof.Machine

/-- FRAME_GATE: the sequencer fires a Frame Gate (R221, R225). -/
def execFrameGate (s : State) : Out := doneHeld s s.frameGate

/-- FRAME_GATE_MAX: the gate fires under condition 2 (R230). -/
def execFrameGateMax (s : State) : Out := doneHeld s s.frameGateMax

/-- CROSSING_START: an accepted crossing starts at G0 (R234). -/
def execCrossingStart (s : State) : Out := doneHeld s s.crossStart

/-- CROSSING_APPLY: the new map is applied (R234). -/
def execCrossingApply (s : State) : Out := doneHeld s s.crossApply

/-- RETRAIN_DONE: a port has retrained during a crossing; `lock` are the lanes it locked (R234). -/
def execRetrainDone (port lock : Nat) (s : State) : Out := doneHeld s (s.retrainDone port lock)

/-- RETRAIN_TIMEOUT: SEQ_RETRAIN_LIMIT expires (R234). -/
def execRetrainTimeout (s : State) : Out := doneHeld s s.retrainTimeout

/-- LEASE_EXPIRY: a lease expires 200 µs after its last refresh (R328). -/
def execLeaseExpiry (l : Landing) (s : State) : Out := doneHeld s (s.leaseExpiry l)

/-- TOKEN_CLAIM: a Landing's claim reaches the Mooring (R329). -/
def execTokenClaim (l : Landing) (s : State) : Out := doneHeld s (s.tokenClaim l)

/-- CLAIM_WINDOW_END: the token is granted (R329). -/
def execClaimWindowEnd (s : State) : Out := doneHeld s s.windowEnd

/-- PREFERRED_WAIT_END: a held claim is granted (R329). -/
def execPreferredWaitEnd (s : State) : Out := doneHeld s s.preferredWait

/-- COPY_VERIFIED: a complete copy reached the standby, which checked its CRC (R332, R333). -/
def execCopyVerified (crcOk : Bool) (s : State) : Out := doneHeld s (s.copyVerified crcOk)

/-- IMAGE_VERIFIED: image load and both signature checks end (R357, R361). -/
def execImageVerified (l : Landing) (x : ImageFound) (s : State) : Out := doneHeld s (s.imageVerified l x)

/-- HAWSER_LINK_DOWN: the Hawser's copy lane goes down (R345). -/
def execHawserLinkDown (s : State) : Out := doneHeld s s.hawserDown

/-- LANDING_FENCE: a Landing's sequencer self-check fails (R327). -/
def execLandingFence (l : Landing) (s : State) : Out := doneHeld s (s.fence l)

/-- WATCHDOG_EXPIRY: a pilot core watchdog expires (R327, R348). -/
def execWatchdogExpiry (l : Landing) (s : State) : Out := doneHeld s (s.watchdogExpiry l)

/-- LANDING_RESET_ASSERT: LNDx_RESET_N is low for at least 10 µs (R348). -/
def execLandingResetAssert (l : Landing) (s : State) : Out := doneHeld s (s.landingResetAssert l)

/-- LANDING_RAIL_LOW: a Landing's rail falls (R327, R449). -/
def execLandingRailLow (l : Landing) (s : State) : Out := doneHeld s (s.landingRailLow l)

/-- LANDING_REF_LOSS: a Landing's reference stops (R327, R444). -/
def execLandingRefLoss (l : Landing) (s : State) : Out := doneHeld s (s.landingRefLoss l)

/-- BOOT_ATTEMPT: steps 1 to 3 of an attempt (R353, R361, R363, R374). -/
def execBootAttempt (l : Landing) (selfTest fuse sfdp octal : Bool) (s : State) : Out :=
  doneHeld s (s.bootAttempt l selfTest fuse sfdp octal)

/-- BOOT_OK_TIMEOUT: BOOT_OK is not set within 10 s of an attempt's start (R362). -/
def execBootOkTimeout (l : Landing) (s : State) : Out := doneHeld s (s.bootOkTimeout l)

/-- MEM_TRAIN_WAVE_DONE: a training wave ends with the ranks `failed` (R309). -/
def execMemTrainWaveDone (failed : List Nat) (s : State) : Out := doneHeld s (s.memTrainWaveDone failed)

end Sys2Proof.Machine
end

