-- ==== Sys2Proof/Machine/QueueReset.lean ====
section
/-! DEFINITION. The reset of a dual-clock queue and what it costs (R280 to R282, R288, R417). -/

namespace Sys2Proof.Machine

/-- Lines that a ray queue held are lost: at their slots they are missed (R199, R288). -/
def State.raysLost (s : State) (p : Nat) : State :=
  { s with seq := { s.seq with frames := s.seq.frames.map (fun (f : FrameSt) =>
    { f with rows := f.rows.map (fun (x : Nat × LineRun) =>
      if x.1 / 8192 = p && !x.2.sent && !x.2.missed then (x.1, { segs := [], complete := false }) else x) }) } }

/-- Host requests that wait are lost: posted writes vanish, non-posted requests are completed with Completer Abort, and the
channel's transfer ends with QUEUE_RESET (R288, R417). -/
def State.requestsLost (s : State) (q : Nat) : State :=
  let d := domOfPort q
  let mine := s.moor.held.filter (fun x => decide (reqDom x.2 = d))
  let t := { s with moor := { s.moor with held := s.moor.held.filter (fun x => !(decide (reqDom x.2 = d))) } }
  ((mine.filter (fun x => reqNonPosted x.2)).foldl (fun (u : State) _ => u.emit (.completerAbort q)) t).gwyStop q 0xA

/-- Requests of the safety host that wait are lost; it retries (R288). -/
def State.safetyLost (s : State) : State :=
  { s with moor := { s.moor with held := s.moor.held.filter (fun x => !(decide (reqDom x.2 = .s))) } }

/-- The Hawser loses what is under way: the copy restarts at the next gate, and the standby is not SYNCED until one completes
(R288). -/
def State.hawserLost (s : State) : State :=
  let t := s.copyAbort
  match t.standby with
  | some l => if t.synced l then t.setSynced l false else t
  | none => t

/-- What the reset of queue `q` costs beside its items (R288). Memory requests are reissued. -/
def State.queueCost (s : State) (q : Nat) : State :=
  if 0x040 ≤ q ∧ q < 0x080 then s.raysLost (q - 0x040)
  else if q = 0x0C0 ∨ q = 0x0C1 then s.requestsLost (q - 0x0C0)
  else if q = 0x0C2 then s.safetyLost
  else if q = 0x0D0 ∨ q = 0x0D1 then s.hawserLost
  else s

/-- QUEUE_POINTER_MISMATCH: a queue is reset, counted and reported, unless one of its clocks is stopped (R280 to R282). -/
def execQueuePointerMismatch (qid : Nat) (s : State) : Out :=
  match s.queueDepth qid with
  | none => done s s
  | some n =>
    if s.queueStopped qid then done s s
    else doneHeld s ((((s.queueDrop qid n).telReset qid).queueCost qid).queueReport qid 0x00F0)

end Sys2Proof.Machine
end

