-- ==== Sys2Proof/Machine/Resets.lean ====
section
/-! DEFINITION. The reset inputs, power good, and the loss of EREFCLK (R348, R349, R395, R408, R434, R444, R445). -/

namespace Sys2Proof.Machine

/-- Registers that show fuses: the anti-rollback count and the key hashes (R359). -/
def fuseReg (a : Nat) : Bool :=
  decide (a = Reg.SEC_ROLLBACK) || (decide (Reg.SEC_KEYHASH 0 0 ≤ a) && decide (a ≤ Reg.SEC_KEYHASH 3 7))

/-- Registers that RESET_N leaves: the fuses, the CART page and the cause of a shutdown (R348, R395). -/
def keptReg (a : Nat) : Bool :=
  fuseReg a || decide (a / 0x1000 = Page.CART) || decide (a = Reg.HKP_SHUT_CAUSE)

/-- A Landing in reset, with what its flash and its inputs hold (R348, R449). -/
def landFresh (x : LandingSt) (clk : Nat) : LandingSt :=
  { resetLow := x.resetLow, railLow := x.railLow, mapCopy := x.mapCopy, resetAt := clk }

/-- The device after a reset that leaves the registers `regs` as they are: fuses, flashes, device constants and the levels of
the inputs remain, the token is FREE, and ownership is the default (R348, R408). -/
def State.fresh0 (s : State) (regs : List (Nat × W32)) : State :=
  let t : State := {
    pending := s.pending, clk := s.clk, fresh := s.fresh, dev := s.dev, sent := s.sent, regs := regs
    mem := { flashA := s.mem.flashA, flashB := s.mem.flashB }
    ep0 := { perst := s.ep0.perst }, ep1 := { perst := s.ep1.perst }
    dtm := { erefclk := s.dtm.erefclk }
    link := { noRef := s.link.noRef }
    ram := { pollAt := s.clk, scrubFrom := s.clk }
    moor := {
      a := landFresh s.moor.a s.clk, b := landFresh s.moor.b s.clk, resetLow := s.moor.resetLow, ageFrom := s.clk } }
  t.wr Reg.SEC_STATUS (s.rd Reg.SEC_STATUS &&& 0x5F)

/-- PWRGOOD is low: the whole device is in reset (R348). -/
def State.powerReset (s : State) : State := s.fresh0 (adrop (fun a => !(fuseReg a)) s.regs)

/-- RESET_N is low: all but the housekeeping round, the drivers of THERMTRIP_N and SFT_FAULT_N, the shutdown latch, the CART
page and the pane store is reset; ARMED clears, and the trims are those of bring-up (R348, R395, R399). -/
def State.coreReset (s : State) : State :=
  let t := s.fresh0 (adrop (fun a => !(keptReg a)) s.regs)
  let u := { t with
    mem := { t.mem with pane := s.mem.pane, paneBad := s.mem.paneBad }
    cart := s.cart
    bmk := { trims := s.bmk.bring, bring := s.bmk.bring }
    hk := { roundAt := s.hk.roundAt, asserted := s.hk.asserted.filter (fun k => decide (k % 3 = 2))
            thermtrip := s.hk.thermtrip }
    moor := { t.moor with pwrgoodAt := s.moor.pwrgoodAt, powerFree := s.moor.powerFree, resetLow := true } }
  ((u.setBit Reg.HKP_STATUS 3 s.shut).setPage Page.CART
    { pageReset Page.CART with lost := (s.page Page.CART).lost }).cartReset

/-- Bring-up starts: both ROMs run, and the endpoints become ready (R349 to R351). -/
def State.startUp (s : State) : State :=
  let s1 := { s with moor := { s.moor with t0 := s.clk, ageFrom := s.clk } }
  let by_ (e : Endpoint) : Endpoint := { e with readyBy := if e.perst then none else some s1.readyLimit }
  (({ s1 with ep0 := by_ s1.ep0, ep1 := by_ s1.ep1 }).romStart .a).romStart .b

/-- PWRGOOD_FALL: the whole device is reset (R348). -/
def execPwrgoodFall (s : State) : Out := done s s.powerReset

/-- PWRGOOD_RISE: the level of VDDIO_SFT is sensed, and with RESET_N high bring-up starts (R349, R445). -/
def execPwrgoodRise (sft3v3 : Bool) (s : State) : Out :=
  if s.moor.pwrgoodAt.isSome then done s s
  else
    let t := ({ s with dev := { s.dev with sft3v3 := sft3v3 } }).powerReset
    let u := { t with moor := { t.moor with pwrgoodAt := some t.clk } }
    done s (if u.moor.resetLow then u else u.startUp)

/-- RESET_N_ASSERT: RESET_N is low for at least 10 µs (R348). -/
def execResetNAssert (s : State) : Out := done s s.coreReset

/-- RESET_N_RELEASE: RESET_N rises, and with power good bring-up starts (R349). -/
def execResetNRelease (s : State) : Out :=
  if !s.moor.resetLow then done s s
  else
    let t := s.coreReset
    let u := { t with moor := { t.moor with resetLow := false } }
    done s (if u.moor.pwrgoodAt.isSome then u.startUp else u)

/-- EREFCLK_LOSS: the Ethernet links drop, and the Datum runs from CK_HK in HOLDOVER (R79, R444). -/
def execErefclkLoss (s : State) : Out :=
  let t := (List.range 4).foldl (fun (u : State) (p : Nat) => u.ethLinkDown p) s
  let u := { t with dtm := { t.dtm with erefclk := false } }
  done s (if u.dtmEn then u.enterHoldover else u)

/-- EREFCLK_RETURN: the Datum's counter runs from EREFCLK again (R444). -/
def execErefclkReturn (s : State) : Out := done s { s with dtm := { s.dtm with erefclk := true } }

end Sys2Proof.Machine
end

