-- ==== Sys2Proof/Machine/Writeback.lean ====
section
/-! DEFINITION. Survey writeback: the rays of its camera, their encoding, and the picture in DRAM (R163 to R165). -/

namespace Sys2Proof.Machine

/-- The frame as writeback composes it: every layer without NO_WRITEBACK, each by itself (R163). -/
def WbkFrame.shown (w : WbkFrame) : FrameSt :=
  { w.frame with layers := w.frame.layers.filter (fun x => !(dFlag (descF x.2) 3)), sets := [], dark := [] }

/-- Along one axis from X0 to X1, the place of output pixel `i` of `n`, as a numerator over 2·n (R163). -/
def wbkPlace (x0 x1 n i : Nat) : Int := 2 * (n : Int) * x0 + (2 * (i : Int) + 1) * ((x1 : Int) - x0 + 1) - n

/-- The ray of output pixel (i, j) (R163); its hogel is the nearest one. -/
def WbkFrame.ray (w : WbkFrame) (e : Nat → Nat → Nat) (i j : Nat) : Ray :=
  let (x0, y0, x1, y1) := w.area
  let nx : Int := ((max 1 w.width : Nat) : Int)
  let ny : Int := ((max 1 w.height : Nat) : Int)
  let px := wbkPlace x0 x1 (max 1 w.width) i
  let py := wbkPlace y0 y1 (max 1 w.height) j
  let t := slopeAt e w.u w.v
  { hx := ((px + nx) / (2 * nx)).toNat, hy := ((py + ny) / (2 * ny)).toNat, tx := t.1, ty := t.2
    x := (px + (1 - (e 0x10 2 : Int)) * nx) * (e 0x18 4 : Int) * q60 / (2000 * nx)
    y := (py + (1 - (e 0x12 2 : Int)) * ny) * (e 0x1C 4 : Int) * q60 / (2000 * ny) }

/-- The luma codes of the picture, in raster order (R163, R164). -/
def State.wbkLuma (s : State) (w : WbkFrame) (bits : Nat) (rays : List (List RaySample)) : List (Option Nat) :=
  let f := w.shown
  let e := s.pmapLe f.map
  let ws := s.sheetViews f []
  (List.range (w.width * w.height)).map (fun k =>
    let c := (s.rayColour f ws (w.ray e (k % w.width) (k / w.width)) (rays.getD k [])).1
    some (lumaCode w.colour bits (encodeLight w.colour f.refWhite c)))

/-- WBK_BUFFER_COMPLETE: the frame's encoded picture is written and the buffer becomes the newest complete
one, or the frame is abandoned (R164, R165). -/
def execWbkBufferComplete (picture : WbkSamples) (inTime : Bool) (s : State) : Out :=
  match s.lay.wbk with
  | [] => done s s
  | w :: rest =>
    let s1 := { s with lay := { s.lay with wbk := rest } }
    if !inTime then done s (s1.inc Reg.WBK_SKIP_COUNT)
    else
      let bits := if w.format = 0 then 8 else 10
      let s2 := ({ s1 with lay := { s1.lay with wbkLast := some w.gate } }).putRows clsNrt2 w.format bits false
        w.width w.stride w.base none w.height (s.wbkLuma w bits picture.rays)
      let s3 := s2.putRows clsNrt2 w.format bits true w.width w.stride (w.base + w.chromaOffset) none (w.height / 2)
        picture.chroma
      done s (((s3.wr Reg.WBK_STATUS (w.buf + 4)).wr Reg.WBK_LAST_SEQ w.seq).raise Page.WBK 0)

end Sys2Proof.Machine
end

