-- ==== Sys2Proof/Machine/Dispatch.lean ====
section
/-! DEFINITION. The dispatch: one arm per constructor of Instr, each a direct call of its meaning. -/

namespace Sys2Proof.Machine

def exec (i : Instr) (s : State) : Host.Outcome State Fault Refusal :=
  match i with
  | .registerWrite w => Sys2Proof.Machine.execRegisterWrite w s
  | .rcRead d addr => Sys2Proof.Machine.execRcRead d addr s
  | .pageUnlock d page => Sys2Proof.Machine.execPageUnlock d page s
  | .pageLock d page key => Sys2Proof.Machine.execPageLock d page key s
  | .softReset d page => Sys2Proof.Machine.execSoftReset d page s
  | .pageCommit d page => Sys2Proof.Machine.execPageCommit d page s
  | .intForce d page value => Sys2Proof.Machine.execIntForce d page value s
  | .intRawClear d page value => Sys2Proof.Machine.execIntRawClear d page value s
  | .errCaptureClear d page => Sys2Proof.Machine.execErrCaptureClear d page s
  | .pmapValidate d value => Sys2Proof.Machine.execPmapValidate d value s
  | .pmapValidateDone => Sys2Proof.Machine.execPmapValidateDone s
  | .modeReq d value => Sys2Proof.Machine.execModeReq d value s
  | .pmapPersist => Sys2Proof.Machine.execPmapPersist s
  | .ethRxFrame f => Sys2Proof.Machine.execEthRxFrame f s
  | .ethLinkDown port => Sys2Proof.Machine.execEthLinkDown port s
  | .rtpPacketRx p => Sys2Proof.Machine.execRtpPacketRx p s
  | .rtcpSrRx r => Sys2Proof.Machine.execRtcpSrRx r s
  | .asmDeadline ctx => Sys2Proof.Machine.execAsmDeadline ctx s
  | .rtcpRrSend ctx => Sys2Proof.Machine.execRtcpRrSend ctx s
  | .ctxOpen d ctx => Sys2Proof.Machine.execCtxOpen d ctx s
  | .ctxClose d ctx => Sys2Proof.Machine.execCtxClose d ctx s
  | .ctxDrainDone ctx => Sys2Proof.Machine.execCtxDrainDone ctx s
  | .groupCfgWrite d group value => Sys2Proof.Machine.execGroupCfgWrite d group value s
  | .groupCloseIncomplete group => Sys2Proof.Machine.execGroupCloseIncomplete group s
  | .syncRx m => Sys2Proof.Machine.execSyncRx m s
  | .followUpRx m => Sys2Proof.Machine.execFollowUpRx m s
  | .followUpTimeout seq => Sys2Proof.Machine.execFollowUpTimeout seq s
  | .delayReqSend stamp => Sys2Proof.Machine.execDelayReqSend stamp s
  | .delayRespRx m => Sys2Proof.Machine.execDelayRespRx m s
  | .announceRx m => Sys2Proof.Machine.execAnnounceRx m s
  | .announceTimeout => Sys2Proof.Machine.execAnnounceTimeout s
  | .syncTimeout => Sys2Proof.Machine.execSyncTimeout s
  | .ppsInEdge highNs err => Sys2Proof.Machine.execPpsInEdge highNs err s
  | .ppsInTimeout => Sys2Proof.Machine.execPpsInTimeout s
  | .ppsOutPulse => Sys2Proof.Machine.execPpsOutPulse s
  | .frameSyncOut => Sys2Proof.Machine.execFrameSyncOut s
  | .stepApprove d value => Sys2Proof.Machine.execStepApprove d value s
  | .stepApproveTimeout => Sys2Proof.Machine.execStepApproveTimeout s
  | .dtmCtrlWrite d value => Sys2Proof.Machine.execDtmCtrlWrite d value s
  | .timeSetWrite d value => Sys2Proof.Machine.execTimeSetWrite d value s
  | .timeLoRead d => Sys2Proof.Machine.execTimeLoRead d s
  | .phaseTick => Sys2Proof.Machine.execPhaseTick s
  | .phasePeriodWrite d value => Sys2Proof.Machine.execPhasePeriodWrite d value s
  | .phaseOffsetWrite d value => Sys2Proof.Machine.execPhaseOffsetWrite d value s
  | .utcOffsetChange => Sys2Proof.Machine.execUtcOffsetChange s
  | .paramSetDecoded ctx p => Sys2Proof.Machine.execParamSetDecoded ctx p s
  | .sliceDecoded core r => Sys2Proof.Machine.execSliceDecoded core r s
  | .slicePreempt core => Sys2Proof.Machine.execSlicePreempt core s
  | .pictureComplete ctx views => Sys2Proof.Machine.execPictureComplete ctx views s
  | .coreTimeout core => Sys2Proof.Machine.execCoreTimeout core s
  | .depthPairTimeout ctx => Sys2Proof.Machine.execDepthPairTimeout ctx s
  | .sheetCommit d slot => Sys2Proof.Machine.execSheetCommit d slot s
  | .sheetClear d slot => Sys2Proof.Machine.execSheetClear d slot s
  | .sheetValidateDone => Sys2Proof.Machine.execSheetValidateDone s
  | .atlasFragmentRx f => Sys2Proof.Machine.execAtlasFragmentRx f s
  | .sheetAsmTimeout slot => Sys2Proof.Machine.execSheetAsmTimeout slot s
  | .slotCfgWrite d slot value => Sys2Proof.Machine.execSlotCfgWrite d slot value s
  | .layCommit d value => Sys2Proof.Machine.execLayCommit d value s
  | .layerSpaceCommit d layer mask => Sys2Proof.Machine.execLayerSpaceCommit d layer mask s
  | .layerValidateDone => Sys2Proof.Machine.execLayerValidateDone s
  | .layOwnerWrite d half value => Sys2Proof.Machine.execLayOwnerWrite d half value s
  | .insetFlattenStart layer => Sys2Proof.Machine.execInsetFlattenStart layer s
  | .insetFlattenDone layer poison => Sys2Proof.Machine.execInsetFlattenDone layer poison s
  | .insForceUnflat d value => Sys2Proof.Machine.execInsForceUnflat d value s
  | .wbkBufferComplete picture inTime => Sys2Proof.Machine.execWbkBufferComplete picture inTime s
  | .sigCommit d value => Sys2Proof.Machine.execSigCommit d value s
  | .pageRead f => Sys2Proof.Machine.execPageRead f s
  | .pageWrite f => Sys2Proof.Machine.execPageWrite f s
  | .paneUpload f => Sys2Proof.Machine.execPaneUpload f s
  | .paneCommit f => Sys2Proof.Machine.execPaneCommit f s
  | .paneRead f corrected bad => Sys2Proof.Machine.execPaneRead f corrected bad s
  | .heartbeat f => Sys2Proof.Machine.execHeartbeat f s
  | .faultQuery f => Sys2Proof.Machine.execFaultQuery f s
  | .faultClear f => Sys2Proof.Machine.execFaultClear f s
  | .sftAbort => Sys2Proof.Machine.execSftAbort s
  | .paneValidateDone => Sys2Proof.Machine.execPaneValidateDone s
  | .hbStale => Sys2Proof.Machine.execHbStale s
  | .cartDeadlineWrite d value => Sys2Proof.Machine.execCartDeadlineWrite d value s
  | .hbResync d value => Sys2Proof.Machine.execHbResync d value s
  | .storeCheck wrong corrected bad => Sys2Proof.Machine.execStoreCheck wrong corrected bad s
  | .paneProbe crc => Sys2Proof.Machine.execPaneProbe crc s
  | .grtRebalance d value => Sys2Proof.Machine.execGrtRebalance d value s
  | .slotStart fs slot leads planeLead => Sys2Proof.Machine.execSlotStart fs slot leads planeLead s
  | .segmentDone fs port line seg data => Sys2Proof.Machine.execSegmentDone fs port line seg data s
  | .lineMiss port => Sys2Proof.Machine.execLineMiss port s
  | .linePacketEnd port => Sys2Proof.Machine.execLinePacketEnd port s
  | .segmentTimeout col engine => Sys2Proof.Machine.execSegmentTimeout col engine s
  | .gcolRetire d col value => Sys2Proof.Machine.execGcolRetire d col value s
  | .bistPeriod col => Sys2Proof.Machine.execBistPeriod col s
  | .engineBistDone col pass => Sys2Proof.Machine.execEngineBistDone col pass s
  | .gcolBistNow d col value => Sys2Proof.Machine.execGcolBistNow d col value s
  | .frameLastLine fs => Sys2Proof.Machine.execFrameLastLine fs s
  | .frameGate => Sys2Proof.Machine.execFrameGate s
  | .frameGateMax => Sys2Proof.Machine.execFrameGateMax s
  | .gateForce d value => Sys2Proof.Machine.execGateForce d value s
  | .crossingStart => Sys2Proof.Machine.execCrossingStart s
  | .crossingApply => Sys2Proof.Machine.execCrossingApply s
  | .retrainDone port lock => Sys2Proof.Machine.execRetrainDone port lock s
  | .retrainTimeout => Sys2Proof.Machine.execRetrainTimeout s
  | .alignRow port => Sys2Proof.Machine.execAlignRow port s
  | .laneWake port => Sys2Proof.Machine.execLaneWake port s
  | .ackRx port result => Sys2Proof.Machine.execAckRx port result s
  | .rmsgCap port crcOk block => Sys2Proof.Machine.execRmsgCap port crcOk block s
  | .rmsgModeAck port crcOk modeId accept => Sys2Proof.Machine.execRmsgModeAck port crcOk modeId accept s
  | .rmsgSwapAck port crcOk => Sys2Proof.Machine.execRmsgSwapAck port crcOk s
  | .rmsgStatus port st => Sys2Proof.Machine.execRmsgStatus port st s
  | .bkTimeout port => Sys2Proof.Machine.execBkTimeout port s
  | .bkLock port bad => Sys2Proof.Machine.execBkLock port bad s
  | .bkLost port bad => Sys2Proof.Machine.execBkLost port bad s
  | .bkSlip d port value => Sys2Proof.Machine.execBkSlip d port value s
  | .laneErrWindow port => Sys2Proof.Machine.execLaneErrWindow port s
  | .laneSwapWrite d port value => Sys2Proof.Machine.execLaneSwapWrite d port value s
  | .tlgDiscover d value => Sys2Proof.Machine.execTlgDiscover d value s
  | .trainTimeEnd port => Sys2Proof.Machine.execTrainTimeEnd port s
  | .discTimeout port => Sys2Proof.Machine.execDiscTimeout port s
  | .rediscover => Sys2Proof.Machine.execRediscover s
  | .queuePush qid p => Sys2Proof.Machine.execQueuePush qid p s
  | .queuePop qid => Sys2Proof.Machine.execQueuePop qid s
  | .creditReturn qid => Sys2Proof.Machine.execCreditReturn qid s
  | .packetLengthWrite qid pkt word => Sys2Proof.Machine.execPacketLengthWrite qid pkt word s
  | .queuePointerMismatch qid => Sys2Proof.Machine.execQueuePointerMismatch qid s
  | .queueResetDone qid => Sys2Proof.Machine.execQueueResetDone qid s
  | .memRequest cls blk addr write => Sys2Proof.Machine.execMemRequest cls blk addr write s
  | .memReadReturn addr symbols => Sys2Proof.Machine.execMemReadReturn addr symbols s
  | .refreshDue rank busy chain => Sys2Proof.Machine.execRefreshDue rank busy chain s
  | .mr4Poll polls => Sys2Proof.Machine.execMr4Poll polls s
  | .srEntry group => Sys2Proof.Machine.execSrEntry group s
  | .srExit group polls => Sys2Proof.Machine.execSrExit group polls s
  | .periodicTrainDone rank margin trims => Sys2Proof.Machine.execPeriodicTrainDone rank margin trims s
  | .patrolScrub group symbols spare => Sys2Proof.Machine.execPatrolScrub group symbols spare s
  | .scrubPeriodEnd => Sys2Proof.Machine.execScrubPeriodEnd s
  | .migCmd d value => Sys2Proof.Machine.execMigCmd d value s
  | .migCopyDone group bad => Sys2Proof.Machine.execMigCopyDone group bad s
  | .migMapSwitch group => Sys2Proof.Machine.execMigMapSwitch group s
  | .rasInject d high value => Sys2Proof.Machine.execRasInject d high value s
  | .landingHeartbeat l haws reach read => Sys2Proof.Machine.execLandingHeartbeat l haws reach read s
  | .hbMiss receiver mail => Sys2Proof.Machine.execHbMiss receiver mail s
  | .leaseExpiry l => Sys2Proof.Machine.execLeaseExpiry l s
  | .tokenClaim l => Sys2Proof.Machine.execTokenClaim l s
  | .claimWindowEnd => Sys2Proof.Machine.execClaimWindowEnd s
  | .claimRefused l => Sys2Proof.Machine.execClaimRefused l s
  | .preferredWaitEnd => Sys2Proof.Machine.execPreferredWaitEnd s
  | .landingFence l => Sys2Proof.Machine.execLandingFence l s
  | .watchdogExpiry l => Sys2Proof.Machine.execWatchdogExpiry l s
  | .copyVerified crcOk => Sys2Proof.Machine.execCopyVerified crcOk s
  | .hostHoldTimeout d => Sys2Proof.Machine.execHostHoldTimeout d s
  | .drillStart d value => Sys2Proof.Machine.execDrillStart d value s
  | .drillWatchEnd => Sys2Proof.Machine.execDrillWatchEnd s
  | .drillAgeHour => Sys2Proof.Machine.execDrillAgeHour s
  | .revertHoldoffEnd => Sys2Proof.Machine.execRevertHoldoffEnd s
  | .landingReboot d l => Sys2Proof.Machine.execLandingReboot d l s
  | .pwrgoodRise sft3v3 => Sys2Proof.Machine.execPwrgoodRise sft3v3 s
  | .pwrgoodFall => Sys2Proof.Machine.execPwrgoodFall s
  | .resetNAssert => Sys2Proof.Machine.execResetNAssert s
  | .resetNRelease => Sys2Proof.Machine.execResetNRelease s
  | .landingResetAssert l => Sys2Proof.Machine.execLandingResetAssert l s
  | .landingResetRelease l => Sys2Proof.Machine.execLandingResetRelease l s
  | .perstAssert q => Sys2Proof.Machine.execPerstAssert q s
  | .pcieReady q speed width => Sys2Proof.Machine.execPcieReady q speed width s
  | .bootAttempt l selfTest fuse sfdp octal => Sys2Proof.Machine.execBootAttempt l selfTest fuse sfdp octal s
  | .imageVerified l x => Sys2Proof.Machine.execImageVerified l x s
  | .bootOkTimeout l => Sys2Proof.Machine.execBootOkTimeout l s
  | .memTrainWaveDone failed => Sys2Proof.Machine.execMemTrainWaveDone failed s
  | .grtBistDone fails => Sys2Proof.Machine.execGrtBistDone fails s
  | .logbookReplayDone ms => Sys2Proof.Machine.execLogbookReplayDone ms s
  | .flashVerify d value => Sys2Proof.Machine.execFlashVerify d value s
  | .verifyDone x => Sys2Proof.Machine.execVerifyDone x s
  | .slipwayRetry d l => Sys2Proof.Machine.execSlipwayRetry d l s
  | .slipwayEnter d l => Sys2Proof.Machine.execSlipwayEnter d l s
  | .flashProgramDone ch bytes => Sys2Proof.Machine.execFlashProgramDone ch bytes s
  | .fuseRevoke d slot => Sys2Proof.Machine.execFuseRevoke d slot s
  | .fuseAdvance d target => Sys2Proof.Machine.execFuseAdvance d target s
  | .fuseLockJtag d => Sys2Proof.Machine.execFuseLockJtag d s
  | .fuseDone failed => Sys2Proof.Machine.execFuseDone failed s
  | .hoursRecord => Sys2Proof.Machine.execHoursRecord s
  | .logMirrorAppend => Sys2Proof.Machine.execLogMirrorAppend s
  | .logbCompactNow d value => Sys2Proof.Machine.execLogbCompactNow d value s
  | .compactEnd => Sys2Proof.Machine.execCompactEnd s
  | .logbNoteGo d value => Sys2Proof.Machine.execLogbNoteGo d value s
  | .wearDeltaCapture bad badJournal => Sys2Proof.Machine.execWearDeltaCapture bad badJournal s
  | .wearSnapshot bad badJournal => Sys2Proof.Machine.execWearSnapshot bad badJournal s
  | .wearRecordComplete => Sys2Proof.Machine.execWearRecordComplete s
  | .wearSnapshotNow d => Sys2Proof.Machine.execWearSnapshotNow d s
  | .wearAdopt d => Sys2Proof.Machine.execWearAdopt d s
  | .wearResetPort d port => Sys2Proof.Machine.execWearResetPort d port s
  | .hkRound readings adcFail => Sys2Proof.Machine.execHkRound readings adcFail s
  | .calDone fn inst quality trims => Sys2Proof.Machine.execCalDone fn inst quality trims s
  | .calRetry fn inst => Sys2Proof.Machine.execCalRetry fn inst s
  | .bmkCmd d value => Sys2Proof.Machine.execBmkCmd d value s
  | .hkpMaskWrite d high value => Sys2Proof.Machine.execHkpMaskWrite d high value s
  | .hkpThresholdWrite d ch word1 value => Sys2Proof.Machine.execHkpThresholdWrite d ch word1 value s
  | .telRecord => Sys2Proof.Machine.execTelRecord s
  | .smbReadChannel addr command => Sys2Proof.Machine.execSmbReadChannel addr command s
  | .smbReadStatus addr => Sys2Proof.Machine.execSmbReadStatus addr s
  | .smbReadHottest addr => Sys2Proof.Machine.execSmbReadHottest addr s
  | .smbReadThrottle addr => Sys2Proof.Machine.execSmbReadThrottle addr s
  | .smbReadHours addr => Sys2Proof.Machine.execSmbReadHours addr s
  | .smbReadSerial addr => Sys2Proof.Machine.execSmbReadSerial addr s
  | .smbAlertResponse addr => Sys2Proof.Machine.execSmbAlertResponse addr s
  | .smbWrite addr command data => Sys2Proof.Machine.execSmbWrite addr command data s
  | .domOwnCmd d value => Sys2Proof.Machine.execDomOwnCmd d value s
  | .domLockAll d value => Sys2Proof.Machine.execDomLockAll d value s
  | .dramWindowWrite d w field value => Sys2Proof.Machine.execDramWindowWrite d w field value s
  | .gangwayGo d ch abort => Sys2Proof.Machine.execGangwayGo d ch abort s
  | .gangwayAbort d ch => Sys2Proof.Machine.execGangwayAbort d ch s
  | .gangwayDataWrite d ch lo hi => Sys2Proof.Machine.execGangwayDataWrite d ch lo hi s
  | .gangwayDataRead d ch wide => Sys2Proof.Machine.execGangwayDataRead d ch wide s
  | .apertureWrite d offset data poisoned => Sys2Proof.Machine.execApertureWrite d offset data poisoned s
  | .apertureRead d offset len => Sys2Proof.Machine.execApertureRead d offset len s
  | .gangwayDone ch => Sys2Proof.Machine.execGangwayDone ch s
  | .barUnsupported q posted => Sys2Proof.Machine.execBarUnsupported q posted s
  | .d3hotEntry q => Sys2Proof.Machine.execD3hotEntry q s
  | .functionLevelReset q => Sys2Proof.Machine.execFunctionLevelReset q s
  | .pcieLinkDown q => Sys2Proof.Machine.execPcieLinkDown q s
  | .vecEoi d q vector => Sys2Proof.Machine.execVecEoi d q vector s
  | .msixVectorUnmask q e => Sys2Proof.Machine.execMsixVectorUnmask q e s
  | .landingRefLoss l => Sys2Proof.Machine.execLandingRefLoss l s
  | .trefclkLoss m => Sys2Proof.Machine.execTrefclkLoss m s
  | .erefclkLoss => Sys2Proof.Machine.execErefclkLoss s
  | .erefclkReturn => Sys2Proof.Machine.execErefclkReturn s
  | .pcieRefclkLoss q => Sys2Proof.Machine.execPcieRefclkLoss q s
  | .landingRailLow l => Sys2Proof.Machine.execLandingRailLow l s
  | .landingRailReturn l => Sys2Proof.Machine.execLandingRailReturn l s
  | .ethLinkUp port => Sys2Proof.Machine.execEthLinkUp port s
  | .perstRelease q => Sys2Proof.Machine.execPerstRelease q s
  | .localStoreUe col engine => Sys2Proof.Machine.execLocalStoreUe col engine s
  | .hawserLinkDown => Sys2Proof.Machine.execHawserLinkDown s
  | .hawserLinkUp => Sys2Proof.Machine.execHawserLinkUp s
  | .wearLedgerRestored => Sys2Proof.Machine.execWearLedgerRestored s
  | .smbClockLowTimeout lowMs => Sys2Proof.Machine.execSmbClockLowTimeout lowMs s
  | .rankPowerDown rank => Sys2Proof.Machine.execRankPowerDown rank s
  | .trefclkReturn m => Sys2Proof.Machine.execTrefclkReturn m s
  | .msixHoldoffEnd q v => Sys2Proof.Machine.execMsixHoldoffEnd q v s

end Sys2Proof.Machine
end

