-- ==== Sys2Proof/Machine/Tick.lean ====
section
/-! DEFINITION. The passing of time while no command waits (R70). -/

namespace Sys2Proof.Machine

/-- One cycle of CK_DTM with nothing to do: 2 ns pass, and the Datum counts them (R70, assumption 3). -/
def State.tick (s : State) : State := { s with clk := s.clk + 2, dtm := s.dtm.cycle s.dtmFreq }

end Sys2Proof.Machine
end

