-- ==== Sys2Proof/Machine/LinkCode.lean ====
section
/-! DEFINITION. The coding of the tile links (R6, R29, R242 to R260, R263): scrambler, control blocks, line packets and row
coding. An `Emission` of a port names what a row carries; these functions give its bits. -/

namespace Sys2Proof.Machine

/-- Block time of a transmit lane in ps for a LANE_RATE, and of the return lane (R242). -/
def blockPs (rate : Nat) : Nat := if rate = 0 then 4000 else if rate = 1 then 5120 else 6400

/-- Block time of the return lane in ps (R242). -/
def returnPs : Nat := 25600

/-- The scrambler of R244, x^58 + x^39 + 1: bit i of `st` is the output i + 1 bits ago. -/
def scramble (st : Nat) : List Bool → List Bool
  | [] => []
  | b :: l =>
    let o := b ^^ (st.testBit 38 ^^ st.testBit 57)
    o :: scramble ((2 * st + o.toNat) % 2 ^ 58) l

/-- The descrambler of a receiver (R244). -/
def descramble (st : Nat) : List Bool → List Bool
  | [] => []
  | b :: l => (b ^^ (st.testBit 38 ^^ st.testBit 57)) :: descramble ((2 * st + b.toNat) % 2 ^ 58) l

/-- A block from its fields: lowest bit, width, value (R243). -/
def blockOf (fs : List (Nat × Nat × Nat)) : Nat :=
  fs.foldl (fun (a : Nat) (f : Nat × Nat × Nat) => a + (f.2.2 % 2 ^ f.2.1) * 2 ^ f.1) 0

/-- Byte j of a block is payload bits [8j+7:8j] (R243). -/
def blockBytes (b : Nat) : List Byte := leBytes 8 b

/-- IDLE (R246). -/
def idleBlock : Nat := 0x1E

/-- ALIGN for a logical lane of a port (R248). -/
def alignBlock (lane port count : Nat) : Nat := blockOf [(0, 8, 0x2D), (8, 4, lane), (12, 6, port), (32, 32, count)]

/-- LINE_START (R250). -/
def lineStart (line : Nat) (empty rowCoded : Bool) (blocks fs : Nat) : Nat :=
  blockOf [(0, 8, 0x33), (8, 13, line), (21, 1, empty.toNat), (22, 1, rowCoded.toNat), (24, 24, blocks), (48, 8, fs)]

/-- LINE_END with PKT_CRC and this lane's LANE_CRC (R250). -/
def lineEnd (pktCrc laneCrc fs : Nat) : Nat := blockOf [(0, 8, 0x4B), (8, 32, pktCrc), (40, 16, laneCrc), (56, 8, fs)]

/-- The rows of FRAME_MARK: the control block and three data rows (R249). `tL` is in ns. -/
def frameMarkRows (lines fs gateTime modeId tL : Nat) : List Nat :=
  let c := blockOf [(0, 8, 0x55), (8, 8, 1), (16, 13, lines), (32, 32, fs)]
  let d1 := gateTime % 2 ^ 64
  let d2 := blockOf [(0, 16, modeId), (16, 21, tL / 4)]
  let crc := crc32c ((blockBytes c).drop 1 ++ blockBytes d1 ++ blockBytes d2)
  [c, d1, d2, crc]

/-- HOLD (R260). -/
def holdBlock (blank : Bool) (reason fs : Nat) : Nat :=
  blockOf [(0, 8, 0x66), (8, 1, blank.toNat), (16, 8, reason), (24, 32, fs)]

/-- RESUME (R260). -/
def resumeBlock (fs : Nat) : Nat := blockOf [(0, 8, 0x78), (24, 32, fs)]

/-- The control block of MGMT or RMSG with its CRC over bytes 1 to 3 and the data blocks (R263, R265). -/
def mgmtBlock (ty msg tag : Nat) (data : List Nat) : Nat :=
  let head := blockOf [(0, 8, ty), (8, 8, msg), (16, 4, data.length), (24, 8, tag)]
  head + crc32c (((blockBytes head).drop 1).take 3 ++ data.flatMap blockBytes) * 2 ^ 32

/-- A field with its most significant bit first (R252). -/
def msbBits (w v : Nat) : List Bool := ((List.range w).map (fun i => v.testBit i)).reverse

/-- Width of a ray word (R6): 30 bits with 10 bits per colour, 24 bits with 8. -/
def rayWidth (bit10 : Bool) : Nat := if bit10 then 30 else 24

/-- The stream of a packet that is not row-coded (R252). -/
def rawStream (bit10 : Bool) (words : List Nat) : List Bool := words.flatMap (msbBits (rayWidth bit10))

/-- The first `n` data blocks of a stream: stream bit p lies in block p div 64 at payload bit p mod 64 (R251). -/
def streamBlocks : Nat → List Bool → List Nat
  | 0, _ => []
  | n + 1, l => blockOf ((l.take 64).zipIdx.map (fun x => (x.2, 1, x.1.toNat))) :: streamBlocks n (l.drop 64)

/-- PKT_BLOCKS (R251). -/
def pktBlocks (bits : Nat) : Nat := ceilDiv bits 64

/-- Data blocks of a logical lane with its pad block: block i goes to lane i mod 15 (R251). -/
def laneBlocks (blocks : List Nat) (lane : Nat) : List Nat :=
  (List.range (ceilDiv blocks.length 15)).map (fun r => blocks.getD (15 * r + lane) 0)

/-- PKT_CRC of a packet's data blocks, pad blocks left out (R250). -/
def pktCrc (blocks : List Nat) : Nat := if blocks.isEmpty then 0 else crc32 (blocks.flatMap blockBytes)

/-- LANE_CRC: over the lane's own data blocks (R250). -/
def laneCrc (blocks : List Nat) (lane : Nat) : Nat :=
  crc16 ((blocks.zipIdx.filter (fun x => decide (x.2 % 15 = lane))).flatMap (fun x => blockBytes x.1))

/-- The rows of a line packet on a logical lane (R251): LINE_START, its data rows, LINE_END. -/
def packetLane (line fs : Nat) (rowCoded : Bool) (stream : List Bool) (lane : Nat) : List Nat :=
  let n := pktBlocks stream.length
  let bs := streamBlocks n stream
  lineStart line false rowCoded n fs :: (laneBlocks bs lane ++ [lineEnd (pktCrc bs) (laneCrc bs lane) fs])

/-- The rows of an empty line on a lane (R258). -/
def emptyLane (line fs : Nat) : List Nat := [lineStart line true false 0 fs, lineEnd 0 0xFFFF fs]

/-- Prediction of word k from the words of the hogel decoded so far (R254): `first` predicts word 0. -/
def predictWord (u first k : Nat) (done : List Nat) : Nat :=
  if k = 0 then first else if k % u ≠ 0 then done.getD (k - 1) 0 else done.getD (k - u) 0

/-- A word from its prediction and the three residuals (R253). -/
def addResidual (b p : Nat) (r g bl : Int) : Nat :=
  let f := fun (sh : Nat) (x : Int) => ((((p >>> sh) % 2 ^ b : Nat) + x) % (2 ^ b : Int)).toNat * 2 ^ sh
  f (2 * b) r + f b g + f 0 bl

/-- Words of a RUN, each equal to its prediction. -/
def runWords (u first : Nat) : Nat → List Nat → List Nat
  | 0, done => done
  | n + 1, done => runWords u first n (done ++ [predictWord u first done.length done])

/-- One token (R253): the words decoded and the rest of the stream; none where it is invalid. -/
def readToken (b u uv first : Nat) (done : List Nat) : List Bool → Option (List Nat × List Bool)
  | false :: l => match readUe 0 l with
    | some (m, r) => if uv < done.length + m + 1 then none else some (runWords u first (m + 1) done, r)
    | none => none
  | true :: false :: l => match readSe 1 l with
    | none => none
    | some (x, l1) => match readSe 1 l1 with
      | none => none
      | some (y, l2) => match readSe 1 l2 with
        | none => none
        | some (z, l3) => some (done ++ [addResidual b (predictWord u first done.length done) x y z], l3)
  | true :: true :: l => (takeBits (3 * b) 0 l).map (fun x => (done ++ [x.1], x.2))
  | [true] => none
  | [] => none

/-- Tokens until the hogel's words are decoded (R253). -/
def readTokens (b u uv first : Nat) : Nat → List Nat → List Bool → Option (List Nat × List Bool)
  | 0, done, l => if done.length = uv then some (done, l) else none
  | n + 1, done, l =>
    if done.length = uv then some (done, l)
    else match readToken b u uv first done l with
      | none => none
      | some (d, r) => readTokens b u uv first n d r

/-- One hogel code (R253): the words of a U × V hogel and the rest; none where the packet cannot be decoded (R255). -/
def readHogel (bit10 : Bool) (u v first : Nat) : List Bool → Option (List Nat × List Bool)
  | [] => none
  | false :: l => takeMany (rayWidth bit10) (u * v) l
  | true :: l => readTokens (if bit10 then 10 else 8) u (u * v) first (u * v) [] l

/-- The hogel codes of a line of `n` hogels (R253, R254): word 0 of a hogel is predicted from the hogel before it within a
block of 8. -/
def readHogels (bit10 : Bool) (u v : Nat) : Nat → Nat → Nat → List Bool → Option (List Nat × List Bool)
  | 0, _, _, l => some ([], l)
  | n + 1, i, before, l =>
    match readHogel bit10 u v (if i % 8 = 0 then 0 else before) l with
    | none => none
    | some (ws, r) => (readHogels bit10 u v n (i + 1) (ws.headD 0) r).map (fun x => (ws ++ x.1, x.2))

/-- The words of a row-coded packet; none where it is undecodable (R255): what follows the last hogel is less than 64 bits,
all 0. -/
def readLine (bit10 : Bool) (u v hogels : Nat) (stream : List Bool) : Option (List Nat) :=
  match readHogels bit10 u v hogels 0 0 stream with
  | none => none
  | some (ws, r) => if r.length ≤ 63 ∧ r.all (fun b => !b) = true then some ws else none

/-- The RAW code of a hogel (R253). -/
def rawHogel (bit10 : Bool) (ws : List Nat) : List Bool := false :: rawStream bit10 ws

/-- The stream length in bytes of a segment's record in the ray queue: its header and its coded bits, padded to 16 bytes
(R257). -/
def segRecordBytes (bits : Nat) : Nat := 16 + ceilDiv bits 128 * 16

/-- The 16-byte header of a segment's record (R257). -/
def segHeader (bits first count : Nat) (valid : Bool) : List Byte :=
  leBytes 4 (bits % 2 ^ 27 + valid.toNat * 2 ^ 31) ++ leBytes 2 first ++ leBytes 2 count ++ List.replicate 8 0

/-- Duration of a packet of D data blocks in block times, with the ALIGN rows inside it (R256). -/
def packetBlocks (d aligns : Nat) : Nat := ceilDiv d 15 + 2 + aligns

end Sys2Proof.Machine
end

