-- ==== Sys2Proof/Safety.lean ====
section
/-! DEFINITION. The terms in which claims about the block are stated. -/

namespace Sys2Proof.Machine

/-- The command `c` completes in state `s`, and what it leaves satisfies `P`. -/
def Answers (c : Instr) (s : State) (P : State → Prop) : Prop := ∃ t, exec c s = .next t ∧ P t

/-- The block has acted on exactly the vectors that are pending at each endpoint: none is missed (R420). -/
@[reducible] def State.allSignalled (s : State) : Prop := s.ep0.told = s.pendingVecs 0 ∧ s.ep1.told = s.pendingVecs 1

/-- Every command that waits is well formed. -/
def State.queueWf (s : State) : Bool := s.pending.all Instr.wf

/-- A byte space is in the canonical form: addresses strictly rising, no entry equal to what an unlisted byte reads as. -/
def Memory.wf (unlisted : Byte) (m : List Host.Cell) : Bool := awf (fun _ => unlisted) m

/-- Every byte space, and the map of the DRAM lines that are not clean, is in the canonical form. -/
def Spaces.wf (m : Spaces) : Bool :=
  Memory.wf 0 m.dram && Memory.wf 0 m.ctxTab && Memory.wf 0 m.pmap && Memory.wf 0 m.pane && Memory.wf 0 m.layd &&
    Memory.wf 0xFF m.flashA && Memory.wf 0xFF m.flashB && awf (fun _ => 0) m.lines

/-- The register file is in the canonical form: no register is listed twice or at its reset value. -/
def State.regsWf (s : State) : Bool := awf (regReset s.dev) s.regs

/-- Every register reads in `t` as in `s`, but for those that `p` names. -/
def State.sameRegs (s t : State) (p : Nat → Prop) : Prop := ∀ a, ¬p a → t.reg a = s.reg a

/-- No register changes but those that `p` names, and no page header. -/
def State.onlyRegs (s t : State) (p : Nat → Prop) : Prop := s.sameRegs t p ∧ ∀ q, t.page q = s.page q

/-- No byte of DRAM, of a store, of a table or of a flash changes. -/
def State.sameMemory (s t : State) : Prop := t.mem = s.mem

/-- Domain `d` may write whole words to the page: its owner does, or in basic mode the port of a page that basic mode answers;
the block runs or the page takes writes before it does; and no hand-over of the helm token holds requests (R352, R365, R410,
R422, R463). -/
@[reducible] def State.writable (s : State) (d : Dom) (page : Nat) : Prop :=
  populated page = true ∧ (s.basicFor d = true → basicPage d page = true) ∧
    (s.basicFor d = false → (s.page page).owner = d) ∧ (s.running = true ∨ earlyPage page = true) ∧ s.moor.hold = false

/-- The register at `a` lies in its page's window below 0x400, or the page is unlocked (R434). -/
@[reducible] def State.open (s : State) (a : Nat) : Prop := a % 0x1000 < 0x400 ∨ (s.page (a / 0x1000)).unlocked = true

/-- What a write of `v` to the register at `a` leaves of it: the bits of its fields (R13). -/
def kept (a : Nat) (v : W32) : Nat :=
  match rowAt a with
  | some r => v.toNat &&& fieldMask r.fields
  | none => 0

/-- Every field of `v` is in the range that the register at `a` gives it (R462). -/
@[reducible] def admits (a : Nat) (v : W32) : Prop :=
  (match rowAt a with
    | some r => fieldsAdmit r.fields (v.toNat &&& fieldMask r.fields)
    | none => false) = true

/-- A UDP frame on an enabled port that passes every check of R51 before its UDP port is looked at. -/
@[reducible] def State.passesR51 (s : State) (f : EthFrame) : Prop :=
  s.bitAt (Reg.ETH_CTRL f.port) 0 = true ∧ s.shut = false ∧ f.fcsOk = true ∧ f.length ≤ s.rd (Reg.ETH_MAX_FRAME f.port) ∧
    f.pause = false ∧ (f.dmac = s.portMac f.port ∨ (bit f.dmac 0 = true ∧ s.mcHashHit f.port f.dmac = true)) ∧
    (∀ v ∈ f.vlan, s.bitAt (Reg.ETH_VLAN f.port) 31 = true ∧ v = s.fld (Reg.ETH_VLAN f.port) 11 0) ∧
    (f.etherType = 0x0800 ∨ f.etherType = 0x86DD) ∧ f.ipOk = true ∧ s.dstOk f = true ∧ f.udp = true ∧ f.udpSum ≠ 2 ∧
    ¬(f.udpSum = 0 ∧ f.etherType = 0x86DD)

/-- From `s` to `t` engine `e` of column `col` is retired: marked, counted, raised, and out of the engines at work; no register
outside the Graticule's pages and the Logbook's changes (R212, R213). -/
def State.losesEngine (s t : State) (col e : Nat) : Prop :=
  t.retired col e = true ∧ t.rd Reg.GRT_RETIRED_COUNT = min (s.rd Reg.GRT_RETIRED_COUNT + 1) 0xFFFFFFFF ∧
    t.bitAt (Reg.INT_RAW Page.GRT) 3 = true ∧ t.bitAt (Reg.INT_RAW (Page.GCOL col)) 0 = true ∧
    ((s.col col).spare ≠ some e → e ∉ (t.col col).active) ∧ ((s.col col).spare = some e → (t.col col).spare = none) ∧
    (∀ c, c ≠ col → t.col c = s.col c) ∧
    s.sameRegs t (fun a => a / 0x1000 = Page.GRT ∨ a / 0x1000 = Page.LOGB ∨
      (Page.GCOL 0 ≤ a / 0x1000 ∧ a / 0x1000 < Page.GCOL 32))

/-- In `t` the helm token has been granted to Landing `w`: one that does not run its firmware yet only holds it, one that runs
takes over a datapath that runs, or starts bring-up (R329, R335, R350). -/
def State.grantsTo (s t : State) (w : Landing) : Prop :=
  t.holder = some w ∧ t.moor.claimA = none ∧ t.moor.claimB = none ∧ t.moor.window = none ∧ t.moor.heldClaim = none ∧
    t.moor.powerFree = false ∧
    (s.landState w ≠ 3 → s.landState w ≠ 4 → s.onlyRegs t (fun a => a = Reg.MOOR_STATUS) ∧ t.mem = s.mem) ∧
    (s.landState w = 3 ∨ s.landState w = 4 → t.landState w = 4 ∧ t.moor.hold = false ∧ t.moor.lastHolder = none ∧
      (s.fld Reg.BOOT_STATUS 1 0 = 3 → t.bitAt (Reg.INT_RAW Page.MOOR) 0 = true ∧
        t.rd Reg.MOOR_TAKEOVER_COUNT = min (s.rd Reg.MOOR_TAKEOVER_COUNT + 1) 0xFFFFFFFF) ∧
      (s.fld Reg.BOOT_STATUS 1 0 ≠ 3 → t.moor.bringUp = true ∧ t.fld Reg.BOOT_STATUS 1 0 = 2))

/-- From `s` to `t` Landing `l` restarted: its ROM runs a new attempt, unless something holds it in reset (R348, R361). -/
def State.restarts (s t : State) (l : Landing) : Prop :=
  t.rd (Reg.LND_RESTARTS l.idx) = min (s.rd (Reg.LND_RESTARTS l.idx) + 1) 0xFFFFFFFF ∧ (t.land l).copy = none ∧
    (t.land l).image = none ∧ t.claimOf l = none ∧ t.synced l = false ∧ (t.land l).resetAt = s.clk ∧
    (s.mayRun l = true → t.landState l = 1 ∧ (t.land l).attemptAt = some s.clk ∧
      (t.land l).fenced = decide (t.holder = some l)) ∧
    (s.mayRun l = false → t.landState l = 0)

/-- From `s` to `t` the attempt of Landing `l` failed: the failure is reported, the token released, and the Landing starts a new
attempt or enters Slipway mode (R361 to R364). -/
def State.bootFails (s t : State) (l : Landing) (cause stage detail : Nat) : Prop :=
  t.rd (bootReasonReg l) = cause + stage * 256 + detail % 65536 * 65536 ∧ t.bitAt (Reg.INT_RAW Page.BOOT) 0 = true ∧
    (s.holder = some l → t.holder = none) ∧ (s.holder ≠ some l → t.holder = s.holder) ∧
    (3 ≤ (s.bootRecord l 3 cause stage detail).failCount l → t.landState l = 5 ∧ t.bitAt (bootStateReg l) 1 = true ∧
      t.bitAt (Reg.INT_RAW Page.BOOT) 1 = true) ∧
    ((s.bootRecord l 3 cause stage detail).failCount l < 3 → s.restarts t l)

/-- Record `payload` of type `ty` can go into the Logbook of the active Landing `l` at once (R375, R377). -/
@[reducible] def State.logReady (s : State) (l : Landing) (ty : Nat) (payload : List Byte) : Prop :=
  s.active = some l ∧ s.bitAt Reg.LOGB_STATUS 0 = true ∧ s.switching = false ∧ s.oldBankFull l ty payload = false

/-- From `s` to `t` the Logbook of Landing `l` took the next SEQ for a record (R372, R375). -/
def State.logged (s t : State) (l : Landing) : Prop :=
  (t.side l).seq = ((s.side l).seq + 1) % 2 ^ 32 ∧ t.rd Reg.LOGB_SEQ = ((s.side l).seq + 1) % 2 ^ 32

/-- The transfer that GWYn's registers ask for (R412). -/
def State.gwyAsked (s : State) (n : Nat) : GwyChan :=
  let g := s.rd (Reg.GWY_CFG n)
  { target := bits g 7 0, read := bit g 8, inc := bit g 9, stride := s.rd (Reg.GWY_STRIDE n), len := s.rd (Reg.GWY_LEN n)
    addr := s.rd64 (Reg.GWY_ADDR_LO n) (Reg.GWY_ADDR_HI n) }

/-- Channel `n` runs a transfer to or from DRAM whose next 4 bytes its domain may access (R411, R413). -/
@[reducible] def State.gwyDramUnit (s : State) (n : Nat) (read : Bool) : Prop :=
  s.gwyState n = 1 ∧ (s.gwyChan n).target = 0 ∧ (s.gwyChan n).read = read ∧ s.rd (Reg.GWY_MOVED n) < (s.gwyChan n).len ∧
    s.gwyMay (Dom.ofCode n) 0 (s.gwyChan n).addr 4 read = true ∧ (s.gwyChan n).addr + 4 ≤ s.capacity

/-- From `s` to `t` channel `n` moved one unit of 4 bytes, and is DONE after its last one (R413, R417). -/
def State.gwyMoves (s t : State) (n : Nat) : Prop :=
  t.rd (Reg.GWY_MOVED n) = (s.rd (Reg.GWY_MOVED n) + 4) % 2 ^ 32 ∧
    (t.gwyChan n).addr = (s.gwyChan n).addr + (if (s.gwyChan n).inc then (s.gwyChan n).stride else 4) ∧
    ((s.gwyChan n).len < 2 ^ 32 → s.rd (Reg.GWY_MOVED n) + 4 = (s.gwyChan n).len → (s.gwyChan n).buf = [] →
      t.gwyState n = 2 ∧ t.bitAt (Reg.INT_RAW (Page.GWY n)) 0 = true) ∧
    (s.rd (Reg.GWY_MOVED n) + 4 < (s.gwyChan n).len → (s.gwyChan n).len < 2 ^ 32 → t.gwyState n = 1)

/-- From `s` to `t` an error of a page was recorded under the first-error rule: in the capture registers while VALID is 0, and
only in LOST otherwise; nothing else changed (R429). -/
def State.captures (s t : State) (page code source detail : Nat) : Prop :=
  (s.bitAt (Reg.ERR_CAPTURE0 page) 31 = false → t.rd (Reg.ERR_CAPTURE0 page) = code + source * 0x10000 + 0x80000000 ∧
    t.rd (Reg.ERR_CAPTURE1 page) = s.frameSeq ∧ t.rd (Reg.ERR_CAPTURE2 page) = s.now % 2 ^ 32 ∧
    t.rd (Reg.ERR_CAPTURE3 page) = detail % 2 ^ 32 ∧ t.bitAt (Reg.INT_RAW page) 31 = true ∧
    s.onlyRegs t (fun a => a = Reg.INT_RAW page ∨ ∃ j, j < 4 ∧ a = Reg.ERR_CAPTURE0 page + 4 * j)) ∧
  (s.bitAt (Reg.ERR_CAPTURE0 page) 31 = true → t.page page = { s.page page with lost := true } ∧
    (∀ q, q ≠ page → t.page q = s.page q) ∧ s.sameRegs t (fun _ => False)) ∧ t.mem = s.mem

/-- The message `e` was sent. -/
def State.sends (t : State) (e : Emission) : Prop := e ∈ t.sent

end Sys2Proof.Machine
end

