-- ==== Sys2Proof/Certificates/Slice0/Obligations.lean ====
section
/-! DEFINITION. The statements for the provers. -/

open Sys2Proof Sys2Proof.Machine

/-- A step runs the command at the front of the queue with the queue's rest; with none waiting, 2 ns pass (the model's
choice, log entry 3). -/
def Obligations.StepRunsTheCommandInFront : Prop :=
  ∀ s : State, (∀ c rest, s.pending = c :: rest → step s = exec c { s with pending := rest }) ∧
    (s.pending = [] → step s = .next { s with clk := s.clk + 2, dtm := s.dtm.cycle s.dtmFreq })

/-- Every command of the table completes, in every state and with every operand: it answers a next state, leaves the
queue as it is, and takes no time of its own (the model's choice, log entry 3). -/
def Obligations.EveryCommandCompletes : Prop :=
  ∀ (c : Instr) (s : State), Answers c s (fun t => t.pending = s.pending ∧ t.clk = s.clk ∧ t.allSignalled)

/-- After reset every register reads its reset value, every page has its default owner and is locked, the helm token
is FREE, both Landings are in reset, no output is armed, and memory lists nothing (R348, R408, R424, R434). The
registers that differ from device to device and the empty memory are the model's choice (log entries 4 and 6). -/
def Obligations.ResetState : Prop :=
  (∀ a, State.reset.reg a = regReset State.reset.dev a) ∧
    (∀ p, State.reset.page p = { unlocked := false, lost := false, owner := defaultOwner p, lock := false }) ∧
    State.reset.pending = [] ∧ State.reset.holder = none ∧ State.reset.landState .a = 0 ∧ State.reset.landState .b = 0 ∧
    State.reset.armed = false ∧ State.reset.running = false ∧ State.reset.mem = {} ∧ State.reset.allSignalled ∧
    State.reset.mem.wf = true ∧ State.reset.regsWf = true ∧ (∀ q, q < 2 → State.reset.canSend q = false)

/-- No vector that becomes pending is missed: each endpoint has acted on exactly the vectors that are pending, and
every step keeps this (R420). What an endpoint counts as acted on is the model's own field (log entry 49), kept as
R420 says. -/
def Obligations.NoPendingVectorIsMissed : Prop :=
  ∀ s t : State, s.allSignalled → step s = .next t → t.allSignalled

/-- A page's first pending interrupt signals its vector to the owner's endpoint: the message is sent, or its Pending
Bit Array bit is set while the vector is masked or the endpoint cannot send, or it is held back for PCIq_VEC_HOLDOFF
(R420, R427). That an endpoint that cannot send sets the bit at once is read from R420 by inference (log entry 46). -/
def Obligations.NewPendingVectorIsSignalled : Prop :=
  ∀ (s : State) (q page : Nat) (v : W32) (vec : Nat), q < 2 → s.allSignalled → s.writable (domOfPort q) page →
    (s.page page).owner = domOfPort q → (v.toNat &&& intMask page) &&& s.rd (Reg.INT_ENABLE page) ≠ 0 →
    vec = (s.ep q).vector page → vec ∉ s.pendingVecs q → vec ∉ (s.ep q).heldBack →
    Answers (.intForce (domOfPort q) page v) s (fun t => vec ∈ t.pendingVecs q ∧
      (s.canSend q = false ∨ vec ∉ (s.ep q).unmasked → vec ∈ (t.ep q).pba ∧ t.sent = s.sent) ∧
      (s.canSend q = true → vec ∈ (s.ep q).unmasked → (s.ep q).lastMsg.find? (fun x => x.1 = vec) = none →
        t.sent = .msix q vec :: s.sent ∧ vec ∉ (t.ep q).heldBack) ∧
      (∀ t0, s.canSend q = true → vec ∈ (s.ep q).unmasked → (s.ep q).lastMsg.find? (fun x => x.1 = vec) = some (vec, t0) →
        s.clk < t0 + 1000 * s.rd (Reg.PCI_VEC_HOLDOFF q) → vec ∈ (t.ep q).heldBack ∧ t.sent = s.sent) ∧
      s.onlyRegs t (fun a => a = Reg.INT_RAW page) ∧ s.sameMemory t)

/-- The commands of the page header that change one register or the page's header state, and nothing else: PAGE_UNLOCK
and PAGE_LOCK (R434), INT_FORCE and INT_RAW_CLEAR (R427), ERR_CAPTURE_CLEAR (R429). -/
def Obligations.HeaderCommandsAndTheirFrame : Prop :=
  ∀ (s : State) (d : Dom) (page : Nat), s.writable d page →
    Answers (.pageUnlock d page) s (fun t => t.page page = { s.page page with unlocked := true } ∧
      (∀ q, q ≠ page → t.page q = s.page q) ∧ s.sameRegs t (fun _ => False) ∧ s.sameMemory t) ∧
    (∀ key, key % 65536 ≠ 0 → key % 65536 ≠ 0x5EA7 → Answers (.pageLock d page key) s (fun t =>
      t.page page = { s.page page with unlocked := false } ∧
      (∀ q, q ≠ page → t.page q = s.page q) ∧ s.sameRegs t (fun _ => False) ∧ s.sameMemory t)) ∧
    (∀ v, Answers (.intForce d page v) s (fun t =>
      t.rd (Reg.INT_RAW page) = s.rd (Reg.INT_RAW page) ||| (v.toNat &&& intMask page) ∧
      s.onlyRegs t (fun a => a = Reg.INT_RAW page) ∧ s.sameMemory t)) ∧
    (∀ v, Answers (.intRawClear d page v) s (fun t =>
      t.rd (Reg.INT_RAW page) = s.rd (Reg.INT_RAW page) &&& (0xFFFFFFFF ^^^ v.toNat) ∧
      s.onlyRegs t (fun a => a = Reg.INT_RAW page) ∧ s.sameMemory t)) ∧
    Answers (.errCaptureClear d page) s (fun t => t.bitAt (Reg.ERR_CAPTURE0 page) 31 = false ∧
      t.fld (Reg.ERR_CAPTURE0 page) 30 0 = s.fld (Reg.ERR_CAPTURE0 page) 30 0 ∧
      t.page page = { s.page page with lost := false } ∧ (∀ q, q ≠ page → t.page q = s.page q) ∧
      s.sameRegs t (fun a => a = Reg.ERR_CAPTURE0 page) ∧ s.sameMemory t)

/-- SOFT_RESET clears the page's interrupt and capture registers, and on a page without side effects returns every
written value to its reset value (R425); PAGE_COMMIT takes the written frame-scoped values of a page as its pending
set (R226), and changes no register, no page header and no memory. Which registers SOFT_RESET returns, and how, is the
model's reading (log entry 19). -/
def Obligations.SoftResetAndPageCommit : Prop :=
  ∀ (s : State) (d : Dom) (page : Nat), s.writable d page →
    Answers (.softReset d page) s (fun t =>
      t.rd (Reg.INT_RAW page) = 0 ∧ t.rd (Reg.INT_ENABLE page) = 0 ∧ t.rd (Reg.ERR_CAPTURE0 page) = 0 ∧
      t.rd (Reg.ERR_CAPTURE1 page) = 0 ∧ t.rd (Reg.ERR_CAPTURE2 page) = 0 ∧ t.rd (Reg.ERR_CAPTURE3 page) = 0 ∧
      (t.page page).lost = false ∧
      (∀ f i a, famOfPage page = some (f, i) → f ∈ [PageFam.glb, .haws, .irq, .sft, .eth, .wbk] →
        a ∈ writtenRegs page (s.page page).unlocked → t.reg a = regReset s.dev a)) ∧
    (commitPage page = true → page ≠ Page.LAY → page ≠ Page.SIG → Answers (.pageCommit d page) s (fun t =>
      (∀ a, a ∈ frameScoped page → aget (regReset s.dev a) a t.pend = s.reg a) ∧ t.commitPends page = true ∧
      s.onlyRegs t (fun _ => False) ∧ s.sameMemory t ∧ t.force = s.force)) ∧
    (commitPage page = false → Answers (.pageCommit d page) s (fun t =>
      s.onlyRegs t (fun _ => False) ∧ s.sameMemory t ∧ t.pend = s.pend ∧ t.force = s.force))

/-- A register write of the owner to a window register of a page without side effects holds the written bits, and no
other register, page header or byte of memory changes (R12, R13, R410, R462). That the values are judged after
reserved bits are dropped is the model's reading (log entry 18). -/
def Obligations.RegisterWriteHoldsTheWrittenBits : Prop :=
  ∀ (s : State) (d : Dom) (a : Nat) (v : W32) (r : RegRow) (f : PageFam) (i : Nat),
    s.writable d (a / 0x1000) → s.open a → a % 4 = 0 → 0x40 ≤ a % 0x1000 → rowAt a = some r →
    (r.access = .rw ∨ r.access = .rwl) → admits a v → famOfPage (a / 0x1000) = some (f, i) →
    f ∈ [PageFam.glb, .haws, .irq, .sft, .eth, .wbk] →
    Answers (.registerWrite { dom := d, addr := a, value := v, be := 15 }) s (fun t =>
      t.rd a = kept a v ∧ s.onlyRegs t (fun b => b = a) ∧ s.sameMemory t)

/-- A read returns the register's value to its domain; an RC register restarts at its reset value, a read of
DTM_TIME_LO latches the other two time words, and any other read changes no register (R12, R71, R410). -/
def Obligations.ReadsReturnTheValue : Prop :=
  ∀ (s : State) (d : Dom) (a : Nat), a % 4 = 0 → populated (a / 0x1000) = true → (s.basicFor d = true → basicPage d (a / 0x1000) = true) →
    (s.basicFor d = false → s.mayRead d a = true) → s.moor.hold = false →
    ((∀ n, n < 4 → a ≠ Reg.GWY_DATA n ∧ a ≠ Reg.GWY_DATA_HI n) → Answers (.rcRead d a) s (fun t => t.sends (.readData d a (BitVec.ofNat 32 (s.viewReg d a))) ∧
      (∀ r, rowAt a = some r → r.access = .rc → a ≠ Reg.DTM_TIME_LO → t.reg a = regReset s.dev a) ∧
      ((∀ r, rowAt a = some r → r.access ≠ .rc) → a ≠ Reg.DTM_TIME_LO → s.onlyRegs t (fun _ => False)) ∧
      (a ≠ Reg.DTM_TIME_LO → s.onlyRegs t (fun b => b = a)) ∧ s.sameMemory t)) ∧
    (a = Reg.DTM_TIME_LO → Answers (.timeLoRead d) s (fun t =>
      t.sends (.readData d a (BitVec.ofNat 32 s.dtm.time)) ∧ t.rd Reg.DTM_TIME_HI = s.dtm.time / 2 ^ 32 % 2 ^ 32 ∧
      t.rd Reg.DTM_TIME_FRAC = s.dtm.frac % 2 ^ 32 ∧
      s.onlyRegs t (fun b => b = Reg.DTM_TIME_HI ∨ b = Reg.DTM_TIME_FRAC) ∧ s.sameMemory t))

/-- Register writes that are turned away keep the register and are recorded: of a domain that does not own the page
(R410), before RUN (R352), with partial byte enables (R406), to a locked expert window (R435), and with a field out of
range (R462). Each clause assumes the earlier checks passed: their order is the model's reading (log entry 18). -/
def Obligations.RefusedWritesAreRecorded : Prop :=
  ∀ (s : State) (w : RegWrite), w.addr % 4 = 0 → populated (w.addr / 0x1000) = true → s.moor.hold = false →
    s.basicFor w.dom = false →
    ((s.page (w.addr / 0x1000)).owner ≠ w.dom → Answers (.registerWrite w) s (fun t =>
      t.rd Reg.DOM_DENY_COUNT = min (s.rd Reg.DOM_DENY_COUNT + 1) 0xFFFFFFFF ∧
      t.rd Reg.DOM_DENY_LAST = w.dom.code + 4 + w.addr % 2 ^ 24 * 16 ∧ t.bitAt (Reg.INT_RAW Page.DOM) 0 = true ∧
      s.onlyRegs t (fun a => a = Reg.DOM_DENY_COUNT ∨ a = Reg.DOM_DENY_LAST ∨ a = Reg.INT_RAW Page.DOM) ∧
      s.sameMemory t)) ∧
    ((s.page (w.addr / 0x1000)).owner = w.dom → (w.addr % 0x1000 < 0x40 ∨ (rowAt w.addr).isSome = true) →
      (s.running = false → earlyPage (w.addr / 0x1000) = false → Answers (.registerWrite w) s (fun t =>
        s.captures t (w.addr / 0x1000) 0xF5 w.dom.code (w.addr % 0x1000 + w.value.toNat % 0x10000 * 0x10000))) ∧
      (s.running = true ∨ earlyPage (w.addr / 0x1000) = true → w.be % 16 ≠ 15 → Answers (.registerWrite w) s (fun t =>
        s.captures t (w.addr / 0x1000) 0xF3 w.dom.code (w.addr % 0x1000 + w.value.toNat % 0x10000 * 0x10000))) ∧
      (s.running = true ∨ earlyPage (w.addr / 0x1000) = true → w.be % 16 = 15 → ¬s.open w.addr →
        Answers (.registerWrite w) s (fun t =>
        s.captures t (w.addr / 0x1000) 0xF2 w.dom.code (w.addr % 0x1000 + w.value.toNat % 0x10000 * 0x10000))) ∧
      (∀ r, s.running = true ∨ earlyPage (w.addr / 0x1000) = true → w.be % 16 = 15 → s.open w.addr →
        0x40 ≤ w.addr % 0x1000 → rowAt w.addr = some r → (r.access = .rw ∨ r.access = .rwl) → ¬admits w.addr w.value →
        Answers (.registerWrite w) s (fun t =>
        s.captures t (w.addr / 0x1000) 0xF4 w.dom.code (w.addr % 0x1000 + w.value.toNat % 0x10000 * 0x10000))))

/-- The first-error rule (R429): the capture registers record an error only while VALID is 0; an error while it is 1
sets LOST; writing 1 to VALID clears both and keeps the other registers; an error that meets the clearing write is
captured. -/
def Obligations.FirstErrorIsCaptured : Prop :=
  ∀ (s : State) (page : Nat),
    (∀ code source detail, code < 2 ^ 16 → source < 8 → s.captures (s.capture page code source detail) page code source
      detail) ∧
    (∀ code source detail, code < 2 ^ 16 → source < 8 → s.bitAt (Reg.ERR_CAPTURE0 page) 31 = false →
      (s.capture page code source detail).fld (Reg.ERR_CAPTURE0 page) 15 0 = code ∧
      (s.capture page code source detail).fld (Reg.ERR_CAPTURE0 page) 18 16 = source ∧
      (s.capture page code source detail).fld (Reg.ERR_CAPTURE0 page) 30 19 = 0 ∧
      (s.capture page code source detail).bitAt (Reg.ERR_CAPTURE0 page) 31 = true) ∧
    (∀ d, s.writable d page → Answers (.errCaptureClear d page) s (fun t =>
      t.bitAt (Reg.ERR_CAPTURE0 page) 31 = false ∧ (t.page page).lost = false ∧
      (∀ j, 1 ≤ j → j < 4 → t.reg (Reg.ERR_CAPTURE0 page + 4 * j) = s.reg (Reg.ERR_CAPTURE0 page + 4 * j)) ∧
      (∀ code source detail, code < 2 ^ 16 → source < 8 →
        (t.capture page code source detail).bitAt (Reg.ERR_CAPTURE0 page) 31 = true ∧
        (t.capture page code source detail).fld (Reg.ERR_CAPTURE0 page) 15 0 = code) ∧
      s.sameRegs t (fun a => a = Reg.ERR_CAPTURE0 page) ∧ s.sameMemory t))

/-- The ownership table and the DRAM windows: DOM_OWN_CMD changes a page's owner or refuses with its result,
DOM_LOCK_ALL locks every page, and a window may not overlap, leave the capacity or reach the firmware region (R408,
R409, R411). That the ownership change is complete at once is the model's choice (log entry 50). -/
def Obligations.OwnershipAndDramWindows : Prop :=
  ∀ (s : State) (d : Dom), s.writable d Page.DOM →
    (∀ (v : W32) page o, bit v.toNat 31 = true → page = bits v.toNat 11 0 → o = Dom.ofCode (bits v.toNat 13 12) →
      Answers (.domOwnCmd d v) s (fun t =>
        (populated page = false → t.rd Reg.DOM_OWN_STATUS = 2 + page * 65536 ∧ s.onlyRegs t (fun a => a = Reg.DOM_OWN_STATUS)) ∧
        (populated page = true → (s.page page).lock = true ∨ fixedPage page = true →
          t.rd Reg.DOM_OWN_STATUS = 1 + page * 65536 ∧ s.onlyRegs t (fun a => a = Reg.DOM_OWN_STATUS)) ∧
        ((s.page page).lock = false → page = Page.DOM → o = .s → t.rd Reg.DOM_OWN_STATUS = 3 + page * 65536 ∧
          s.onlyRegs t (fun a => a = Reg.DOM_OWN_STATUS)) ∧
        (populated page = true → (s.page page).lock = false → fixedPage page = false → (page ≠ Page.DOM ∨ o ≠ .s) →
          t.rd Reg.DOM_OWN_STATUS = page * 65536 ∧ (t.page page).owner = o ∧ (t.page page).lock = bit v.toNat 14 ∧
          ((s.page page).owner ≠ o → (t.page page).unlocked = false) ∧ (∀ q, q ≠ page → t.page q = s.page q) ∧
          s.sameRegs t (fun a => a = Reg.DOM_OWN_STATUS ∨ ∃ n, n < 4 ∧ a / 0x1000 = Page.GWY n)) ∧ s.sameMemory t)) ∧
    (∀ v : W32, s.open Reg.DOM_LOCK_ALL → bit v.toNat 0 = true → Answers (.domLockAll d v) s (fun t =>
      (∀ p, populated p = true → t.page p = { s.page p with lock := true }) ∧
      (∀ p, populated p = false → t.page p = s.page p) ∧ s.sameRegs t (fun _ => False) ∧ s.sameMemory t)) ∧
    (∀ w (v : W32), w < 16 →
      Answers (.dramWindowWrite d w 0 v) s (fun t =>
        (s.rd (Reg.DOM_DRAM_WIN_SIZE w) = 0 → t.rd (Reg.DOM_DRAM_WIN_BASE w) = v.toNat % 2 ^ 20 ∧
          s.onlyRegs t (fun a => a = Reg.DOM_DRAM_WIN_BASE w)) ∧
        (s.rd (Reg.DOM_DRAM_WIN_SIZE w) ≠ 0 → t.rd (Reg.DOM_DRAM_WIN_BASE w) = s.rd (Reg.DOM_DRAM_WIN_BASE w) ∧
          s.sameRegs t (fun a => a = Reg.INT_RAW Page.DOM ∨ ∃ j, j < 4 ∧ a = Reg.ERR_CAPTURE0 Page.DOM + 4 * j)) ∧
        s.sameMemory t) ∧
      Answers (.dramWindowWrite d w 1 v) s (fun t =>
        (v.toNat % 2 ^ 20 = 0 ∨ s.windowBad w (s.rd (Reg.DOM_DRAM_WIN_BASE w)) (v.toNat % 2 ^ 20) = false →
          t.rd (Reg.DOM_DRAM_WIN_SIZE w) = v.toNat % 2 ^ 20 ∧
          s.onlyRegs t (fun a => a = Reg.DOM_DRAM_WIN_SIZE w ∨ ∃ n, n < 4 ∧ a / 0x1000 = Page.GWY n)) ∧
        (v.toNat % 2 ^ 20 ≠ 0 → s.windowBad w (s.rd (Reg.DOM_DRAM_WIN_BASE w)) (v.toNat % 2 ^ 20) = true →
          t.rd (Reg.DOM_DRAM_WIN_SIZE w) = s.rd (Reg.DOM_DRAM_WIN_SIZE w) ∧
          s.sameRegs t (fun a => a = Reg.INT_RAW Page.DOM ∨ ∃ j, j < 4 ∧ a = Reg.ERR_CAPTURE0 Page.DOM + 4 * j)) ∧
        s.sameMemory t) ∧
      Answers (.dramWindowWrite d w 2 v) s (fun t => t.rd (Reg.DOM_DRAM_WIN_OWNER w) = v.toNat % 4 ∧
        s.onlyRegs t (fun a => a = Reg.DOM_DRAM_WIN_OWNER w ∨ ∃ n, n < 4 ∧ a / 0x1000 = Page.GWY n) ∧ s.sameMemory t))

/-- A Gangway transfer starts, is refused with its code, is aborted, and is done when every byte has moved and been
accepted (R412, R416, R417). The order of the checks at GO, and DONE at once, are the model's reading (log entry 47).
-/
def Obligations.GangwayTransfersStartAndEnd : Prop :=
  ∀ (s : State) (n : Nat), n < 4 →
    (∀ d abort, s.writable d (Page.GWY n) → s.gwyState n ≠ 1 → Answers (.gangwayGo d n abort) s (fun t =>
      t.rd (Reg.GWY_MOVED n) = 0 ∧ t.gwyChan n = { s.gwyAsked n with buf := (s.gwyChan n).buf } ∧
      (s.gwyGoCode n (s.gwyAsked n) = 0 → t.rd (Reg.GWY_STATUS n) = 1 ∧
        s.onlyRegs t (fun a => a = Reg.GWY_STATUS n ∨ a = Reg.GWY_MOVED n)) ∧
      (s.gwyGoCode n (s.gwyAsked n) ≠ 0 →
        t.rd (Reg.GWY_STATUS n) = 3 + s.gwyGoCode n (s.gwyAsked n) * 256 ∧
        t.rd64 (Reg.GWY_ERR_ADDR_LO n) (Reg.GWY_ERR_ADDR_HI n) = (s.gwyAsked n).addr ∧
        t.bitAt (Reg.INT_RAW (Page.GWY n)) 1 = true ∧ s.onlyRegs t (fun a => a / 0x1000 = Page.GWY n)) ∧ s.sameMemory t)) ∧
    (∀ d, s.writable d (Page.GWY n) → s.gwyState n = 1 → Answers (.gangwayGo d n false) s (fun t => t.gwy = s.gwy ∧
      s.sameRegs t (fun a => a = Reg.INT_RAW (Page.GWY n) ∨ ∃ j, j < 4 ∧ a = Reg.ERR_CAPTURE0 (Page.GWY n) + 4 * j) ∧
      s.sameMemory t)) ∧
    (∀ d, s.writable d (Page.GWY n) → Answers (.gangwayAbort d n) s (fun t =>
      (s.gwyState n = 1 → t.rd (Reg.GWY_STATUS n) = 0x903 ∧ t.bitAt (Reg.INT_RAW (Page.GWY n)) 1 = true ∧
        s.onlyRegs t (fun a => a / 0x1000 = Page.GWY n)) ∧
      (s.gwyState n ≠ 1 → s.onlyRegs t (fun _ => False)) ∧ s.sameMemory t)) ∧
    (s.gwyState n = 1 → s.rd (Reg.GWY_MOVED n) = (s.gwyChan n).len → (s.gwyChan n).buf = [] →
      Answers (.gangwayDone n) s (fun t => t.rd (Reg.GWY_STATUS n) = 2 ∧
        t.bitAt (Reg.INT_RAW (Page.GWY n)) 0 = true ∧
        s.onlyRegs t (fun a => a = Reg.GWY_STATUS n ∨ a = Reg.GWY_ADDR_LO n ∨ a = Reg.GWY_ADDR_HI n ∨
          a = Reg.INT_RAW (Page.GWY n)) ∧ s.sameMemory t)) ∧
    (∀ k, Answers (.flashProgramDone n k) s (fun t => (t.gwyChan n).buf = (s.gwyChan n).buf.drop k ∧
      s.onlyRegs t (fun _ => False) ∧ t.mem.dram = s.mem.dram ∧ t.mem.pane = s.mem.pane)) ∧
    (∀ f a b rest, (s.gwyChan n).buf = (f, a, b) :: rest → a % 65536 = 0 → Answers (.flashProgramDone n 1) s (fun t =>
      t.flashBytes (flashOf f) a 1 = [b] ∧ (∀ k, a < k → k < a + 65536 → t.flashBytes (flashOf f) k 1 = [0xFF]) ∧
      (∀ k, k < a ∨ a + 65536 ≤ k → t.flashBytes (flashOf f) k 1 = s.flashBytes (flashOf f) k 1) ∧
      t.flash (flashOf f).other = s.flash (flashOf f).other))

/-- Data on a Gangway channel, through its data port and through its BAR2 window: a unit moves to or from DRAM, a
poisoned write ends the transfer, and another domain's window is denied (R407, R410, R413, R414, R417). What a
poisoned write to another domain's window does is the model's presumption (log entry 45). -/
def Obligations.GangwayData : Prop :=
  ∀ (s : State) (n : Nat), n < 4 → s.moor.hold = false → (s.page (Page.GWY n)).owner = Dom.ofCode n →
    (∀ (lo : W32) c, s.running = true → s.gwyDramUnit n false →
      (c = .gangwayDataWrite (Dom.ofCode n) n lo none ∨ (n < 2 ∧ c = .apertureWrite (Dom.ofCode n)
        (0x10000 * n + s.rd (Reg.GWY_MOVED n) % 0x10000) (leBytes 4 lo.toNat) false)) →
      Answers c s (fun t => s.gwyMoves t n ∧ t.dramBytes (s.gwyChan n).addr 4 = leBytes 4 lo.toNat ∧
        (∀ a, a < (s.gwyChan n).addr ∨ (s.gwyChan n).addr + 4 ≤ a → t.dramBytes a 1 = s.dramBytes a 1) ∧
        s.onlyRegs t (fun a => a / 0x1000 = Page.GWY n))) ∧
    (∀ c, s.gwyDramUnit n true → s.dramPoison (s.gwyChan n).addr 4 = false →
      (c = .gangwayDataRead (Dom.ofCode n) n false ∨ (n < 2 ∧ c = .apertureRead (Dom.ofCode n)
        (0x10000 * n + s.rd (Reg.GWY_MOVED n) % 0x10000) 4)) →
      Answers c s (fun t => s.gwyMoves t n ∧
        t.sends (.completion (Dom.ofCode n) (s.dramBytes (s.gwyChan n).addr 4) false) ∧
        s.onlyRegs t (fun a => a / 0x1000 = Page.GWY n) ∧ s.sameMemory t)) ∧
    (∀ o bs, n < 2 → o < 0x10000 → s.gwyState n = 1 → Answers (.apertureWrite (Dom.ofCode n) (0x10000 * n + o) bs true) s
      (fun t => t.rd (Reg.GWY_STATUS n) = 0x603 ∧ t.bitAt (Reg.INT_RAW (Page.GWY n)) 1 = true ∧
        t.rd (Reg.PCI_AER_COUNT n) = min (s.rd (Reg.PCI_AER_COUNT n) + 1) 0xFFFFFFFF ∧
        s.onlyRegs t (fun a => a / 0x1000 = Page.GWY n ∨ a = Reg.PCI_AER_COUNT n) ∧ s.sameMemory t)) ∧
    (∀ o bs m, n < 2 → o < 0x10000 → m < 4 → m ≠ n → Answers (.apertureWrite (Dom.ofCode n) (0x10000 * m + o) bs false) s
      (fun t => t.rd Reg.DOM_DENY_COUNT = min (s.rd Reg.DOM_DENY_COUNT + 1) 0xFFFFFFFF ∧
        t.rd Reg.DOM_DENY_LAST = n + 4 + (0x10000 * m + o) * 16 ∧ t.bitAt (Reg.INT_RAW Page.DOM) 0 = true ∧
        s.onlyRegs t (fun a => a = Reg.DOM_DENY_COUNT ∨ a = Reg.DOM_DENY_LAST ∨ a = Reg.INT_RAW Page.DOM) ∧
        s.sameMemory t)) ∧
    (∀ (lo hi : W32), s.gwyState n = 1 → (s.gwyChan n).inc = false → (s.gwyChan n).addr % 8 ≠ 0 →
      Answers (.gangwayDataWrite (Dom.ofCode n) n lo (some hi)) s (fun t => t.rd (Reg.GWY_STATUS n) = 0x303 ∧
        s.onlyRegs t (fun a => a / 0x1000 = Page.GWY n) ∧ s.sameMemory t))

/-- The endpoints: their reset inputs, function-level reset, readiness, links and power states (R349, R351, R404,
R406, R407, R421, R444). The mask of every vector after reset is presumed from PCI Express (log entry 45), and the
Pending Bit Array at PERST is the model's reading (log entry 46). -/
def Obligations.EndpointEvents : Prop :=
  ∀ (s : State) (q : Nat), q < 2 →
    Answers (.perstAssert q) s (fun t => (t.ep q).perst = true ∧ (t.ep q).ready = false ∧ (t.ep q).busMaster = false ∧
      (t.ep q).unmasked = [] ∧ (t.ep q).vecMap = (s.ep q).vecMap ∧ t.rd (Reg.PCI_LINK_STATUS q) = 0 ∧
      (s.gwyState q = 1 → t.rd (Reg.GWY_STATUS q) = 0x903 ∧ t.bitAt (Reg.INT_RAW (Page.GWY q)) 1 = true) ∧
      s.onlyRegs t (fun a => a / 0x1000 = Page.PCI q ∨ a / 0x1000 = Page.GWY q) ∧ s.sameMemory t) ∧
    ((s.ep q).perst = true → Answers (.perstRelease q) s (fun t => (t.ep q).perst = false ∧
      (t.ep q).readyBy = some s.readyLimit ∧ s.onlyRegs t (fun _ => False) ∧ s.sameMemory t)) ∧
    Answers (.functionLevelReset q) s (fun t => (t.ep q).perst = (s.ep q).perst ∧ (t.ep q).ready = false ∧
      (t.ep q).readyBy = some s.readyLimit ∧ (t.ep q).busMaster = false ∧ (t.ep q).unmasked = [] ∧
      t.rd (Reg.PCI_LINK_STATUS q) = 0 ∧ (s.gwyState q = 1 → t.rd (Reg.GWY_STATUS q) = 0x903) ∧
      s.onlyRegs t (fun a => a / 0x1000 = Page.PCI q ∨ a / 0x1000 = Page.GWY q) ∧ s.sameMemory t) ∧
    (∀ speed width, (s.ep q).perst = false → (s.ep q).ready = false → s.moor.pwrgoodAt ≠ none → s.moor.resetLow = false →
      Answers (.pcieReady q speed width) s (fun t => (t.ep q).ready = true ∧ (t.ep q).readyBy = none ∧
        t.rd (Reg.PCI_LINK_STATUS q) = speed % 8 + width % 32 * 8 + 256 ∧
        ((s.ep (1 - q)).ready = true → s.bitAt Reg.BOOT_STATUS 3 = false → t.bitAt Reg.BOOT_STATUS 3 = true ∧
          t.rd Reg.BOOT_PCIE_READY_US = (s.clk - s.moor.t0) / 1000 % 2 ^ 32) ∧
        s.onlyRegs t (fun a => a = Reg.PCI_LINK_STATUS q ∨ a = Reg.BOOT_STATUS ∨ a = Reg.BOOT_PCIE_READY_US) ∧
        s.sameMemory t)) ∧
    Answers (.d3hotEntry q) s (fun t => t.bitAt (Reg.PCI_LINK_STATUS q) 9 = true ∧ t.canSend q = false ∧
      (s.gwyState q = 1 → t.rd (Reg.GWY_STATUS q) = 0x903 ∧ t.bitAt (Reg.INT_RAW (Page.GWY q)) 1 = true) ∧
      s.onlyRegs t (fun a => a = Reg.PCI_LINK_STATUS q ∨ a / 0x1000 = Page.GWY q) ∧ s.sameMemory t) ∧
    (∀ c, c = .pcieLinkDown q ∨ c = .pcieRefclkLoss q → Answers c s (fun t =>
      t.bitAt (Reg.PCI_LINK_STATUS q) 8 = false ∧ t.canSend q = false ∧
      (s.bitAt (Reg.PCI_LINK_STATUS q) 8 = true → t.bitAt (Reg.INT_RAW (Page.PCI q)) 0 = true) ∧
      s.onlyRegs t (fun a => a = Reg.PCI_LINK_STATUS q ∨ a = Reg.INT_RAW (Page.PCI q)) ∧ s.sameMemory t)) ∧
    Answers (.barUnsupported q true) s (fun t =>
      t.rd (Reg.PCI_AER_COUNT q) = min (s.rd (Reg.PCI_AER_COUNT q) + 1) 0xFFFFFFFF ∧
      s.onlyRegs t (fun a => a = Reg.PCI_AER_COUNT q) ∧ s.sameMemory t) ∧
    Answers (.barUnsupported q false) s (fun t => t.sends (.unsupported q) ∧ s.onlyRegs t (fun _ => False) ∧ s.sameMemory t)

/-- The MSI-X messages of an endpoint: an end-of-interrupt, the end of a hold-off, a cleared mask and Bus Master
Enable send what is still pending (R404, R407, R420). Bus Master Enable as an operand of MSIX_VECTOR_UNMASK is the
model's choice (log entry 45). -/
def Obligations.MessagesThatWaited : Prop :=
  ∀ (s : State) (q v : Nat), q < 2 → v < 64 →
    (∀ d, s.writable d (Page.PCI q) → s.allSignalled → v ∈ s.pendingVecs q → s.canSend q = true → v ∈ (s.ep q).unmasked →
      (s.ep q).lastMsg.find? (fun x => x.1 = v) = none → Answers (.vecEoi d q v) s (fun t => t.sends (.msix q v) ∧
        v ∉ (t.ep q).pba ∧ v ∉ (t.ep q).heldBack ∧ s.onlyRegs t (fun _ => False) ∧ s.sameMemory t)) ∧
    (∀ t0, v ∈ (s.ep q).heldBack → (s.ep q).lastMsg.find? (fun x => x.1 = v) = some (v, t0) →
      t0 + 1000 * s.rd (Reg.PCI_VEC_HOLDOFF q) ≤ s.clk → s.canSend q = true → v ∈ (s.ep q).unmasked → s.allSignalled →
      Answers (.msixHoldoffEnd q v) s (fun t => v ∉ (t.ep q).heldBack ∧ (v ∈ s.pendingVecs q → t.sends (.msix q v)) ∧
        s.onlyRegs t (fun _ => False) ∧ s.sameMemory t)) ∧
    (s.allSignalled → s.canSend q = true → (s.ep q).pba = [v] → v ∉ (s.ep q).unmasked → v ∈ s.pendingVecs q →
      (s.ep q).lastMsg.find? (fun x => x.1 = v) = none → Answers (.msixVectorUnmask q (.mask v false)) s (fun t =>
        t.sends (.msix q v) ∧ (t.ep q).pba = [] ∧ v ∈ (t.ep q).unmasked ∧ s.onlyRegs t (fun _ => False) ∧ s.sameMemory t)) ∧
    Answers (.msixVectorUnmask q (.mask v true)) s (fun t => v ∉ (t.ep q).unmasked ∧ s.onlyRegs t (fun _ => False) ∧
      s.sameMemory t) ∧
    Answers (.msixVectorUnmask q (.busMaster false)) s (fun t => (t.ep q).busMaster = false ∧
      (∀ w ∈ s.pendingVecs q, w ∈ (t.ep q).pba) ∧ s.onlyRegs t (fun _ => False) ∧ s.sameMemory t) ∧
    (∀ speed width, speed < 8 → width < 32 → Answers (.msixVectorUnmask q (.linkUp speed width)) s (fun t =>
      t.bitAt (Reg.PCI_LINK_STATUS q) 8 = true ∧ t.fld (Reg.PCI_LINK_STATUS q) 2 0 = speed ∧
      t.fld (Reg.PCI_LINK_STATUS q) 7 3 = width ∧ s.onlyRegs t (fun a => a = Reg.PCI_LINK_STATUS q) ∧ s.sameMemory t))

/-- The PTP messages of the Datum that the selected master sends, and the exchange with it (R74, R75, R77): what each
of them records, and that no register outside the DTM page, no page header and no memory changes with it. The
intervals of messages and the precision are the model's (log entries 5 and 29). -/
def Obligations.PtpMessagesReachTheDatum : Prop :=
  ∀ s : State,
    (∀ m : PtpSync, s.ptpForeign m.hdr = false → s.ptpUsed m.hdr = true → s.dtmSource = 0 →
      s.dtm.master = some m.hdr.src → Answers (.syncRx m) s (fun t =>
        t.dtm.lastSync = some (s.clk, m.logInterval) ∧
        (m.twoStep = true → ∃ r, t.dtm.syncWait = r :: s.dtm.syncWait ∧ r.seq = m.hdr.seq ∧
          r.t2 = s.rxTime m.hdr.port m.stamp) ∧
        (m.twoStep = false → ∃ r, t.dtm.syncDone = some r ∧ r.seq = m.hdr.seq ∧
          r.base = (s.rxTime m.hdr.port m.stamp - m.t1) * 65536 - m.corr) ∧
        s.onlyRegs t (fun _ => False) ∧ s.sameMemory t)) ∧
    (∀ (m : PtpFollowUp) (r : SyncRec), s.ptpForeign m.hdr = false → s.ptpUsed m.hdr = true →
      s.dtm.syncWait.find? (fun x => x.seq = m.hdr.seq && x.src = m.hdr.src) = some r →
      s.rxTime m.hdr.port m.stamp ≤ r.t2 + 1000000000 → Answers (.followUpRx m) s (fun t =>
        t.dtm.syncDone = some { r with base := r.base - m.t1 * 65536 - m.corr } ∧
        (∀ x, x ∈ t.dtm.syncWait → ¬(x.seq = r.seq ∧ x.src = r.src)) ∧
        s.onlyRegs t (fun _ => False) ∧ s.sameMemory t)) ∧
    (∀ seq, (∃ r ∈ s.dtm.syncWait, r.seq = seq ∧ r.t2 + 1000000000 < (s.now : Int)) →
      Answers (.followUpTimeout seq) s (fun t => (∀ x, x ∈ t.dtm.syncWait → x.seq ≠ seq) ∧
        t.rd Reg.DTM_MSG_DROP = min (s.rd Reg.DTM_MSG_DROP + 1) 0xFFFFFFFF ∧
        s.onlyRegs t (fun a => a = Reg.DTM_MSG_DROP) ∧ s.sameMemory t)) ∧
    (∀ stamp, s.dtmEn = true → s.dtmSource = 0 → s.dtm.master ≠ none → s.dtm.delayNext ≤ s.clk →
      Answers (.delayReqSend stamp) s (fun t =>
        t.dtm.delayReq = some { seq := s.dtm.delaySeq, t3 := s.txTime s.ptpPort stamp, sync := s.dtm.syncDone } ∧
        t.dtm.delaySeq = (s.dtm.delaySeq + 1) % 65536 ∧ s.clk < t.dtm.delayNext ∧
        t.sends (.delayReq s.ptpPort (if s.bitAt Reg.DTM_CTRL 6 then s.dtm.master else none) s.dtm.delaySeq) ∧
        s.onlyRegs t (fun _ => False) ∧ s.sameMemory t)) ∧
    (∀ (m : PtpDelayResp) (q : DelayReqRec) (r : SyncRec), s.ptpForeign m.hdr = false → s.ptpUsed m.hdr = true →
      s.dtmSource = 0 → s.dtm.master = some m.hdr.src → s.dtm.delayReq = some q → q.seq = m.hdr.seq →
      q.sync = some r → Answers (.delayRespRx m) s (fun t =>
        t.dtm.delayReq = none ∧ t.dtm.logMinDelayReq = m.logMinDelayReq ∧
        t.dtm.delays = ((r.base + ((m.t4 - q.t3) * 65536 - m.corr)) :: s.dtm.delays).take (s.rd Reg.DTM_DELAY_FILT) ∧
        t.rd Reg.DTM_PATH_DELAY = bitsOfInt 32 (medianDelay t.dtm.delays / 2 ^ 18) ∧
        (s.dtmState ≠ 0 → s.onlyRegs t (fun a => a / 0x1000 = Page.DTM)) ∧ s.sameMemory t)) ∧
    (∀ m : PtpAnnounce, s.ptpForeign m.hdr = false → s.ptpUsed m.hdr = true → Answers (.announceRx m) s (fun t =>
        (∃ f, f ∈ t.dtm.foreign ∧ f.src = m.hdr.src ∧ f.ann = m ∧ s.clk ∈ f.times) ∧
        (∀ b, bestMaster s.clk t.dtm.foreign = some b → t.dtm.master = some b.src ∧
          t.rd64 Reg.DTM_GM_ID_LO Reg.DTM_GM_ID_HI = b.ann.gmId % 2 ^ 64) ∧
        s.onlyRegs t (fun a => a / 0x1000 = Page.DTM) ∧ s.sameMemory t)) ∧
    (∀ id f, s.dtm.master = some id → s.dtm.foreign.find? (fun f => f.src = id) = some f →
      f.times.headD 0 + s.rd Reg.DTM_ANN_TIMEOUT * log2Ns f.ann.logInterval < s.clk →
      Answers (.announceTimeout) s (fun t => (∀ g, g ∈ t.dtm.foreign → g.src ≠ id) ∧ t.dtm.master ≠ some id ∧
        (s.dtmSource = 0 → s.dtmState ≠ 0 → t.dtmState = 3) ∧
        s.onlyRegs t (fun a => a / 0x1000 = Page.DTM) ∧ s.sameMemory t)) ∧
    (∀ at_ k, s.dtm.lastSync = some (at_, k) → s.dtmEn = true → s.dtmSource = 0 → at_ + 4 * log2Ns k < s.clk →
      s.dtmState ≠ 0 → Answers (.syncTimeout) s (fun t => t.dtmState = 3 ∧
        s.onlyRegs t (fun a => a / 0x1000 = Page.DTM) ∧ s.sameMemory t))

/-- The pins of the Datum and its timers: PPS_IN, PPS_OUT, FRAME_SYNC_OUT, the phase ticks, the leap second and the
step that no gate took up (R79, R81, R84 to R88). Time stands still during a command (log entry 3), and the arming of
FRAME_SYNC_OUT is the model's reading (log entry 30). -/
def Obligations.DatumPinsAndTimers : Prop :=
  ∀ s : State,
    (∀ highNs err, 100 ≤ highNs → (∀ e, s.dtm.lastEdge = some e → e + 500000000 ≤ s.clk) →
      Answers (.ppsInEdge highNs err) s (fun t => t.dtm.lastEdge = some s.clk ∧
        t.rd64 Reg.DTM_PPS_IN_TS_LO Reg.DTM_PPS_IN_TS_HI =
          (((s.now : Int) + max (-4) (min err 4)) % (2 ^ 64 : Int)).toNat ∧ s.sameMemory t)) ∧
    (∀ e, s.dtmEn = true → s.dtmSource = 1 → s.dtmState ≠ 0 → s.dtm.lastEdge = some e → s.dtm.ppsSince = none →
      e + 1500000000 < s.clk → Answers .ppsInTimeout s (fun t => t.dtmState = 3 ∧
        s.onlyRegs t (fun a => a / 0x1000 = Page.DTM) ∧ s.sameMemory t)) ∧
    (s.bitAt Reg.DTM_PPS_OUT_CFG 0 = true → s.dtmState ≠ 0 →
      s.dtm.ppsOutLast ≠ some (((s.now : Int) - s.rd Reg.DTM_PPS_OUT_OFFSET) / 1000000000) →
      Answers .ppsOutPulse s (fun t =>
        t.sends (.ppsOut (1000 * (if s.fld Reg.DTM_PPS_OUT_CFG 31 12 = 0 then 1000 else s.fld Reg.DTM_PPS_OUT_CFG 31 12))) ∧
        s.onlyRegs t (fun _ => False) ∧ s.sameMemory t)) ∧
    (∀ at_, s.dtm.fsyncAt = some at_ → at_ ≤ s.now → Answers .frameSyncOut s (fun t => t.sends .frameSync ∧
        t.dtm.fsyncAt = none ∧ t.dtm.fsyncUntil = s.clk + 1000 ∧ s.onlyRegs t (fun _ => False) ∧ s.sameMemory t)) ∧
    (∀ at_, s.dtm.approved = some at_ → at_ + 34000000 ≤ s.clk → Answers .stepApproveTimeout s (fun t =>
        t.dtm.approved = none ∧ t.dtmState = 1 ∧ t.bitAt (Reg.INT_RAW Page.DTM) 4 = true ∧ t.dtm.integ = 0 ∧
        t.dtm.time = (((s.dtm.time : Int) - signedOf 64 (s.rd64 Reg.DTM_JUMP_PEND_LO Reg.DTM_JUMP_PEND_HI)) %
          (2 ^ 64 : Int)).toNat)) ∧
    (s.rd Reg.DTM_PHASE_PERIOD ≠ 0 → s.dtm.phaseIdx < s.phaseIndex s.now → Answers .phaseTick s (fun t =>
        t.dtm.phaseIdx = s.phaseIndex s.now ∧
        t.seq.tick = some s.clk ∧
        s.onlyRegs t (fun _ => False) ∧ s.sameMemory t)) ∧
    (∀ at_ new, s.dtm.leapAt = some (at_, new) → at_ ≤ s.now → Answers .utcOffsetChange s (fun t =>
        t.dtm.leapAt = none ∧
        (s.bitAt Reg.DTM_UTC_OFFSET 31 = false → t.fld Reg.DTM_UTC_OFFSET 15 0 = new % 65536) ∧
        s.onlyRegs t (fun a => a = Reg.DTM_UTC_OFFSET ∧ s.bitAt Reg.DTM_UTC_OFFSET 31 = false) ∧ s.sameMemory t))

/-- What a host's write of each Datum control does: the step approval (R81), DTM_CTRL (R79), the time to set (R85) and
the phase schedule (R88). -/
def Obligations.DatumControlWrites : Prop :=
  ∀ (s : State) (d : Dom) (v : W32), s.writable d Page.DTM →
    (bit v.toNat 0 = true → Answers (.stepApprove d v) s (fun t =>
      (s.dtmState = 4 ∧ bits v.toNat 31 16 = s.fld Reg.DTM_JUMP_PEND_LO 15 0 →
        t.dtm.approved = some s.clk ∧ t.bitAt Reg.DTM_STATUS 6 = false) ∧
      (¬(s.dtmState = 4 ∧ bits v.toNat 31 16 = s.fld Reg.DTM_JUMP_PEND_LO 15 0) →
        t.dtm.approved = s.dtm.approved ∧ t.bitAt Reg.DTM_STATUS 6 = true) ∧
      s.onlyRegs t (fun a => a = Reg.DTM_STATUS) ∧ s.sameMemory t)) ∧
    (admits Reg.DTM_CTRL v → Answers (.dtmCtrlWrite d v) s (fun t => t.rd Reg.DTM_CTRL = kept Reg.DTM_CTRL v ∧
      (s.dtmEn ≠ bit v.toNat 0 → t.dtmState = 0 ∧ t.dtm.freq = 0 ∧ t.dtm.master = none) ∧
      s.onlyRegs t (fun a => a / 0x1000 = Page.DTM) ∧ s.sameMemory t)) ∧
    (s.dtmState = 0 → Answers (.timeSetWrite d v) s (fun t =>
      t.dtm.timeSet = some (s.rd Reg.DTM_TIME_SET_LO + 2 ^ 32 * v.toNat) ∧
      s.onlyRegs t (fun _ => False) ∧ s.sameMemory t)) ∧
    (v.toNat = 0 ∨ (4167000 ≤ v.toNat ∧ v.toNat ≤ 33333333) → Answers (.phasePeriodWrite d v) s (fun t =>
      t.rd Reg.DTM_PHASE_PERIOD = v.toNat ∧ t.dtm.phaseIdx = t.phaseIndex s.now ∧
      s.onlyRegs t (fun a => a = Reg.DTM_PHASE_PERIOD) ∧ s.sameMemory t)) ∧
    (¬(v.toNat = 0 ∨ (4167000 ≤ v.toNat ∧ v.toNat ≤ 33333333)) → Answers (.phasePeriodWrite d v) s (fun t =>
      t.bitAt (Reg.INT_RAW Page.DTM) 6 = true ∧ s.onlyRegs t (fun a => a = Reg.INT_RAW Page.DTM) ∧ s.sameMemory t)) ∧
    Answers (.phaseOffsetWrite d v) s (fun t => t.rd Reg.DTM_PHASE_OFFSET = v.toNat ∧
      t.dtm.phaseIdx = t.phaseIndex s.now ∧ s.onlyRegs t (fun a => a = Reg.DTM_PHASE_OFFSET) ∧ s.sameMemory t)

/-- The Ethernet ports: a link that drops or comes up (R49, R79), what the classifier makes of a frame that passes the
checks of R51 and of one that fails its FCS; EREFCLK stops and returns: the links drop, the Datum goes on from CK_HK
in HOLDOVER, and counts from EREFCLK again (R79, R444). That HOLDOVER follows whatever SOURCE holds is the model's
reading (log entry 30). -/
def Obligations.EthernetPortsAndReference : Prop :=
  (∀ s : State,
      (∀ p, s.bitAt (Reg.ETH_STATUS p) 0 = true → Answers (.ethLinkDown p) s (fun t =>
        t.bitAt (Reg.ETH_STATUS p) 0 = false ∧ t.bitAt (Reg.INT_RAW (Page.ETH p)) 0 = true ∧
        (p = s.ptpPort ∧ s.dtmEn = true ∧ s.dtmSource = 0 ∧ s.dtmState ≠ 0 → t.dtmState = 3) ∧
        (¬(p = s.ptpPort ∧ s.dtmEn = true ∧ s.dtmSource = 0) →
          s.onlyRegs t (fun a => a = Reg.ETH_STATUS p ∨ a = Reg.INT_RAW (Page.ETH p))) ∧ s.sameMemory t)) ∧
      (∀ p, s.bitAt (Reg.ETH_CTRL p) 0 = true → s.dtm.erefclk = true → Answers (.ethLinkUp p) s (fun t =>
        t.bitAt (Reg.ETH_STATUS p) 0 = true ∧
        t.bitAt (Reg.ETH_STATUS p) 2 = (s.bitAt (Reg.ETH_CTRL p) 3 && decide (s.fld (Reg.ETH_CTRL p) 2 1 ≤ 1)) ∧
        s.onlyRegs t (fun a => a = Reg.ETH_STATUS p) ∧ s.sameMemory t)) ∧
      (∀ f i, s.passesR51 f → f.dstPort ≠ 319 → f.dstPort ≠ 320 → s.bitAt Reg.ING_CTRL 0 = true →
        (if f.rtcp then s.matchRtcp f.port f.dstPort f.ssrc else s.matchCtx f.port f.dstPort f.ssrc) = some i →
        Answers (.ethRxFrame f) s (fun t => t.ing.lastRx = .scene i ∧
          t.rd (Reg.ETH_RX_FRAMES f.port) = (s.rd (Reg.ETH_RX_FRAMES f.port) + 1) % 2 ^ 32 ∧
          s.onlyRegs t (fun a => a = Reg.ETH_RX_FRAMES f.port) ∧ s.sameMemory t)) ∧
      (∀ f, s.passesR51 f → f.dstPort = 319 ∨ f.dstPort = 320 → ptpUnsupported f.ptpType = false →
        Answers (.ethRxFrame f) s (fun t => t.ing.lastRx = .ptp ∧ s.sameMemory t)) ∧
      (∀ f, s.bitAt (Reg.ETH_CTRL f.port) 0 = true → s.shut = false → f.fcsOk = false → f.port < 4 →
        Answers (.ethRxFrame f) s (fun t => t.ing.lastRx = .dropped ∧
          t.rd (Reg.ETH_RX_ERR f.port) = min (s.rd (Reg.ETH_RX_ERR f.port) + 1) 0xFFFFFFFF ∧
          s.onlyRegs t (fun a => a = Reg.ETH_RX_FRAMES f.port ∨ a = Reg.ETH_RX_ERR f.port) ∧ s.sameMemory t))) ∧
    (∀ s : State,
      Answers .erefclkLoss s (fun t => t.dtm.erefclk = false ∧ t.dtm.time = s.dtm.time ∧
        (∀ p, p < 4 → s.bitAt (Reg.ETH_STATUS p) 0 = true → t.bitAt (Reg.ETH_STATUS p) 0 = false ∧
          t.bitAt (Reg.INT_RAW (Page.ETH p)) 0 = true) ∧
        (s.dtmEn = true → s.dtmState = 1 ∨ s.dtmState = 2 ∨ s.dtmState = 4 → t.dtmState = 3 ∧
          t.bitAt (Reg.INT_RAW Page.DTM) 2 = true) ∧
        (s.dtmEn = false → t.dtmState = s.dtmState) ∧
        s.sameRegs t (fun a => a / 0x1000 = Page.DTM ∨ ∃ p, p < 4 ∧ a / 0x1000 = Page.ETH p) ∧ s.sameMemory t) ∧
      Answers .erefclkReturn s (fun t => t.dtm = { s.dtm with erefclk := true } ∧ s.onlyRegs t (fun _ => False) ∧
        s.sameMemory t))

/-- R54: a datagram goes to the open context that admits its port and has its UDP port and SSRC; one that matches none
is dropped and counted, and its port and SSRC are stored over the previous values; a context that shares a port,
UDP_PORT and SSRC with an open one does not open. -/
def Obligations.DatagramsMatchTheirContext : Prop :=
  ∀ s : State,
    (∀ f : EthFrame, s.passesR51 f → f.dstPort ≠ 319 → f.dstPort ≠ 320 → s.bitAt Reg.ING_CTRL 0 = true → f.rtcp = false →
      f.port < 4 →
      (∀ i, s.ctxState i = 1 → s.ctxPortOk i f.port = true → s.ctxF i 0x08 2 = f.dstPort → s.ctxF i 0x0C 4 = f.ssrc →
        (∀ j, j ≠ i → s.ctxState j = 1 → s.ctxPortOk j f.port = true → s.ctxF j 0x08 2 = f.dstPort →
          s.ctxF j 0x0C 4 ≠ f.ssrc) →
        Answers (.ethRxFrame f) s (fun t => t.ing.lastRx = .scene i ∧
          s.onlyRegs t (fun a => a = Reg.ETH_RX_FRAMES f.port) ∧ s.sameMemory t)) ∧
      ((∀ i, s.ctxState i = 1 → s.ctxPortOk i f.port = true → s.ctxF i 0x08 2 = f.dstPort → s.ctxF i 0x0C 4 ≠ f.ssrc) →
        Answers (.ethRxFrame f) s (fun t => t.ing.lastRx = .dropped ∧
          t.rd Reg.ING_UNMATCHED_COUNT = min (s.rd Reg.ING_UNMATCHED_COUNT + 1) 0xFFFFFFFF ∧
          t.rd Reg.ING_UNMATCHED_LAST = f.port ∧ t.rd Reg.ING_UNMATCHED_SSRC = f.ssrc % 2 ^ 32 ∧
          s.onlyRegs t (fun a => a = Reg.ETH_RX_FRAMES f.port ∨ a = Reg.ING_UNMATCHED_COUNT ∨
            a = Reg.ING_UNMATCHED_LAST ∨ a = Reg.ING_UNMATCHED_SSRC) ∧ s.sameMemory t))) ∧
    (∀ d c j p, s.writable d Page.ING → c < 1024 → j ≠ c → s.ctxState j = 1 → s.ctxPortOk c p = true →
      s.ctxPortOk j p = true → s.ctxF c 0x08 2 = s.ctxF j 0x08 2 → s.ctxF c 0x0C 4 = s.ctxF j 0x0C 4 →
      Answers (.ctxOpen d c) s (fun t => t.fld Reg.ING_CTX_STATUS 7 4 ≠ 0 ∧
        s.onlyRegs t (fun a => a = Reg.ING_CTX_STATUS) ∧ s.sameMemory t))

/-- Opening, closing and draining stream contexts, and the alignment groups (R53, R56, R67, R68). The order of the
checks of OPEN and its completion at once are the model's reading (log entry 25). -/
def Obligations.ContextsAndGroups : Prop :=
  ∀ (s : State) (d : Dom), s.writable d Page.ING →
    (∀ c, c < 1024 → s.ctxOpenCode c = 0 → Answers (.ctxOpen d c) s (fun t => t.ctxState c = 1 ∧
      t.ctxGen c = (s.ctxGen c + 1) % 256 ∧ t.rd Reg.ING_CTX_STATUS = c * 0x10000)) ∧
    (∀ c, c < 1024 → s.ctxOpenCode c ≠ 0 → Answers (.ctxOpen d c) s (fun t =>
      t.rd Reg.ING_CTX_STATUS = s.ctxOpenCode c * 16 + c * 0x10000 ∧
      s.onlyRegs t (fun a => a = Reg.ING_CTX_STATUS) ∧ s.sameMemory t)) ∧
    (∀ c, c < 1024 → s.ctxState c = 1 → Answers (.ctxClose d c) s (fun t =>
      (t.ctxState c = 0 ∨ t.ctxState c = 2) ∧ t.rd Reg.ING_CTX_STATUS = c * 0x10000)) ∧
    (∀ c, c < 1024 → s.ctxState c ≠ 1 → Answers (.ctxClose d c) s (fun t =>
      t.rd Reg.ING_CTX_STATUS = 7 * 16 + c * 0x10000 ∧
      s.onlyRegs t (fun a => a = Reg.ING_CTX_STATUS) ∧ s.sameMemory t)) ∧
    (∀ c, s.ctxState c = 2 → (s.ctx c).drained = true → Answers (.ctxDrainDone c) s (fun t => t.ctxState c = 0 ∧
      s.onlyRegs t (fun _ => False))) ∧
    (∀ g v, g < 64 → s.open (Reg.ING_GROUP_CFG g) → admits (Reg.ING_GROUP_CFG g) v →
      Answers (.groupCfgWrite d g v) s (fun t => t.rd (Reg.ING_GROUP_CFG g) = kept (Reg.ING_GROUP_CFG g) v ∧
        (t.group g).width = 1000 * bits (kept (Reg.ING_GROUP_CFG g) v) 19 0 ∧
        (bit (kept (Reg.ING_GROUP_CFG g) v) 31 = false → (t.group g).opens = []) ∧
        s.onlyRegs t (fun a => a = Reg.ING_GROUP_CFG g) ∧ s.sameMemory t)) ∧
    (∀ g, (∃ x ∈ (s.group g).opens, x.deadline < (s.now : Int)) → Answers (.groupCloseIncomplete g) s (fun t =>
      (∀ x ∈ (t.group g).opens, (s.now : Int) ≤ x.deadline) ∧ s.onlyRegs t (fun _ => False) ∧ s.sameMemory t))

/-- Received RTP and RTCP, the assembly deadline and the receiver report (R55, R60, R61, R63, R65). The order of the
repeat and lateness tests and the precedence of UDP_PORT for RTCP are the model's reading (log entries 24 and 27). -/
def Obligations.RtpReception : Prop :=
  ∀ s : State,
    (∀ p i, s.bitAt Reg.ING_CTRL 0 = true → s.shut = false → s.matchCtx p.port p.udpPort p.ssrc = some i →
      s.ctxType i ≤ 1 → p.version = 2 → p.pt = bits (s.ctxF i 0x07 1) 6 0 → p.nalType < 50 →
      Answers (.rtpPacketRx p) s (fun t => (t.ctx i).received = (s.ctx i).received + 1 ∧
        ((s.ctx i).recent.contains p.seq = true →
          t.rd Reg.ING_DUP_PKT_COUNT = min (s.rd Reg.ING_DUP_PKT_COUNT + 1) 0xFFFFFFFF ∧
          s.onlyRegs t (fun a => a = Reg.ING_DUP_PKT_COUNT) ∧ (t.ctx i).aus = (s.ctx i).aus))) ∧
    (∀ p i, s.bitAt Reg.ING_CTRL 0 = true → s.shut = false → s.matchCtx p.port p.udpPort p.ssrc = some i →
      s.ctxType i ≤ 1 → p.version ≠ 2 ∨ p.pt ≠ bits (s.ctxF i 0x07 1) 6 0 → Answers (.rtpPacketRx p) s (fun t =>
        t.rd Reg.ING_BAD_RTP_COUNT = min (s.rd Reg.ING_BAD_RTP_COUNT + 1) 0xFFFFFFFF ∧
        s.onlyRegs t (fun a => a = Reg.ING_BAD_RTP_COUNT) ∧ s.sameMemory t)) ∧
    (∀ c u r, (s.ctx c).aus = u :: r → u.deadline < s.now → Answers (.asmDeadline c) s (fun t =>
      (t.ctx c).aus.length ≤ r.length)) ∧
    (∀ r i, s.bitAt Reg.ING_CTRL 0 = true → s.shut = false → s.matchRtcp r.port r.udpPort r.ssrc = some i → s.ctxType i ≤ 1 →
      s.ctxTsMap i = 0 → (s.ctx i).srMapped = false → Answers (.rtcpSrRx r) s (fun t =>
        (t.ctx i).srMapped = true ∧ t.ctxF i 0x18 4 = r.rtpTs % 2 ^ 32 ∧
        t.ctxF i 0x20 8 = Int.toNat (((r.ntpSec : Int) - 2208988800 + s.fld Reg.DTM_UTC_OFFSET 15 0) * 1000000000 +
          (r.ntpFrac * 1000000000 / 2 ^ 32 : Nat)) % 2 ^ 64 ∧ s.onlyRegs t (fun _ => False))) ∧
    (∀ c port mac ip, s.shut = false → (s.ctx c).src = some (port, mac, ip) → s.ctxState c = 1 → bit (s.ctxF c 0 4) 9 = true →
      s.ctxF c 0x0A 2 ≠ 0 → (s.ctx c).rrAt ≤ s.clk → Answers (.rtcpRrSend c) s (fun t =>
        (t.ctx c).rrAt = s.clk + 1000000 * s.rd Reg.ING_RTCP_INTERVAL ∧
        (∃ frac lost lsr dlsr cname, t.sends (.receiverReport port (s.ctxF c 0x08 2) (s.ctxF c 0x0A 2) mac ip
          (s.ctxF c 0x0C 4) frac lost ((s.ctx c).extSeq % 2 ^ 32) ((s.ctx c).jitter16 / 16) lsr dlsr cname)) ∧
        s.onlyRegs t (fun _ => False) ∧ s.sameMemory t))

/-- The decoder: parameter sets, slices, preemption, the watchdog, complete pictures and a depth picture that did not
come (R92, R94, R97, R99, R101, R107, R111). The attribution of errors and the length of a core's reset are the
model's reading (log entry 8). -/
def Obligations.DecoderEvents : Prop :=
  ∀ s : State,
    (∀ c p, s.ctxState c = 1 → s.ctxType c ≤ 1 → Answers (.paramSetDecoded c p) s (fun t =>
      (t.ctx c).refused = s.paramCode c p ∧
      (s.paramCode c p = 0 → ∃ r, (t.ctx c).sps = some r ∧ r.width = p.width ∧ r.height = p.height ∧
        r.chromaIdc = p.chromaIdc ∧ r.views = p.views) ∧
      (s.paramCode c p ≠ 0 → (t.ctx c).sps = none))) ∧
    (∀ core r i j rest, s.shut = false → (s.core core).run = some i → (s.ctx i).jobs = j :: rest →
      s.ctxState i = 1 → s.ctxGen i = j.gen → r.code = 0 → Answers (.sliceDecoded core r) s (fun t =>
        ∃ j' rest', (t.ctx i).jobs = j' :: rest' ∧ j'.ts = j.ts ∧ j'.slices = j.slices.drop 1)) ∧
    (∀ core i n, awf (fun _ => ({} : CtxRun)) s.ing.ctxs = true → s.shut = false → (s.core core).run = some i → s.nextSlice core = some n → s.ctxClass i ≠ 0 →
      s.ctxClass n = 0 → Answers (.slicePreempt core) s (fun t => (t.core core).run = some n ∧
        s.onlyRegs t (fun _ => False) ∧ s.sameMemory t)) ∧
    (∀ core i j y ys rest, core < 32 → s.shut = false → (s.core core).run = some i → (s.ctx i).jobs = j :: rest →
      j.slices = y :: ys →
      s.rd Reg.DEC0_CORE_TIMEOUT * sliceNs y.samples < y.activeNs + (s.clk - (s.core core).since) →
      Answers (.coreTimeout core) s (fun t => t.bitAt (Reg.INT_RAW (Page.DEC (core / 4))) 1 = true ∧
        (t.core core).resetUntil = s.clk + 20000 ∧ s.sameMemory t)) ∧
    (∀ c views j rest cap k p, s.shut = false → (s.ctx c).jobs = j :: rest → j.handed = some cap → j.slices = [] →
      s.ctxState c = 1 → s.ctxGen c = j.gen → j.slot = some k → (s.ctx c).sps = some p →
      Answers (.pictureComplete c views) s (fun t => (t.ctx c).picSeq = ((s.ctx c).picSeq + 1) % 2 ^ 32)) ∧
    (∀ c w, (s.ctx c).pairWait.find? (fun w => decide (w.deadline < s.clk)) = some w →
      Answers (.depthPairTimeout c) s (fun t => ∀ x ∈ (t.ctx c).pairWait, x.ts ≠ w.ts))

/-- The panel map: validation, its result, the request for another bank, and the copy in flash (R40 to R42, R48, R233,
R354). The order of the checks and the use of the flash copies are the model's reading (log entry 22). -/
def Obligations.PanelMapAndModeRequest : Prop :=
  ∀ s : State,
    (∀ (d : Dom) (v : W32), s.writable d Page.SEQ → bit v.toNat 31 = true → s.bitAt Reg.SEQ_PMAP_STATUS 3 = false →
      Answers (.pmapValidate d v) s (fun t => t.seq.validating = some (v.toNat % 2) ∧
        t.bitAt Reg.SEQ_PMAP_STATUS 3 = true ∧ s.onlyRegs t (fun a => a = Reg.SEQ_PMAP_STATUS) ∧ s.sameMemory t)) ∧
    (∀ (d : Dom) (v : W32), s.writable d Page.SEQ → bit v.toNat 31 = false ∨ s.bitAt Reg.SEQ_PMAP_STATUS 3 = true →
      Answers (.pmapValidate d v) s (fun t => t.seq = s.seq ∧ s.onlyRegs t (fun _ => False) ∧ s.sameMemory t)) ∧
    (∀ b, b < 2 → s.seq.validating = some b → s.seq.bootMap = false → Answers .pmapValidateDone s (fun t =>
      t.bitAt Reg.SEQ_PMAP_STATUS 3 = false ∧ t.seq.validating = none ∧
      (s.seq.modified = true → t.fld Reg.SEQ_PMAP_STATUS 15 8 = 0x0E ∧ t.bitAt (Reg.INT_RAW Page.SEQ) 0 = true) ∧
      (∀ c o p, s.seq.modified = false → mapFault (s.pmapLe b) (s.pmapBytes b) = some (c, o, p) → c ≠ 0 →
        t.fld Reg.SEQ_PMAP_STATUS 15 8 = c % 256 ∧ t.rd Reg.SEQ_PMAP_ERR_OFFSET = o % 2 ^ 32 ∧
        t.bitAt (Reg.INT_RAW Page.SEQ) 0 = true) ∧
      (s.seq.modified = false → mapFault (s.pmapLe b) (s.pmapBytes b) = none → ¬(s.mapBank = b ∧ s.seq.hasMap = true) →
        t.fld Reg.SEQ_PMAP_STATUS 15 8 = 0 ∧ t.bitAt Reg.SEQ_PMAP_STATUS (1 + b) = true) ∧
      s.onlyRegs t (fun a => a = Reg.SEQ_PMAP_STATUS ∨ a = Reg.SEQ_PMAP_ERR_OFFSET ∨ a = Reg.INT_RAW Page.SEQ) ∧
      s.sameMemory t)) ∧
    (∀ (d : Dom) (v : W32), s.writable d Page.SEQ → bit v.toNat 31 = true → s.modeReqCode (v.toNat % 2) = 0 →
      Answers (.modeReq d v) s (fun t => t.seq.switch = some (v.toNat % 2, s.seq.hasMap && s.sameGeom, s.clk) ∧
        t.fld Reg.SEQ_MODE_STATUS 2 0 = 3 ∧ t.fld Reg.SEQ_MODE_STATUS 15 8 = 0 ∧
        s.onlyRegs t (fun a => a = Reg.SEQ_MODE_STATUS ∨ a / 0x1000 = Page.LOGB))) ∧
    (∀ (d : Dom) (v : W32), s.writable d Page.SEQ → bit v.toNat 31 = true → s.modeReqCode (v.toNat % 2) ≠ 0 →
      Answers (.modeReq d v) s (fun t => t.fld Reg.SEQ_MODE_STATUS 15 8 = s.modeReqCode (v.toNat % 2) ∧
        t.bitAt (Reg.INT_RAW Page.SEQ) 4 = true ∧ t.seq = s.seq ∧
        s.onlyRegs t (fun a => a = Reg.SEQ_MODE_STATUS ∨ a = Reg.INT_RAW Page.SEQ) ∧ s.sameMemory t)) ∧
    (∀ l, s.active = some l → s.seq.persist = true → s.seq.hasMap = true → Answers .pmapPersist s (fun t =>
      t.seq.persist = false ∧ (t.land l).mapCopy = 1 - (s.land l).mapCopy % 2 ∧
      t.flashBytes l (mapCopyAddr (t.land l).mapCopy) s.mapImage.length = s.mapImage ∧
      (∀ a, a < mapCopyAddr (t.land l).mapCopy → t.flashBytes l a 1 = s.flashBytes l a 1) ∧
      (s.bitAt Reg.HAWS_STATUS 0 = true →
        t.flashBytes l.other (mapCopyAddr (t.land l.other).mapCopy) s.mapImage.length = s.mapImage) ∧
      s.onlyRegs t (fun _ => False)))

/-- The Atlas sheet store: commits and clears of a slot, the result of a validation, and a slot's configuration (R127
to R129, R134, R136). Several slots waiting for validation, and what cancels one, are the model's reading (log entry
31). -/
def Obligations.SheetCommitsAndTheirValidation : Prop :=
  ∀ (s : State) (d : Dom) (k : Nat), k < 64 →
    (s.writable d Page.ATL → s.sheetBit k 2 = false → s.bitAt Reg.ATL_SHEET_STATUS 0 = false → s.sheetEn k = true →
      s.sheetUdp k = false → s.sheetBit k 3 = false →
      Answers (.sheetCommit d k) s (fun t => t.atl.validating = s.atl.validating ++ [k] ∧
        t.bitAt Reg.ATL_SHEET_STATUS 0 = true ∧ t.fld Reg.ATL_SHEET_STATUS 21 16 = k ∧
        s.onlyRegs t (fun a => a = Reg.ATL_SHEET_STATUS) ∧ s.sameMemory t) ∧
      Answers (.sheetClear d k) s (fun t => t.sheetBit k 2 = true ∧ (t.sheetSlot k).clearPend = true ∧
        (t.sheetSlot k).pendAt = s.clk ∧ t.fld Reg.ATL_SHEET_STATUS 15 8 = 0 ∧
        s.onlyRegs t (fun a => a = Reg.ATL_SHEET_STATUS ∨ a = Reg.ATL_SLOT_STATE k) ∧ s.sameMemory t)) ∧
    (s.writable d Page.ATL → s.sheetBit k 2 = true →
      ∀ c ∈ [Instr.sheetCommit d k, Instr.sheetClear d k], Answers c s (fun t =>
        t.fld Reg.ATL_SHEET_STATUS 15 8 = 0x0B ∧ t.bitAt (Reg.INT_RAW Page.ATL) 0 = true ∧ t.atl = s.atl ∧
        s.onlyRegs t (fun a => a = Reg.ATL_SHEET_STATUS ∨ a = Reg.ATL_SLOT_STATE k ∨ a = Reg.INT_RAW Page.ATL) ∧
        s.sameMemory t)) ∧
    (∀ rest, s.atl.validating = k :: rest → Answers .sheetValidateDone s (fun t =>
      t.atl.validating = rest ∧ t.bitAt Reg.ATL_SHEET_STATUS 0 = decide (rest ≠ []) ∧
      (s.atl.modified = true → t.fld Reg.ATL_SHEET_STATUS 15 8 = 0x0A ∧ t.sheetBit k 1 = false) ∧
      (∀ base fault, base = s.sheetBase k (s.inactiveBank k) →
        fault = sheetFault (fun o n => s.dramLe (base + o) n) (fun o n => s.dramBytes (base + o) n) s.sheetBankSize
          (s.bitAt Reg.ATL_CFG 0) → s.atl.modified = false →
        (∀ c o tx ty, fault = some (c, o, tx, ty) → c ≠ 0 → t.fld Reg.ATL_SHEET_STATUS 15 8 = c % 256 ∧
          t.rd Reg.ATL_ERR_OFFSET = o % 2 ^ 32 ∧ t.bitAt (Reg.INT_RAW Page.ATL) 0 = true ∧ t.sheetBit k 1 = false) ∧
        (fault = none → s.dramPoison base (s.dramLe (base + 8) 4) = false → t.sheetBit k 1 = true ∧
          t.sheetBit k 2 = true ∧ (t.sheetSlot k).pendAt = s.clk ∧ t.fld Reg.ATL_SHEET_STATUS 15 8 = 0)) ∧
      s.sameMemory t)) ∧
    (∀ v : W32, s.writable d Page.ATL →
      ¬(bit v.toNat 0 = true ∧ bit v.toNat 1 = true ∧ ∃ j, j < 64 ∧ j ≠ k ∧ s.bitAt (Reg.ATL_SLOT_CFG j) 0 = true ∧
        s.bitAt (Reg.ATL_SLOT_CFG j) 1 = true ∧ s.fld (Reg.ATL_SLOT_CFG j) 25 16 = bits v.toNat 25 16) →
      Answers (.slotCfgWrite d k v) s (fun t => t.rd (Reg.ATL_SLOT_CFG k) = kept (Reg.ATL_SLOT_CFG k) v ∧
        (t.sheetSlot k).asm = none ∧ t.force = s.force ∧
        s.onlyRegs t (fun a => a = Reg.ATL_SLOT_CFG k ∨ a = Reg.ATL_SLOT_STATE k ∨ a = Reg.ATL_UDP_ABANDON_COUNT ∨
          a = Reg.INT_RAW Page.ATL ∨ (a = Reg.ATL_SHEET_STATUS ∧ k ∈ s.atl.validating)) ∧ s.sameMemory t))

/-- Atlas over UDP: a fragment of a new sheet is stored where its offset says, a fragment for no slot is counted, and
a sheet not complete in time is abandoned (R131 to R134). The list of sheets that were given up is the model's reading
(log entry 31). -/
def Obligations.AtlasFragmentsAndTheirTimeout : Prop :=
  ∀ s : State,
    (∀ f i k, s.bitAt Reg.ING_CTRL 0 = true → s.shut = false → s.matchCtx f.port f.udpPort f.streamId = some i →
      s.ctxType i = 2 → s.sheetSlotOf i = some k → s.fragOk f = true → s.sheetBit k 2 = false → s.sheetBit k 3 = false →
      f.sheetSeq ∉ (s.sheetSlot k).dead → (s.sheetSlot k).asm = none → (s.sheetSlot k).lastDone = none →
      s.sheetBase k (s.inactiveBank k) + f.fragOffset + f.data.length ≤ s.capacity →
      Answers (.atlasFragmentRx f) s (fun t => (∃ a, (t.sheetSlot k).asm = some a ∧ a.seq = f.sheetSeq ∧
          a.total = f.totalSize ∧ a.deadline = s.clk + s.ctxAsmNs i ∧ f.fragOffset / 64 ∈ a.covered) ∧
        t.dramBytes (s.sheetBase k (s.inactiveBank k) + f.fragOffset) f.data.length = f.data ∧
        t.sheetBit k 5 = true ∧ t.sheetBit k 1 = false)) ∧
    (∀ f i, s.bitAt Reg.ING_CTRL 0 = true → s.shut = false → s.matchCtx f.port f.udpPort f.streamId = some i →
      s.ctxType i = 2 → (s.sheetSlotOf i = none ∨ s.fragOk f = false) → Answers (.atlasFragmentRx f) s (fun t =>
        t.rd Reg.ATL_UDP_DROP_COUNT = min (s.rd Reg.ATL_UDP_DROP_COUNT + 1) 0xFFFFFFFF ∧ t.atl = s.atl ∧
        s.onlyRegs t (fun a => a = Reg.ATL_UDP_DROP_COUNT) ∧ s.sameMemory t)) ∧
    (∀ k a, k < 64 → (s.sheetSlot k).asm = some a → a.deadline ≤ s.clk → a.complete = false →
      Answers (.sheetAsmTimeout k) s (fun t => (t.sheetSlot k).asm = none ∧ t.sheetBit k 5 = false ∧
        t.rd Reg.ATL_UDP_ABANDON_COUNT = min (s.rd Reg.ATL_UDP_ABANDON_COUNT + 1) 0xFFFFFFFF ∧
        t.bitAt (Reg.INT_RAW Page.ATL) 2 = true ∧
        s.onlyRegs t (fun a => a = Reg.ATL_SLOT_STATE k ∨ a = Reg.ATL_UDP_ABANDON_COUNT ∨ a = Reg.INT_RAW Page.ATL) ∧
        s.sameMemory t))

/-- Layer commits: a commit of the host or of a layer space starts one validation, all layers it names become pending
at once or none does, and the owner codes follow what is written for the layers that are free (R138, R140 to R143).
The cases of log entry 32 are the model's reading. -/
def Obligations.LayerCommitsAndOwners : Prop :=
  ∀ s : State,
    (∀ (d : Dom) (v : W32), s.writable d Page.LAY → bit v.toNat 0 = true → s.rd Reg.LAY_COMMIT_MASK ≠ 0 →
      s.bitAt Reg.LAY_STATUS 0 = false →
      (∀ k ∈ maskLayers (s.rd Reg.LAY_COMMIT_MASK), s.layerOwner k = d ∧ s.layPending k = false) →
      Answers (.layCommit d v) s (fun t => t.lay.check =
          some { mask := s.rd Reg.LAY_COMMIT_MASK, byPage := true, modified := false, snap := s.snapshot Page.LAY } ∧
        t.bitAt Reg.LAY_STATUS 0 = true ∧
        s.onlyRegs t (fun a => a = Reg.LAY_STATUS) ∧ s.sameMemory t)) ∧
    (∀ (d : Dom) (v : W32), s.writable d Page.LAY → bit v.toNat 0 = true → s.rd Reg.LAY_COMMIT_MASK ≠ 0 →
      s.bitAt Reg.LAY_STATUS 0 = true → Answers (.layCommit d v) s (fun t => t.rd Reg.LAY_ERR = 1 ∧
        t.bitAt (Reg.INT_RAW Page.LAY) 0 = true ∧ t.lay.check = s.lay.check ∧
        (∀ k ∈ maskLayers (s.rd Reg.LAY_COMMIT_MASK), (t.layer k).err = 1 ∧ (t.layer k).pendAt = (s.layer k).pendAt) ∧
        s.onlyRegs t (fun a => a = Reg.LAY_ERR ∨ a = Reg.INT_RAW Page.LAY) ∧ s.sameMemory t)) ∧
    (∀ (d : Dom) (k : Nat) (m : W32), k < 32 → s.layerOwner k = d → m.toNat ≠ 0 → s.bitAt Reg.LAY_STATUS 0 = false →
      (∀ j ∈ maskLayers m.toNat, s.layerOwner j = d ∧ s.layPending j = false) →
      Answers (.layerSpaceCommit d k m) s (fun t => t.lay.check =
          some { mask := m.toNat, byPage := false, modified := false, snap := [] } ∧ t.bitAt Reg.LAY_STATUS 0 = true ∧ t.moor.writes = s.moor.writes + 1 ∧
        s.onlyRegs t (fun a => a = Reg.LAY_STATUS) ∧ s.sameMemory t)) ∧
    (∀ (d : Dom) (k : Nat) (m : W32), k < 32 → s.layerOwner k ≠ d → Answers (.layerSpaceCommit d k m) s (fun t =>
        t.lay = s.lay ∧ s.onlyRegs t (fun _ => False) ∧ s.sameMemory t)) ∧
    (∀ c, s.lay.check = some c → Answers .layerValidateDone s (fun t => t.lay.check = none ∧
        t.bitAt Reg.LAY_STATUS 0 = false ∧
        (c.modified = true → t.fld Reg.LAY_ERR 7 0 = 0x0B ∧ t.bitAt (Reg.INT_RAW Page.LAY) 0 = true ∧
          ∀ k, (t.layer k).pendAt = (s.layer k).pendAt) ∧
        (c.modified = false → s.layersFault c.mask = none → t.rd Reg.LAY_ERR = s.rd Reg.LAY_ERR ∧
          (∀ k ∈ maskLayers c.mask, (t.layer k).pendAt = some s.clk ∧ (t.layer k).err = 0) ∧
          ∀ k, k ∉ maskLayers c.mask → (t.layer k).pendAt = (s.layer k).pendAt) ∧
        s.onlyRegs t (fun a => a = Reg.LAY_STATUS ∨ a = Reg.LAY_ERR ∨ a = Reg.INT_RAW Page.LAY) ∧ s.sameMemory t)) ∧
    (∀ (d : Dom) (h : Nat) (v : W32), h < 2 → s.writable d Page.LAY → Answers (.layOwnerWrite d h v) s (fun t =>
        t.rd (if h = 0 then Reg.LAY_OWNER0 else Reg.LAY_OWNER1) = v.toNat ∧
        (∀ k, k < 32 → (s.layBusy k || s.layPending k) = false → (t.layer k).owner = t.ownerCode k) ∧
        (∀ k, k < 32 → (s.layBusy k || s.layPending k) = true → (t.layer k).owner = (s.layer k).owner) ∧
        s.onlyRegs t (fun a => a = (if h = 0 then Reg.LAY_OWNER0 else Reg.LAY_OWNER1)) ∧ s.sameMemory t))

/-- The Inset cache, Survey writeback and the signature commit (R160 to R166, R226). That SIG_COMMIT checks enabled
regions only is the model's reading (log entry 32). -/
def Obligations.InsetWritebackAndSignatureCommit : Prop :=
  ∀ s : State,
    (∀ layer ls, s.bitAt Reg.INS_CTRL 0 = true → s.seq.hasMap = true → s.insetSet layer = some ls →
      (∀ j ∈ ls, s.rd Reg.INS_STABLE_FRAMES ≤ (s.layer j).quiet) →
      (∀ x ∈ s.lay.sets, x.st ≠ 3 → ∀ j ∈ x.members, j ∉ ls) → Answers (.insetFlattenStart layer) s (fun t =>
        (s.rd Reg.INS_USED + s.insetUnits ls ≤ 1024 →
          t.lay.sets = { members := ls, units := s.insetUnits ls, st := 0, lastFrame := 0 } :: s.lay.sets ∧
          s.onlyRegs t (fun a => a = Reg.INS_USED ∨ a = Reg.INS_FLAT_MASK)) ∧
        (1024 < s.rd Reg.INS_USED + s.insetUnits ls → t.lay = s.lay ∧
          t.rd Reg.INS_NOROOM_COUNT = min (s.rd Reg.INS_NOROOM_COUNT + 1) 0xFFFFFFFF ∧
          t.bitAt (Reg.INT_RAW Page.INS) 0 = true ∧
          s.onlyRegs t (fun a => a = Reg.INS_NOROOM_COUNT ∨ a = Reg.INT_RAW Page.INS)) ∧ s.sameMemory t)) ∧
    (∀ layer poison x, s.lay.sets.find? (fun x => decide (x.st = 0) && x.members.contains layer) = some x →
      Answers (.insetFlattenDone layer poison) s (fun t =>
        (∀ y ∈ t.lay.sets, y.st = 0 → layer ∉ y.members) ∧
        (poison = false → { x with st := 1 } ∈ t.lay.sets ∧
          t.rd Reg.INS_FLATTEN_COUNT = min (s.rd Reg.INS_FLATTEN_COUNT + 1) 0xFFFFFFFF) ∧
        (poison = true → t.rd Reg.INS_FLATTEN_COUNT = s.rd Reg.INS_FLATTEN_COUNT) ∧
        s.onlyRegs t (fun a => a = Reg.INS_USED ∨ a = Reg.INS_FLAT_MASK ∨ a = Reg.INS_FLATTEN_COUNT) ∧
        s.sameMemory t)) ∧
    (∀ (d : Dom) (v : W32), s.writable d Page.INS → s.open Reg.INS_FORCE_UNFLAT → Answers (.insForceUnflat d v) s
      (fun t => t.lay = { s.lay with forceUnflat := s.lay.forceUnflat ||| v.toNat } ∧
        s.onlyRegs t (fun _ => False) ∧ s.sameMemory t)) ∧
    (∀ picture w rest, s.lay.wbk = w :: rest → Answers (.wbkBufferComplete picture false) s (fun t => t.lay.wbk = rest ∧
        t.rd Reg.WBK_SKIP_COUNT = min (s.rd Reg.WBK_SKIP_COUNT + 1) 0xFFFFFFFF ∧
        s.onlyRegs t (fun a => a = Reg.WBK_SKIP_COUNT) ∧ s.sameMemory t)) ∧
    (∀ picture w rest, s.lay.wbk = w :: rest → w.buf < 3 → Answers (.wbkBufferComplete picture true) s (fun t =>
        t.lay.wbk = rest ∧ t.lay.wbkLast = some w.gate ∧ t.rd Reg.WBK_STATUS = w.buf + 4 ∧ t.rd Reg.WBK_LAST_SEQ = w.seq % 2 ^ 32 ∧
        t.bitAt (Reg.INT_RAW Page.WBK) 0 = true)) ∧
    (∀ (d : Dom) (v : W32), s.writable d Page.SIG → bit v.toNat 0 = true →
      ∀ c ∈ [Instr.sigCommit d v, Instr.pageCommit d Page.SIG], Answers c s (fun t =>
        ((∀ r, r < 16 → s.bitAt (Reg.SIGR_CFG r) 0 = true → s.sigRegionOk (sigRect (fun a hi lo => s.fld a hi lo) r) = true) →
          (∀ a, a ∈ frameScoped Page.SIG → aget (regReset s.dev a) a t.pend = s.reg a) ∧
          t.commitPends Page.SIG = true ∧ t.rd Reg.SIG_STATUS = 0) ∧
        (∀ r, r < 16 → s.bitAt (Reg.SIGR_CFG r) 0 = true → s.sigRegionOk (sigRect (fun a hi lo => s.fld a hi lo) r) = false →
          t.pend = s.pend ∧ t.commitPends Page.SIG = s.commitPends Page.SIG ∧ t.fld Reg.SIG_STATUS 7 0 = 1) ∧
        t.force = s.force ∧ (∀ p, p ≠ Page.SIG → t.commitPends p = s.commitPends p) ∧
        s.onlyRegs t (fun a => a = Reg.SIG_STATUS) ∧ s.sameMemory t))

/-- The Cartouche: the result of a pane validation, the heartbeat's deadline, the check of the store and the pane
probe (R172, R176, R177, R184, R186 to R188). When PENDING and BANK_ACTIVE are judged, and the probe's one CRC, are
the model's reading (log entry 33). -/
def Obligations.CartoucheEvents : Prop :=
  ∀ s : State,
    (∀ c, s.cart.validating = some c → Answers .paneValidateDone s (fun t => t.cart.validating = none ∧
      t.bitAt Reg.CART_STATUS 3 = false ∧ t.fld Reg.CART_STATUS 15 8 = s.paneCode c % 256 ∧
      (s.paneCode c = 0 → t.cart.pend = some { c with at_ := s.clk } ∧ t.bitAt Reg.CART_STATUS 2 = true) ∧
      (s.paneCode c ≠ 0 → t.cart.pend = s.cart.pend ∧ t.bitAt (Reg.INT_RAW Page.CART) 2 = true) ∧
      s.onlyRegs t (fun a => a = Reg.CART_STATUS ∨ a = Reg.INT_RAW Page.CART) ∧ s.sameMemory t)) ∧
    (∀ r, s.cart.timer = some r → r + 1000000 * s.rd Reg.CART_DEADLINE < s.clk → s.cart.hbLate = false →
      Answers .hbStale s (fun t => t.bitAt Reg.CART_FAULT 0 = true ∧ t.cart.hbLate = true ∧
        t.rd Reg.CART_HB_MISS_COUNT = min (s.rd Reg.CART_HB_MISS_COUNT + 1) 0xFFFFFFFF ∧
        (s.bitAt Reg.CART_FAULT 0 = false → t.bitAt (Reg.INT_RAW Page.CART) 0 = true) ∧
        s.onlyRegs t (fun a => a / 0x1000 = Page.CART ∨ a / 0x1000 = Page.LOGB))) ∧
    (∀ (d : Dom) (v : W32), s.writable d Page.CART → admits Reg.CART_DEADLINE v → Answers (.cartDeadlineWrite d v) s
      (fun t => t.rd Reg.CART_DEADLINE = v.toNat ∧
        (∀ r, s.cart.timer = some r → r + 1000000 * v.toNat < s.clk → t.cart.hbLate = true) ∧
        (s.cart.timer = none → s.onlyRegs t (fun a => a = Reg.CART_DEADLINE) ∧ s.sameMemory t))) ∧
    (∀ (d : Dom) (v : W32), s.writable d Page.CART → s.open Reg.CART_HB_RESYNC → bit v.toNat 0 = true →
      Answers (.hbResync d v) s (fun t => t.cart = { s.cart with hbAny := true } ∧
        s.onlyRegs t (fun _ => False) ∧ s.sameMemory t)) ∧
    (∀ fs b corrected bad, s.cart.check = some (fs, b) → Answers (.storeCheck [] corrected bad) s (fun t =>
      t.rd Reg.CART_STORE_LAST = s.storeCrc b % 2 ^ 32 ∧ t.cart.check = none ∧
      t.rd Reg.CART_STORE_ECC_COUNT = min (s.rd Reg.CART_STORE_ECC_COUNT + corrected) 0xFFFFFFFF ∧
      (s.storeCrc b ≠ s.rd Reg.CART_STORE_CRC → t.bitAt Reg.CART_FAULT 1 = true) ∧
      (bad ≠ [] → t.bitAt Reg.CART_FAULT 4 = true ∧ ∀ w ∈ bad, w ∈ t.mem.paneBad) ∧
      (bad = [] → s.storeCrc b = s.rd Reg.CART_STORE_CRC →
        s.onlyRegs t (fun a => a = Reg.CART_STORE_LAST ∨ a = Reg.CART_STORE_ECC_COUNT) ∧ s.sameMemory t))) ∧
    (∀ r rest (crc : W32), s.cart.probes = r :: rest → Answers (.paneProbe crc) s (fun t => t.cart.probes = rest ∧
      (r.broken = true → t.rd Reg.CART_PROBE_SKIP_COUNT = min (s.rd Reg.CART_PROBE_SKIP_COUNT + 1) 0xFFFFFFFF ∧
        s.onlyRegs t (fun a => a = Reg.CART_PROBE_SKIP_COUNT) ∧ s.sameMemory t) ∧
      (r.broken = false → t.rd Reg.CART_PROBE_LAST = crc.toNat ∧ t.rd Reg.CART_PROBE_VIEW = r.view % 256 ∧
        (s.bitAt Reg.CART_PROBE_CFG 0 = true → crc.toNat ≠ s.probeRef r → t.bitAt Reg.CART_FAULT 2 = true) ∧
        (crc.toNat = s.probeRef r → s.onlyRegs t (fun a => a = Reg.CART_PROBE_LAST ∨ a = Reg.CART_PROBE_VIEW) ∧
          s.sameMemory t))))

/-- What the safety port answers to a complete request frame with a correct CRC, command by command (R180 to R184,
R188); a frame whose CRC fails changes nothing of the block but two counters, whatever command it carries, and is
answered with BAD_CRC; a frame cut short is counted and not answered (R179, R182, R183). The order of the checks and
the answers to LEN 0 are the model's reading (log entry 34). -/
def Obligations.SafetyPortFrames : Prop :=
  (∀ (s : State) (f : SafetyFrame), frameComplete f = true → frameCrcOk f = true → s.safetyCheck f = 0 →
      s.moor.hold = false →
      (f.cmd = 0x0101 → f.len = 4 → (∀ n, n < 4 → f.addr ≠ Reg.GWY_DATA n ∧ f.addr ≠ Reg.GWY_DATA_HI n) →
        s.mayRead .s f.addr = true → s.basicFor .s = false → Answers (.pageRead f) s (fun t =>
          t.sends (.safety (safetyResponse 0 0x0101 (leBytes 4 (s.viewReg .s f.addr)))) ∧
          ((∀ r, rowAt f.addr = some r → r.access ≠ .rc) → f.addr ≠ Reg.DTM_TIME_LO → s.onlyRegs t (fun _ => False)) ∧
          s.sameMemory t)) ∧
      (∀ (v : W32) r fam i, f.cmd = 0x0102 → f.len = 4 → f.payload = leBytes 4 v.toNat → s.writable .s (f.addr / 0x1000) →
        s.open f.addr → 0x40 ≤ f.addr % 0x1000 → rowAt f.addr = some r → (r.access = .rw ∨ r.access = .rwl) →
        admits f.addr v → famOfPage (f.addr / 0x1000) = some (fam, i) → fam ∈ [PageFam.glb, .haws, .irq, .sft, .eth, .wbk] →
        Answers (.pageWrite f) s (fun t => t.sends (.safety (safetyResponse 0 0x0102 [])) ∧ t.rd f.addr = kept f.addr v ∧
          s.onlyRegs t (fun a => a = f.addr) ∧ s.sameMemory t)) ∧
      (f.cmd = 0x0201 → f.payload.length = f.len → s.paneLocked (f.addr / 0x200000) = false →
        Answers (.paneUpload f) s (fun t => t.sends (.safety (safetyResponse 0 0x0201 [])) ∧
          agetMany 0 f.addr f.len t.mem.pane = f.payload ∧
          (∀ k, (k < f.addr ∨ f.addr + f.len ≤ k) → aget 0 k t.mem.pane = aget 0 k s.mem.pane) ∧
          s.onlyRegs t (fun a => a / 0x1000 = Page.GWY 2))) ∧
      (f.cmd = 0x0201 → s.paneLocked (f.addr / 0x200000) = true →
        Answers (.paneUpload f) s (fun t => t.sends (.safety (safetyResponse 6 0x0201 [])) ∧
          t.rd Reg.SFT_REFUSED_COUNT = min (s.rd Reg.SFT_REFUSED_COUNT + 1) 0xFFFFFFFF ∧
          s.onlyRegs t (fun a => a / 0x1000 = Page.GWY 2 ∨ a = Reg.SFT_REFUSED_COUNT) ∧ s.sameMemory t)) ∧
      (f.cmd = 0x0202 → s.bitAt Reg.CART_STATUS 3 = false → Answers (.paneCommit f) s (fun t =>
          t.sends (.safety (safetyResponse 0 0x0202 [])) ∧ t.bitAt Reg.CART_STATUS 3 = true ∧
          (∃ c, t.cart.validating = some c ∧ c.bank = leNat ((f.payload.take 12).take 4) ∧
            c.storeCrc = leNat (((f.payload.take 12).drop 4).take 4) ∧
            c.geomCrc = leNat (((f.payload.take 12).drop 8).take 4)) ∧
          s.onlyRegs t (fun a => a = Reg.CART_STATUS) ∧ s.sameMemory t)) ∧
      (∀ corrected, f.cmd = 0x0203 → s.paneHurt f.addr f.len = false → Answers (.paneRead f corrected []) s (fun t =>
          t.sends (.safety (safetyResponse 0 0x0203 (agetMany 0 f.addr f.len s.mem.pane))) ∧
          t.rd Reg.CART_STORE_ECC_COUNT = min (s.rd Reg.CART_STORE_ECC_COUNT + corrected) 0xFFFFFFFF ∧
          s.onlyRegs t (fun a => a / 0x1000 = Page.GWY 2 ∨ a = Reg.CART_STORE_ECC_COUNT) ∧ t.mem.pane = s.mem.pane)) ∧
      (f.cmd = 0x0301 → s.hbAccepts f.addr = true → Answers (.heartbeat f) s (fun t =>
          t.sends (.safety (safetyResponse 0 0x0301
            (leBytes 4 ((f.addr + 1) % 65536 + 65536 * s.fld Reg.CART_FAULT 5 0)))) ∧
          t.rd Reg.CART_HB_SEQ = (f.addr + 1) % 65536 ∧ t.cart.timer = some s.clk ∧ t.cart.hbLate = false ∧
          t.cart.hbAny = false ∧ s.onlyRegs t (fun a => a = Reg.CART_HB_SEQ) ∧ s.sameMemory t)) ∧
      (f.cmd = 0x0301 → s.hbAccepts f.addr = false → Answers (.heartbeat f) s (fun t =>
          t.sends (.safety (safetyResponse 7 0x0301 [])) ∧ t.cart = s.cart ∧
          s.onlyRegs t (fun a => a = Reg.SFT_REFUSED_COUNT) ∧ s.sameMemory t)) ∧
      (f.cmd = 0x0401 → Answers (.faultQuery f) s (fun t =>
          t.sends (.safety (safetyResponse 0 0x0401 (leBytes 4 (s.rd Reg.CART_FAULT) ++ leBytes 4 (s.rd Reg.CART_STATUS) ++
            leBytes 4 (s.rd Reg.CART_FAULT_FRAME) ++ leBytes 4 (s.rd Reg.CART_HB_MISS_COUNT)))) ∧
          s.onlyRegs t (fun _ => False) ∧ s.sameMemory t)) ∧
      (f.cmd = 0x0402 → Answers (.faultClear f) s (fun t => t.sends (.safety (safetyResponse 0 0x0402 [])) ∧
          ∀ i, i < 6 → (bit (leNat (f.payload.take 4)) i = true → bit s.cartCauses i = false →
              t.bitAt Reg.CART_FAULT i = false) ∧
            (bit (leNat (f.payload.take 4)) i = false → s.bitAt Reg.CART_FAULT i = true → t.bitAt Reg.CART_FAULT i = true)))) ∧
    (∀ (s : State) (f : SafetyFrame) (corrected : Nat) (bad : List Nat),
      (∀ c ∈ [Instr.pageRead f, .pageWrite f, .paneUpload f, .paneCommit f, .paneRead f corrected bad, .heartbeat f,
          .faultQuery f, .faultClear f],
        (frameComplete f = true → frameCrcOk f = false → s.moor.hold = false → Answers c s (fun t =>
          t.sends (.safety (safetyResponse 1 f.cmd [])) ∧
          t.rd Reg.SFT_CRC_ERR_COUNT = min (s.rd Reg.SFT_CRC_ERR_COUNT + 1) 0xFFFFFFFF ∧
          t.rd Reg.SFT_REFUSED_COUNT = min (s.rd Reg.SFT_REFUSED_COUNT + 1) 0xFFFFFFFF ∧ t.cart = s.cart ∧ t.gwy = s.gwy ∧
          s.onlyRegs t (fun a => a = Reg.SFT_CRC_ERR_COUNT ∨ a = Reg.SFT_REFUSED_COUNT) ∧ s.sameMemory t)) ∧
        (frameComplete f = false → Answers c s (fun t =>
          t.rd Reg.SFT_ABORT_COUNT = min (s.rd Reg.SFT_ABORT_COUNT + 1) 0xFFFFFFFF ∧ t.cart = s.cart ∧ t.gwy = s.gwy ∧
          s.onlyRegs t (fun a => a = Reg.SFT_ABORT_COUNT) ∧ s.sameMemory t))) ∧
      Answers .sftAbort s (fun t => t.rd Reg.SFT_ABORT_COUNT = min (s.rd Reg.SFT_ABORT_COUNT + 1) 0xFFFFFFFF ∧
        t.cart = s.cart ∧ t.gwy = s.gwy ∧ s.onlyRegs t (fun a => a = Reg.SFT_ABORT_COUNT) ∧ s.sameMemory t))

/-- Every event that retires an engine, and what the retirement leaves: the engine is marked, counted and out of its
column's active set, and no register outside the Graticule's pages and the Logbook's changes (R211 to R213). That a
retired spare is not DEGRADED is the model's reading (log entry 35). -/
def Obligations.EngineRetirement : Prop :=
  ∀ (s : State) (col e : Nat), col < 32 → e ≤ 32 → s.retired col e = false →
    (∀ f ∈ s.seq.frames, ∀ r ∈ f.rows, ∀ x ∈ r.2.segs, x.col = col → x.engine = some e → x.words = none →
      x.start + 4 * f.tL < s.clk → Answers (.segmentTimeout col e) s (fun t => s.losesEngine t col e)) ∧
    Answers (.localStoreUe col e) s (fun t => s.losesEngine t col e) ∧
    ((s.col col).spare = some e → (s.col col).testing = true → Answers (.engineBistDone col false) s (fun t => s.losesEngine t col e)) ∧
    (∀ (d : Dom) (v : W32), s.writable d (Page.GCOL col) → s.open (Reg.GCOL_RETIRE col) → bit v.toNat 31 = true →
      bits v.toNat 5 0 = e → Answers (.gcolRetire d col v) s (fun t => s.losesEngine t col e))

/-- The columns' online test and the assignment of ports to columns (R193, R211). -/
def Obligations.ColumnTestsAndAssignment : Prop :=
  ∀ s : State,
    (∀ col e, (s.col col).spare = some e → s.rd Reg.GRT_BIST_PERIOD ≠ 0 →
      (s.col col).bistFrom + 60000000000 * s.rd Reg.GRT_BIST_PERIOD ≤ s.clk → Answers (.bistPeriod col) s (fun t =>
        t.col col = { s.col col with rotDue := some s.clk, bistFrom := s.clk } ∧
        (∀ c, c ≠ col → t.col c = s.col c) ∧ s.onlyRegs t (fun _ => False) ∧ s.sameMemory t)) ∧
    (∀ col e, col < 32 → (s.col col).spare = some e → (s.col col).testing = true →
      Answers (.engineBistDone col true) s (fun t => t.col col = { s.col col with testing := false } ∧
        t.bitAt (Reg.GCOL_BIST_STATUS col) 8 = true ∧
        t.fld (Reg.GCOL_BIST_STATUS col) 31 16 = (s.fld (Reg.GCOL_BIST_STATUS col) 31 16 + 1) % 65536 ∧
        (∀ k, t.retired col k = s.retired col k) ∧ s.sameMemory t)) ∧
    (∀ (d : Dom) (col : Nat) (v : W32), col < 32 → s.writable d (Page.GCOL col) → s.open (Reg.GCOL_BIST_NOW col) →
      bit v.toNat 0 = true → Answers (.gcolBistNow d col v) s (fun t =>
        t.col col = { s.col col with rotDue := some s.clk } ∧ s.onlyRegs t (fun _ => False) ∧ s.sameMemory t)) ∧
    (∀ (d : Dom) (v : W32), s.writable d Page.GRT → s.open Reg.GRT_REBALANCE → bit v.toNat 0 = true →
      bit v.toNat 1 = false → s.seq.hasMap = true → Answers (.grtRebalance d v) s (fun t =>
        t.grt = { s.grt with rebal := some (s.defaultAssign s.mapBank, s.clk) } ∧ t.bitAt Reg.GRT_STATUS 9 = false ∧
        s.onlyRegs t (fun a => a = Reg.GRT_REBALANCE ∨ a = Reg.GRT_STATUS) ∧ s.sameMemory t)) ∧
    (∀ (d : Dom) (v : W32), s.writable d Page.GRT → s.open Reg.GRT_REBALANCE → bit v.toNat 0 = true →
      s.seq.hasMap = false → Answers (.grtRebalance d v) s (fun t => t.grt = s.grt ∧ t.bitAt Reg.GRT_STATUS 9 = true ∧
        t.bitAt (Reg.INT_RAW Page.GRT) 7 = true ∧
        s.onlyRegs t (fun a => a = Reg.GRT_REBALANCE ∨ a = Reg.GRT_STATUS ∨ a = Reg.INT_RAW Page.GRT) ∧ s.sameMemory t))

/-- A frame on its way: its slots start in order, its segments finish, a line past its deadline is missed, a packet
ends, and its last line brings the frame report (R157, R195, R199, R218, R258, R259). Which line a miss at SLOT_START
concerns is the model's reading (log entry 35). -/
def Obligations.FramesInFlight : Prop :=
  ∀ s : State,
    (∀ fs slot leads planeLead f, s.frameOf fs = some f → f.nextSlot = slot → slot < f.lines →
      f.slotStart slot ≤ s.clk → s.shut = false → Answers (.slotStart fs slot leads planeLead) s (fun t =>
        (∀ g ∈ t.seq.frames, g.fs = fs → g.nextSlot = slot + 1) ∧
        (slot = 0 → t.bitAt Reg.BOOT_STATUS 2 = true ∧ t.cart.output = true))) ∧
    (∀ fs port line seg data f r x e j z, s.frameOf fs = some f → f.row (rowKey port line) = some r →
      r.segs[seg]? = some x → x.engine = some e → x.words = none → r.segs[j]? = some z → j ≠ seg → z.words = none →
      Answers (.segmentDone fs port line seg data) s (fun t => ∃ g q y, t.frameOf fs = some g ∧
        g.row (rowKey port line) = some q ∧ q.segs[seg]? = some y ∧ y.words.isSome = true ∧ y.col = x.col ∧
        g.nextSlot = f.nextSlot ∧ s.sameRegs t (fun a => a = Reg.ATL_TILE_ERR_COUNT ∨ a = Reg.ATL_TILE_ERR_LAST ∨
          a = Reg.INT_RAW Page.ATL ∨ a = Reg.GCOL_LS_ECC_COUNT x.col) ∧ s.sameMemory t)) ∧
    (∀ port f n, port ∈ s.portsOn → s.dueLine port = some (f, n) → lineDeadline (s.pmapLe f.map) f port n < s.clk →
      Answers (.lineMiss port) s (fun t =>
        t.rd Reg.GRT_LINE_MISS_COUNT = min (s.rd Reg.GRT_LINE_MISS_COUNT + 1) 0xFFFFFFFF ∧
        t.rd Reg.GRT_LINE_MISS_LAST = (port + n * 65536) % 2 ^ 32 ∧ t.bitAt (Reg.INT_RAW Page.GRT) 1 = true ∧
        (s.driven port = true → port ∈ f.ports → t.sends (.emptyLine port f.fs n)) ∧ s.sameMemory t)) ∧
    (∀ port, (s.tile port).inPacket = true → Answers (.linePacketEnd port) s (fun t =>
      t.sends (.idle port 2) ∧ (t.tile port).inPacket = false ∧
      ((∃ h, (s.tile port).holdDue = some h) → (t.tile port).holdDue = none) ∧
      s.onlyRegs t (fun a => a = Reg.TP_STATUS port) ∧ s.sameMemory t)) ∧
    (∀ fs f, s.frameOf fs = some f → f.synth = false → s.allLines f = true → Answers (.frameLastLine fs) s (fun t =>
      t.rd Reg.LAY_FRAME_SEQ = fs % 2 ^ 32 ∧ t.rd Reg.LAY_FRAME_STALE = f.stale % 2 ^ 32 ∧
      t.rd Reg.LAY_FRAME_PARTIAL = f.part % 2 ^ 32 ∧ t.rd Reg.LAY_FRAME_POISON = f.poison % 2 ^ 32 ∧
      (f.stale ≠ 0 → t.bitAt (Reg.INT_RAW Page.LAY) 2 = true) ∧
      (f.poison ≠ 0 → t.bitAt (Reg.INT_RAW Page.LAY) 3 = true) ∧
      (∀ g ∈ t.seq.frames, g.fs = fs → g.synth = true)))

/-- A Frame Gate: the frame counter rises by one modulo 2^32, and the gate's time, period and cause are recorded,
whether the gate is ready, late or forced (R7, R221, R223, R225, R230). That no gate fires while the panel is shut
down is the model's reading (log entry 36). -/
def Obligations.FrameGates : Prop :=
  ∀ s : State, s.moor.held = [] → s.gatesRun = true → s.seq.started = true → s.crossGateDue = false → s.crossDue = false →
    (s.gateReady = true → Answers .frameGate s (fun t => t.rd Reg.SEQ_GATE_CAUSE = s.readyCause ∧
      t.rd Reg.SEQ_FRAME_SEQ = (s.rd Reg.SEQ_FRAME_SEQ + 1) % 2 ^ 32 ∧
      t.rd64 Reg.SEQ_GATE_TIME_LO Reg.SEQ_GATE_TIME_HI = s.now % 2 ^ 64 ∧
      t.rd Reg.SEQ_LAST_PERIOD = (s.clk - s.seq.gateClk) % 2 ^ 32 ∧ t.seq.gateClk = s.clk ∧ t.seq.tick = none)) ∧
    (s.gateReady = false → s.gateMax = true → s.forceSeen = false → Answers .frameGateMax s (fun t =>
      t.rd Reg.SEQ_GATE_CAUSE = 2 ∧ t.rd Reg.SEQ_LATE_MASK = s.lateMask ∧
      t.rd Reg.SEQ_FRAME_SEQ = (s.rd Reg.SEQ_FRAME_SEQ + 1) % 2 ^ 32 ∧
      (s.lateMask ≠ 0 → t.rd Reg.SEQ_LATE_COUNT = min (s.rd Reg.SEQ_LATE_COUNT + 1) 0xFFFFFFFF ∧
        t.bitAt (Reg.INT_RAW Page.SEQ) 2 = true))) ∧
    (∀ (d : Dom) (v : W32), s.writable d Page.SEQ → s.open Reg.SEQ_GATE_FORCE → bit v.toNat 0 = true →
      Answers (.gateForce d v) s (fun t => (s.seq.forced = none → t.seq.forced = some s.clk) ∧
        (∀ x, s.seq.forced = some x → t.seq.forced = some x) ∧ s.onlyRegs t (fun _ => False) ∧ s.sameMemory t))

/-- FRAME_SEQ (R7): each Frame Gate increments it by 1, from 0xFFFF_FFFF to 0, and values compare by their modulo-2^32
difference as a signed number. -/
def Obligations.FrameCounterAndItsComparison : Prop :=
  (∀ (s : State) (cause late : Nat), (s.fireGate cause late).rd Reg.SEQ_FRAME_SEQ = (s.rd Reg.SEQ_FRAME_SEQ + 1) % 2 ^ 32) ∧
    (∀ (s : State) (cause late : Nat), s.rd Reg.SEQ_FRAME_SEQ = 0xFFFFFFFF →
      (s.fireGate cause late).rd Reg.SEQ_FRAME_SEQ = 0) ∧
    (∀ a b, a < 2 ^ 32 → b < 2 ^ 32 → (wrapDiff 32 a b : Int) % 2 ^ 32 = ((a : Int) - b) % 2 ^ 32 ∧
      -(2 ^ 31 : Int) ≤ wrapDiff 32 a b ∧ wrapDiff 32 a b < 2 ^ 31)

/-- A mode crossing: it starts in place of a gate, the new map comes into use once the old lines are done, and each
port that retrains leaves it locked, failed, or by the time limit (R41, R234 to R236). Discovery before G1 without a
map, and an undriven port after a failed retraining, are the model's reading (log entry 36). -/
def Obligations.ModeCrossing : Prop :=
  ∀ s : State, s.moor.held = [] →
    (s.gatesRun = true → s.seq.started = true → s.crossDue = true → s.tEarly ≤ s.elapsed → Answers .crossingStart s
      (fun t => t.fld Reg.SEQ_MODE_STATUS 2 1 = 2 ∧ t.seq.frames = s.seq.frames ∧
        s.sameRegs t (fun a => a = Reg.SEQ_MODE_STATUS ∨ ∃ p, p < 64 ∧ a = Reg.TP_STATUS p) ∧ s.sameMemory t)) ∧
    (∀ b at_ l, b < 2 → s.seq.switch = some (b, false, at_) → s.active = some l → s.visible at_ = true →
      s.seq.hasMap = true → s.crossing = true → s.oldLinesDone = true → Answers .crossingApply s (fun t =>
        t.seq.switch = none ∧ t.seq.hasMap = true ∧ t.mapBank = b ∧
        t.rd Reg.SEQ_PMAP_ACTIVE_ID = s.pmapLe b 0x70 4 % 2 ^ 32)) ∧
    (∀ p lock, p ∈ s.seq.retrain → (∃ q ∈ s.seq.retrain, q ≠ p) →
      Answers (.retrainDone p lock) s (fun t => p ∉ t.seq.retrain ∧
        (∀ q ∈ s.seq.retrain, q ≠ p → q ∈ t.seq.retrain) ∧
        (15 ≤ ((List.range 16).filter (fun k => bit lock k)).length → t.tx p = 1 ∧
          (t.tile p).phase = if (s.tile p).phase = 4 then 4 else 5) ∧
        (((List.range 16).filter (fun k => bit lock k)).length < 15 → p < 64 → t.tx p = 0 ∧ t.driven p = false ∧
          t.bit64 Reg.SEQ_CROSS_FAIL_LO Reg.SEQ_CROSS_FAIL_HI p = true ∧ t.bitAt (Reg.INT_RAW Page.SEQ) 4 = true))) ∧
    (∀ at_, s.seq.crossApplied = some at_ → at_ + 1000000 * s.rd Reg.SEQ_RETRAIN_LIMIT ≤ s.clk → s.seq.retrain ≠ [] →
      Answers .retrainTimeout s (fun t => t.seq.retrain = [] ∧ t.bitAt (Reg.INT_RAW Page.SEQ) 4 = true))

/-- The discovery of tile ports: a run, the end of training, the capability block, the mode's acknowledgement, a port
that fails, the retry, and the loss of a reference clock (R245, R266, R267, R269, R270, R444). Dark ports and the
capability fault are the model's reading (log entry 37). -/
def Obligations.TilePortDiscovery : Prop :=
  ∀ s : State,
    (∀ (d : Dom) (v : W32), s.writable d Page.TLG → bit v.toNat 0 = true → s.bitAt Reg.TLG_DISC_STATUS 0 = false →
      Answers (.tlgDiscover d v) s (fun t =>
        ((∃ p ∈ s.portsOn, s.driven p = false) → t.bitAt Reg.TLG_DISC_STATUS 0 = true ∧
          (∀ p ∈ s.portsOn, s.driven p = false → p ∈ t.link.wave ∨ p ∈ t.link.waiting) ∧
          ∀ p ∈ t.link.wave, (t.tile p).phase = 1 ∧ (t.tile p).runFrom = s.clk) ∧
        ((∀ p ∈ s.portsOn, s.driven p = true) → t.bitAt Reg.TLG_DISC_STATUS 0 = false ∧
          t.bitAt Reg.TLG_DISC_STATUS 3 = true ∧ t.bitAt (Reg.INT_RAW Page.TLG) 0 = true) ∧ s.sameMemory t)) ∧
    (∀ p, (s.tile p).phase = 1 → (s.tile p).trainFrom + 1000000 * s.rd Reg.TLG_TRAIN_TIME ≤ s.clk →
      p / 8 ∉ s.link.noRef → Answers (.trainTimeEnd p) s (fun t =>
        ((s.tile p).locked = none → (t.tile p).trainOver = true ∧ (t.tile p).phase = 1 ∧ s.onlyRegs t (fun _ => False)) ∧
        (∀ m, (s.tile p).locked = some m → 15 ≤ ((List.range 16).filter (fun k => bit m k)).length →
          (t.tile p).phase = 2 ∧ (t.tile p).trained = true) ∧
        s.onlyRegs t (fun a => a / 0x1000 = Page.TP p) ∧ s.sameMemory t)) ∧
    (∀ p block, p < 64 → (s.tile p).phase = 2 → Answers (.rmsgCap p true block) s (fun t =>
        (∀ i, i < 16 → t.rd (Reg.TP_CAP p i) = leNat ((block.drop (4 * i)).take 4)) ∧ s.sameMemory t)) ∧
    (∀ p modeId, p < 64 → (s.tile p).phase = 3 → Answers (.rmsgModeAck p true modeId true) s (fun t =>
        t.driven p = !(s.misplaced p) ∧ t.rd (Reg.TP_MODE_ACK p) = modeId % 65536 + 65536 ∧
        (p ∉ s.link.waiting → (t.tile p).phase = if s.misplaced p = true then 4 else 5) ∧ s.sameMemory t)) ∧
    (∀ p, p < 64 → s.inDisc p = true → (s.tile p).runFrom + 30000000 ≤ s.clk → p ∉ s.link.waiting →
      Answers (.discTimeout p) s (fun t => t.bit64 Reg.TLG_DISC_FAIL_LO Reg.TLG_DISC_FAIL_HI p = true ∧
        t.driven p = false ∧ t.tx p = 0 ∧ (t.tile p).phase = 0 ∧ s.sameMemory t)) ∧
    (s.rd Reg.TLG_REDISCOVER ≠ 0 → s.link.rediscAt + 1000000000 * s.rd Reg.TLG_REDISCOVER ≤ s.clk →
      s.bitAt Reg.TLG_DISC_STATUS 0 = false → s.link.single = none → Answers .rediscover s (fun t =>
        t.link.rediscAt = s.clk ∧
        ((∃ p ∈ s.portsOn, s.bit64 Reg.TLG_DISC_FAIL_LO Reg.TLG_DISC_FAIL_HI p = true) → ∃ p ∈ s.portsOn,
          s.bit64 Reg.TLG_DISC_FAIL_LO Reg.TLG_DISC_FAIL_HI p = true ∧ t.link.single = some p ∧ t.link.lastTry = p ∧
          (t.tile p).phase = 1) ∧
        ((∀ p ∈ s.portsOn, s.bit64 Reg.TLG_DISC_FAIL_LO Reg.TLG_DISC_FAIL_HI p = false) →
          s.onlyRegs t (fun _ => False)) ∧ s.sameMemory t)) ∧
    (∀ m, m < 8 → Answers (.trefclkLoss m) s (fun t => m ∈ t.link.noRef ∧
        (∀ p ∈ s.portsOn, p / 8 = m → t.driven p = false ∧ t.tx p = 0) ∧ s.sameMemory t)) ∧
    (∀ m, Answers (.trefclkReturn m) s (fun t => m ∉ t.link.noRef ∧
        (∀ x, x ≠ m → (x ∈ t.link.noRef ↔ x ∈ s.link.noRef)) ∧ s.onlyRegs t (fun _ => False) ∧ s.sameMemory t))

/-- What the framer and the return lane of a tile port do outside discovery, and the frame of each: no register
outside the port's page changes (R248, R263 to R265, R268, R271, R272, R274). The frame that LANE_SWAP names and the
spare field are the model's reading (log entry 37). -/
def Obligations.TilePortTraffic : Prop :=
  ∀ (s : State) (p : Nat), p < 64 →
    (s.tx p ≠ 0 → Answers (.alignRow p) s (fun t => (t.tile p).align = ((s.tile p).align + 1) % 2 ^ 32 ∧
      t.sends (.align p (((s.tile p).align + 1) % 2 ^ 32)) ∧ s.onlyRegs t (fun _ => False) ∧ s.sameMemory t)) ∧
    (∀ n, (s.tx p = 2 ∧ n = 32) ∨ (s.tx p = 1 ∧ n = 512) → Answers (.laneWake p) s (fun t => t.tx p = 3 ∧
      t.sends (.idle p n) ∧ t.sends (.align p (((s.tile p).align + 1) % 2 ^ 32)) ∧
      s.onlyRegs t (fun a => a = Reg.TP_STATUS p) ∧ s.sameMemory t)) ∧
    (∀ r, r = 1 ∨ r = 2 → Answers (.ackRx p r) s (fun t =>
      t.rd (Reg.TP_LINE_ERR_COUNT p) = min (s.rd (Reg.TP_LINE_ERR_COUNT p) + 1) 0xFFFFFFFF ∧
      s.onlyRegs t (fun a => a = Reg.TP_LINE_ERR_COUNT p) ∧ s.sameMemory t)) ∧
    Answers (.ackRx p 0) s (fun t => s.onlyRegs t (fun _ => False) ∧ s.sameMemory t) ∧
    Answers (.rmsgSwapAck p true) s (fun t => t.link = s.link ∧ s.onlyRegs t (fun _ => False) ∧ s.sameMemory t) ∧
    (∀ block modeId accept, ∀ c ∈ [Instr.rmsgSwapAck p false, .rmsgCap p false block, .rmsgModeAck p false modeId accept],
      Answers c s (fun t => t.fld (Reg.TP_BK_STATUS p) 15 8 = min (s.fld (Reg.TP_BK_STATUS p) 15 8 + 1) 0xFF ∧
        t.link = s.link ∧ s.onlyRegs t (fun a => a = Reg.TP_BK_STATUS p) ∧ s.sameMemory t)) ∧
    (∀ st : TileStatus, st.crcOk = true → Answers (.rmsgStatus p st) s (fun t => (t.tile p).statusAt = s.clk ∧
      t.bitAt (Reg.TP_STATUS p) 10 = false ∧ t.fld (Reg.TP_STATUS p) 12 11 = st.state % 4 ∧
      t.rd (Reg.TP_TILE_TEMP p) = st.temp % 65536 ∧ t.rd (Reg.TP_TILE_DRIVE p) = st.peak % 65536 ∧
      (∀ k n, k < 16 → st.laneErr[k]? = some n →
        t.fld (Reg.TP_LANE_ERR p (k / 2)) (16 * (k % 2) + 15) (16 * (k % 2)) =
          min (s.fld (Reg.TP_LANE_ERR p (k / 2)) (16 * (k % 2) + 15) (16 * (k % 2)) + n) 0xFFFF) ∧
      s.onlyRegs t (fun a => a / 0x1000 = Page.TP p) ∧ s.sameMemory t)) ∧
    ((s.tile p).trained = true → (s.tile p).statusAt + 5000000 < s.clk → s.bkQuiet p = false →
      s.bitAt (Reg.TP_STATUS p) 10 = false → Answers (.bkTimeout p) s (fun t => t.bitAt (Reg.TP_STATUS p) 10 = true ∧
        t.bitAt (Reg.INT_RAW (Page.TP p)) 1 = true ∧
        s.onlyRegs t (fun a => a = Reg.TP_STATUS p ∨ a = Reg.INT_RAW (Page.TP p)) ∧ s.sameMemory t)) ∧
    (∀ bad, Answers (.bkLock p bad) s (fun t => t.bitAt (Reg.TP_BK_STATUS p) 0 = true ∧
      t.fld (Reg.TP_BK_STATUS p) 31 16 = min (s.fld (Reg.TP_BK_STATUS p) 31 16 + bad) 0xFFFF ∧
      t.fld (Reg.TP_BK_STATUS p) 7 1 = s.fld (Reg.TP_BK_STATUS p) 7 1 ∧
      s.onlyRegs t (fun a => a = Reg.TP_BK_STATUS p) ∧ s.sameMemory t)) ∧
    (∀ bad, s.bitAt (Reg.TP_BK_STATUS p) 0 = true → s.bkQuiet p = false → Answers (.bkLost p bad) s (fun t =>
      t.bitAt (Reg.TP_BK_STATUS p) 0 = false ∧ t.fld (Reg.TP_BK_STATUS p) 7 1 = 0 ∧
      t.fld (Reg.TP_BK_STATUS p) 31 16 = min (s.fld (Reg.TP_BK_STATUS p) 31 16 + bad) 0xFFFF ∧
      t.bitAt (Reg.INT_RAW (Page.TP p)) 0 = true ∧
      s.onlyRegs t (fun a => a = Reg.TP_BK_STATUS p ∨ a = Reg.INT_RAW (Page.TP p)) ∧ s.sameMemory t)) ∧
    (∀ (d : Dom) (v : W32), s.writable d (Page.TP p) → bit v.toNat 0 = true → Answers (.bkSlip d p v) s (fun t =>
      t.fld (Reg.TP_BK_STATUS p) 7 1 = min (s.fld (Reg.TP_BK_STATUS p) 7 1 + 1) 127 ∧
      s.onlyRegs t (fun a => a = Reg.TP_BK_STATUS p) ∧ s.sameMemory t)) ∧
    ((s.tile p).trained = true → (s.tile p).winFrom + 1000000 * s.fld (Reg.TP_LANE_ERR_LIMIT p) 31 16 ≤ s.clk →
      Answers (.laneErrWindow p) s (fun t => (t.tile p).winFrom = s.clk ∧ (t.tile p).sums = [] ∧
        s.onlyRegs t (fun a => a = Reg.TP_STATUS p ∨ a = Reg.INT_RAW (Page.TP p)) ∧ s.sameMemory t)) ∧
    (∀ (d : Dom) (v : W32) (i : Nat), s.writable d (Page.TP p) → s.open (Reg.TP_LANE_SWAP p) → bit v.toNat 31 = true →
      (s.tile p).spareOk = true → s.logicalOf p (v.toNat % 16) = some i → v.toNat % 16 ∉ (s.tile p).retired →
      Answers (.laneSwapWrite d p v) s (fun t =>
        (t.tile p).swap = some { logical := i, old := v.toNat % 16, new := s.laneMap p 15 } ∧
        (t.tile p).spareOk = false ∧ t.rd (Reg.TP_LANE_SWAP p) = v.toNat % 16 ∧
        s.onlyRegs t (fun a => a = Reg.TP_LANE_SWAP p) ∧ s.sameMemory t))

/-- The tile link's bit level: what a lane scrambles its receiver descrambles, whatever its state from the 59th bit on
(R244); stream bit p lies in data block p div 64 at payload bit p mod 64, and block i on lane i mod 15 (R251); a line
of RAW hogel codes reads back as its words (R252, R253). That RAW is the coding written is the model's choice (log
entry 37). -/
def Obligations.LinkCodingRoundTrips : Prop :=
  (∀ (st : Nat) (l : List Bool), descramble st (scramble st l) = l) ∧
    (∀ (st st' : Nat) (l : List Bool), (descramble st' (scramble st l)).drop 58 = l.drop 58) ∧
    (∀ (l : List Bool) (p : Nat), p < l.length →
      ((streamBlocks (pktBlocks l.length) l).getD (p / 64) 0).testBit (p % 64) = l.getD p false) ∧
    (∀ (bs : List Nat) (i : Nat), i < bs.length → (laneBlocks bs (i % 15)).getD (i / 15) 0 = bs.getD i 0) ∧
    (∀ (bit10 : Bool) (u v k : Nat) (hs : List (List Nat)), k < 64 →
      (∀ ws ∈ hs, ws.length = u * v ∧ ∀ w ∈ ws, w < 2 ^ rayWidth bit10) →
      readLine bit10 u v hs.length (hs.flatMap (rawHogel bit10) ++ List.replicate k false) = some hs.flatten)

/-- The dual-clock queues: a push with and without credit, a pop, a credit that returns, a packet's length word, and
the reset of a queue whose pointers disagree (R276 to R284, R288). QIDs and depths of fabric queues are free values,
and what a reset loses is the model's reading (log entry 38). -/
def Obligations.DualClockQueues : Prop :=
  ∀ (s : State) (q : Nat),
    (∀ n v, s.queueDepth q = some n → (s.queue q).resetting = false → (s.queue q).spent < n →
      Answers (.queuePush q (.item v)) s (fun t =>
        t.queue q = { s.queue q with entries := (s.queue q).entries ++ [.item v s.clk], spent := (s.queue q).spent + 1 } ∧
        (∀ k, k ≠ q → t.queue k = s.queue k) ∧ s.onlyRegs t (fun _ => False) ∧ s.sameMemory t)) ∧
    (∀ n v, s.queueDepth q = some n → n ≤ (s.queue q).spent → Answers (.queuePush q (.item v)) s (fun t =>
        t.queues = s.queues ∧ t.bitAt (Reg.INT_RAW (queuePage q).1) (queuePage q).2 = true ∧
        (s.bitAt (Reg.ERR_CAPTURE0 (queuePage q).1) 31 = false →
          t.rd (Reg.ERR_CAPTURE0 (queuePage q).1) = 0x800400F1 ∧ t.rd (Reg.ERR_CAPTURE3 (queuePage q).1) = q % 2 ^ 32) ∧
        s.sameMemory t)) ∧
    (∀ n v l, (s.queue q).resetting = false → (s.queue q).entries = .item v n :: l → n < s.clk →
      Answers (.queuePop q) s (fun t => t.queue q = { s.queue q with entries := l, returning := (s.queue q).returning + 1 } ∧
        t.sends (.popped q v) ∧ s.onlyRegs t (fun _ => False) ∧ s.sameMemory t)) ∧
    ((s.queue q).entries = [] → Answers (.queuePop q) s (fun t => t.queue q = s.queue q ∧
        (∀ k v, t.sends (.popped k v) → s.sends (.popped k v)) ∧ s.onlyRegs t (fun _ => False) ∧ s.sameMemory t)) ∧
    (∀ n, (s.queue q).returning = n + 1 → Answers (.creditReturn q) s (fun t =>
        t.queue q = { s.queue q with returning := n, spent := (s.queue q).spent - 1 } ∧
        (∀ k, k ≠ q → t.queue k = s.queue k) ∧ s.onlyRegs t (fun _ => False) ∧ s.sameMemory t)) ∧
    (∀ (w : W32) m b d l, bit w.toNat 31 = true → (s.queue q).entries = .packet m b none d :: l →
      Answers (.packetLengthWrite q 0 w) s (fun t => t.queue q = { s.queue q with
          entries := .packet b.length b (some (if d then w ||| 0x40000000#32 else w, s.clk)) d :: l
          spent := (s.queue q).spent - (m - b.length) } ∧ s.onlyRegs t (fun _ => False) ∧ s.sameMemory t)) ∧
    (∀ n, s.queueDepth q = some n → s.queueStopped q = false → s.moor.held = [] →
      Answers (.queuePointerMismatch q) s (fun t =>
        t.queue q = { entries := [], spent := n, returning := 0, resetting := true } ∧
        t.bitAt (Reg.INT_RAW (queuePage q).1) (queuePage q).2 = true ∧
        (s.bitAt (Reg.ERR_CAPTURE0 (queuePage q).1) 31 = false →
          t.rd (Reg.ERR_CAPTURE0 (queuePage q).1) = 0x800400F0))) ∧
    ((s.queue q).resetting = true → Answers (.queueResetDone q) s (fun t => t.queue q = {} ∧
        (∀ k, k ≠ q → t.queue k = s.queue k) ∧ s.onlyRegs t (fun _ => False) ∧ s.sameMemory t))

/-- Requests to the memory: a read is held until it returns, a write lands where it says, a request beyond the
capacity is recorded and writes nothing, and what inline ECC makes of a line that returns (R290, R294, R312 to R318).
-/
def Obligations.MemoryRequestsAndReturns : Prop :=
  ∀ s : State,
    (∀ cls blk addr, addr < s.capacity → Answers (.memRequest cls blk addr none) s (fun t =>
      (t.memGroup (s.home addr).1).reads = (s.memGroup (s.home addr).1).reads ++
        [{ line := addr / 64, cls := cls, at_ := s.clk }] ∧
      (t.memGroup (s.home addr).1).lastReq = s.clk ∧ (t.rank (s.rankOf addr)).powerDown = false ∧
      s.onlyRegs t (fun a => a = Reg.DMG_STATUS (s.home addr).1) ∧ s.sameMemory t)) ∧
    (∀ cls blk addr bs, bs ≠ [] → addr % 64 + bs.length ≤ 64 → addr + bs.length ≤ s.capacity →
      Answers (.memRequest cls blk addr (some bs)) s (fun t => t.dramBytes addr bs.length = bs ∧
        (∀ k, (k < addr ∨ addr + bs.length ≤ k) → t.dramBytes k 1 = s.dramBytes k 1) ∧
        (∀ l, l ≠ addr / 64 → t.line l = s.line l) ∧
        s.onlyRegs t (fun a => a = Reg.DMG_STATUS (s.home addr).1))) ∧
    (∀ cls blk addr w, s.capacity ≤ addr → Answers (.memRequest cls blk addr w) s (fun t =>
      t.rd Reg.DMG0_ADDR_ERR_COUNT = min (s.rd Reg.DMG0_ADDR_ERR_COUNT + 1) 0xFFFFFFFF ∧
      t.rd Reg.DMG0_ADDR_ERR_LAST = addr / 256 % 2 ^ 32 ∧ t.bitAt (Reg.INT_RAW (Page.DMG 0)) 5 = true ∧ t.ram = s.ram ∧
      s.onlyRegs t (fun a => a / 0x1000 = Page.DMG 0) ∧ s.sameMemory t)) ∧
    (∀ addr symbols x, addr < s.capacity → x ∈ (s.memGroup (s.home addr).1).reads → x.line = addr / 64 →
      Answers (.memReadReturn addr symbols) s (fun t =>
        (s.line (addr / 64) = 0 → symbols = 0 → (t.memGroup (s.home addr).1).reads.length + 1 =
            (s.memGroup (s.home addr).1).reads.length ∧
          s.onlyRegs t (fun a => a = Reg.DMG_RT_LAT_MAX (s.home addr).1) ∧ s.sameMemory t) ∧
        (symbols + s.line (addr / 64) = 1 →
          t.rd Reg.RAS_CE_COUNT = min (s.rd Reg.RAS_CE_COUNT + 1) 0xFFFFFFFF ∧ t.line (addr / 64) = 0) ∧
        (s.line (addr / 64) = 3 → t.rd Reg.RAS_POISON_READS = min (s.rd Reg.RAS_POISON_READS + 1) 0xFFFFFFFF ∧
          t.line (addr / 64) = 3 ∧ s.sameMemory t) ∧
        (s.line (addr / 64) < 2 → 2 ≤ symbols + s.line (addr / 64) →
          t.rd Reg.RAS_UE_COUNT = min (s.rd Reg.RAS_UE_COUNT + 1) 0xFFFFFFFF ∧ t.line (addr / 64) = 3 ∧
          t.bitAt (Reg.INT_RAW Page.RAS) 0 = true)))

/-- Refresh, MR4 polls, self-refresh, power-down and periodic training of the ranks (R299 to R301, R307 to R310). The
rate class that MR4 reports is an operand, and a refresh of an idle group pays its whole debt, by the model's reading
(log entry 39). -/
def Obligations.RankUpkeep : Prop :=
  ∀ s : State,
    (∀ r, r < 128 → s.selfRefresh (r / 16) = false → 3904 ≤ (s.clk - (s.rank r).refAt) * 2 ^ s.refMul r →
      Answers (.refreshDue r false false) s (fun t => t.sends (.refresh r (s.refDebt r + 1)) ∧ t.refDebt r = 0 ∧
        (t.rank r).refAt = s.clk ∧ s.onlyRegs t (fun a => a = Reg.DCH_REFRESH (chanOf r).1 ∨
          a = Reg.DCH_STATUS (chanOf r).1) ∧ s.sameMemory t)) ∧
    (∀ r, r < 128 → s.selfRefresh (r / 16) = false → 3904 ≤ (s.clk - (s.rank r).refAt) * 2 ^ s.refMul r →
      s.refDebt r < s.debtLimit r → Answers (.refreshDue r true false) s (fun t =>
        t.refDebt r = (s.refDebt r + 1) % 16 ∧ (t.rank r).refAt = s.clk ∧
        s.onlyRegs t (fun a => a = Reg.DCH_REFRESH (chanOf r).1) ∧ s.sameMemory t)) ∧
    (∀ p : Mr4Poll, p.rank < 128 → p.rate < 3 → s.ram.pollAt + 16000000 ≤ s.clk → s.selfRefresh (p.rank / 16) = false →
      Answers (.mr4Poll [p]) s (fun t => t.ram.pollAt = s.clk ∧
        t.fld (Reg.DCH_MR4 (chanOf p.rank).1) (8 * (chanOf p.rank).2 + 7) (8 * (chanOf p.rank).2) = p.raw % 256 ∧
        (s.refMul p.rank ≤ p.rate → t.refMul p.rank = p.rate) ∧
        (s.refMul p.rank < p.rate → t.refDebt p.rank = 0) ∧ s.sameMemory t)) ∧
    (∀ g, g < 8 → s.selfRefresh g = false → (s.memGroup g).lastReq + 1000 * s.rd (Reg.DMG_SR_IDLE g) ≤ s.clk →
      (∀ k, k < 16 → s.refDebt (16 * g + k) = 0) → 2000 + 1000 * s.rd (Reg.DMG_SR_MARGIN g) < s.tEff →
      (s.memGroup g).mig = none → s.groupTraining g = false → s.bitAt (Reg.DMG_SR_DISABLE g) 0 = false →
      Answers (.srEntry g) s (fun t => t.selfRefresh g = true ∧
        t.rd (Reg.DMG_SR_COUNT g) = min (s.rd (Reg.DMG_SR_COUNT g) + 1) 0xFFFFFFFF ∧
        s.onlyRegs t (fun a => a = Reg.DMG_STATUS g ∨ a = Reg.DMG_SR_COUNT g) ∧ s.sameMemory t)) ∧
    (∀ g, g < 8 → s.selfRefresh g = true →
      ((s.memGroup g).wake = true ∨ s.tEff ≤ 2000 + 1000 * s.rd (Reg.DMG_SR_MARGIN g)) → Answers (.srExit g []) s
        (fun t => t.selfRefresh g = false ∧ (∀ k, k < 16 → t.refDebt (16 * g + k) = 0 ∧ (t.rank (16 * g + k)).refAt = s.clk) ∧
          s.onlyRegs t (fun a => a = Reg.DMG_STATUS g ∨ ∃ c, c < 8 ∧ a = Reg.DCH_REFRESH (8 * g + c)) ∧ s.sameMemory t)) ∧
    (∀ r, r < 128 → (s.rank r).powerDown = false → s.selfRefresh (r / 16) = false →
      256000 ≤ (s.clk - (s.rank r).lastUse) * s.rd Reg.DMG0_DATA_RATE → Answers (.rankPowerDown r) s (fun t =>
        (t.rank r).powerDown = true ∧ s.onlyRegs t (fun a => a = Reg.DMG_STATUS (r / 16)) ∧ s.sameMemory t)) ∧
    (∀ r margin trims, r < 128 → s.bitAt (Reg.DCH_STATUS (chanOf r).1) 2 = true → s.switching = false →
      s.crossing = false → (s.memGroup (r / 16)).mig = none → 192 + (chanOf r).1 ∉ s.bmk.running →
      Answers (.periodicTrainDone r margin trims) s (fun t => t.bitAt (Reg.DCH_STATUS (chanOf r).1) 2 = false ∧
        t.rd (Reg.DCH_TRAIN_COUNT (chanOf r).1) = min (s.rd (Reg.DCH_TRAIN_COUNT (chanOf r).1) + 1) 0xFFFFFFFF ∧
        t.fld (Reg.DCH_TRAIN_MARGIN (chanOf r).1) (16 * (chanOf r).2 + 15) (16 * (chanOf r).2) = margin % 65536 ∧
        (t.rank r).trimWait = ((s.rank r).trimWait || decide (s.fld Reg.BMK_FLOOR 31 24 ≤ margin)) ∧
        s.onlyRegs t (fun a => a / 0x1000 = Page.DCH (chanOf r).1) ∧ s.sameMemory t))

/-- Scrubbing, rank migration and error injection (R306, R316, R317, R320 to R325). The order of the patrol and the
progress register are the model's reading (log entry 39). -/
def Obligations.ScrubbingAndMigration : Prop :=
  ∀ s : State,
    (∀ g symbols, g < 8 → s.patrolOn g = true → (s.memGroup g).visited < 15 * s.rankLines →
      Answers (.patrolScrub g symbols none) s (fun t => (t.memGroup g).visited = (s.memGroup g).visited + 1 ∧
        (symbols = 0 → s.mem.lines = [] → s.onlyRegs t (fun a => a = Reg.RAS_SCRUB_PROGRESS) ∧ s.sameMemory t))) ∧
    (s.bitAt Reg.RAS_CTRL 0 = true → s.ram.scrubFrom + 3600000000000 * s.ram.scrubHours ≤ s.clk →
      Answers .scrubPeriodEnd s (fun t => t.ram.scrubFrom = s.clk ∧
        t.rd Reg.RAS_SCRUB_PASSES = (s.rd Reg.RAS_SCRUB_PASSES + 1) % 2 ^ 32 ∧ (∀ g, (t.memGroup g).visited = 0) ∧
        ((∃ g, g < 8 ∧ (s.memGroup g).visited < 15 * s.rankLines) →
          t.bitAt Reg.RAS_STATUS 16 = true ∧ t.bitAt (Reg.INT_RAW Page.RAS) 5 = true) ∧
        s.onlyRegs t (fun a => a / 0x1000 = Page.RAS) ∧ s.sameMemory t)) ∧
    (∀ (d : Dom) (v : W32) (r g : Nat), s.writable d Page.RAS → s.open Reg.RAS_MIG_CMD → bit v.toNat 31 = true →
      r = v.toNat % 128 → g = r / 16 → s.migRefused r = false → (s.rank r).inPlace = false → s.crossing = false →
      Answers (.migCmd d v) s (fun t => t.fld (Reg.RAS_GRP_STATE g) 1 0 = 1 ∧ (t.rank r).out = true ∧
        (t.memGroup g).mig = some { slot := s.slotOfRank r, old := r, copied := false } ∧ t.bitAt Reg.RAS_STATUS g = true ∧
        t.rd Reg.RAS_MIG_CMD = r ∧ s.onlyRegs t (fun a => a / 0x1000 = Page.RAS ∨ a / 0x1000 = Page.LOGB))) ∧
    (∀ (d : Dom) (v : W32), s.writable d Page.RAS → s.open Reg.RAS_MIG_CMD → bit v.toNat 31 = true →
      s.migRefused (v.toNat % 128) = true → Answers (.migCmd d v) s (fun t => t.ram = s.ram ∧
        t.rd Reg.RAS_MIG_CMD = s.rd Reg.RAS_MIG_CMD ∧ s.sameMemory t)) ∧
    (∀ g bad x, (s.memGroup g).mig = some x → x.copied = false → Answers (.migCopyDone g bad) s (fun t =>
        (t.memGroup g).mig = some { x with copied := true } ∧ t.fld (Reg.RAS_GRP_STATE g) 17 8 = 1000)) ∧
    (∀ g x, g < 8 → (s.memGroup g).mig = some x → x.copied = true → x.slot < 15 →
      1000 * s.rd (Reg.DMG_RT_URGENT g) ≤ s.tEff → Answers (.migMapSwitch g) s (fun t =>
        t.slotRank g x.slot = s.slotRank g 15 ∧ t.slotRank g 15 = x.old % 16 ∧ (t.memGroup g).mig = none ∧
        (∀ k, k < 15 → k ≠ x.slot → t.slotRank g k = s.slotRank g k) ∧ t.fld (Reg.RAS_GRP_STATE g) 1 0 = 2 ∧
        t.bitAt (Reg.INT_RAW Page.RAS) 2 = true ∧ s.sameRegs t (fun a => a / 0x1000 = Page.RAS ∨ a / 0x1000 = Page.LOGB ∨
          a = Reg.DMG_RANK_MAP_LO g ∨ a = Reg.DMG_RANK_MAP_HI g))) ∧
    (∀ (d : Dom) (v : W32), s.writable d Page.RAS → s.open Reg.RAS_INJECT_HI → admits Reg.RAS_INJECT_HI v →
      Answers (.rasInject d true v) s (fun t => t.rd Reg.RAS_INJECT_HI = kept Reg.RAS_INJECT_HI v ∧
        (bit v.toNat 31 = true → ∃ l, t.mem.inject = some (l, bits v.toNat 29 28) ∧
          64 * l = s.rd Reg.RAS_INJECT_LO / 64 * 64 + v.toNat % 256 * 2 ^ 32) ∧
        (bit v.toNat 31 = false → t.mem.inject = none) ∧ s.onlyRegs t (fun a => a = Reg.RAS_INJECT_HI))) ∧
    (∀ (d : Dom) (v : W32), s.writable d Page.RAS → s.open Reg.RAS_INJECT_LO → Answers (.rasInject d false v) s (fun t =>
        t.rd Reg.RAS_INJECT_LO = v.toNat / 64 * 64 ∧ s.onlyRegs t (fun a => a = Reg.RAS_INJECT_LO) ∧ s.sameMemory t))

/-- Heartbeats: a beat that reaches the Mooring refreshes its Landing's lease, one that its peer receives ends the
path's misses; a period without one is a miss, and three misses on both paths are a failed peer, which the receiver
answers with a claim (R328, R330, R331). That the other path delivers while it misses nothing is the model's reading
(log entry 41). -/
def Obligations.HeartbeatsAndMisses : Prop :=
  ∀ (s : State) (l : Landing),
    (∀ haws reach read, s.beats l = true → Answers (.landingHeartbeat l haws reach read) s (fun t =>
      (reach = true → (t.land l).lease = some s.clk ∧ t.bitAt Reg.MOOR_STATUS (2 + l.idx) = true) ∧
      (reach = false → (t.land l).lease = (s.land l).lease) ∧
      (haws = true → s.beats l.other = true → s.hbIgnored l.other false = false →
        (t.land l.other).hbHaws = s.clk ∧ (t.land l.other).missHaws = 0 ∧ t.bitAt Reg.HAWS_STATUS 1 = true) ∧
      (reach = true → read = true → s.beats l.other = true → s.hbIgnored l.other true = false →
        (t.land l.other).hbMail = s.clk ∧ (t.land l.other).missMail = 0) ∧
      s.sameRegs t (fun a => a = Reg.MOOR_STATUS ∨ a = Reg.HAWS_STATUS ∨ a = Reg.MOOR_PATH_FAULT_COUNT ∨
        a = Reg.INT_RAW Page.MOOR ∨ a / 0x1000 = Page.LOGB) ∧
      ((s.land l.other).missHaws < 3 → (s.land l.other).missMail < 3 → s.sameMemory t))) ∧
    (∀ mail, s.beats l = true → (if mail then (s.land l).hbMail else (s.land l).hbHaws) + 55000 ≤ s.clk →
      Answers (.hbMiss l mail) s (fun t =>
        (mail = true → (t.land l).missMail = (s.land l).missMail + 1 ∧ (t.land l).hbMail = s.clk ∧
          t.fld (Reg.LND_HB_MISS l.idx) 31 16 = min (s.fld (Reg.LND_HB_MISS l.idx) 31 16 + 1) 65535) ∧
        (mail = false → (t.land l).missHaws = (s.land l).missHaws + 1 ∧ (t.land l).hbHaws = s.clk ∧
          t.fld (Reg.LND_HB_MISS l.idx) 15 0 = min (s.fld (Reg.LND_HB_MISS l.idx) 15 0 + 1) 65535) ∧
        (3 ≤ (t.land l).missHaws → 3 ≤ (t.land l).missMail → (t.land l).peerFailed = true) ∧
        (3 ≤ (t.land l).missHaws → 3 ≤ (t.land l).missMail → (s.land l).peerFailed = false →
          (s.landState l = 3 ∨ s.landState l = 4) → (s.land l).noClaim = false → t.sends (.claim l)) ∧
        t.land l.other = s.land l.other ∧
        s.sameRegs t (fun a => a = Reg.LND_HB_MISS l.idx ∨ a = Reg.MOOR_STATUS ∨ a = Reg.HAWS_STATUS ∨
          a = Reg.MOOR_PATH_FAULT_COUNT ∨ a = Reg.INT_RAW Page.MOOR ∨ a / 0x1000 = Page.LOGB)))

/-- Leases, claims and fencing: a lease ends 200 µs after its last refresh, the holder's end frees the token and holds
what waits for a Landing; a claim is kept, opens the claim window, or meets a live claim of the other Landing as a
dual path fault; a claim against a fresh lease is refused (R327 to R329, R331, R335). The early claim that is cleared,
and the claim that a freed token brings, are the model's reading of R329 (log entry 40). -/
def Obligations.LeasesClaimsAndFences : Prop :=
  ∀ (s : State) (l : Landing), s.moor.held = [] →
    (∀ t0, (s.land l).lease = some t0 → t0 + 200000 ≤ s.clk → Answers (.leaseExpiry l) s (fun t =>
      (t.land l).lease = none ∧ t.bitAt Reg.MOOR_STATUS (2 + l.idx) = false ∧
      (s.holder = some l → t.holder = none ∧ t.moor.hold = true ∧ t.moor.lastHolder = some (l, t0) ∧
        t.moor.swapAtGate = false ∧ t.moor.sending = none ∧
        (s.landState l.other = 3 → s.claimOf l.other = none → t.sends (.claim l.other)) ∧
        (∀ c, s.claimOf l.other = some c → s.moor.window = none → t.moor.window = some (l.other, s.clk + 2000))) ∧
      (s.holder ≠ some l → t.holder = s.holder ∧ s.onlyRegs t (fun a => a = Reg.MOOR_STATUS) ∧ s.sameMemory t))) ∧
    (s.beats l = true → s.landState l ≠ 5 → (s.land l).noClaim = false ∨ s.holder ≠ some l.other →
      (s.holder.isSome = true ∨ s.moor.powerFree = false) → Answers (.tokenClaim l) s (fun t =>
        (s.holder = some l → s.claimLive l.other = false → t.claimOf l = some s.clk) ∧
        (s.holder = some l → s.claimLive l.other = true → t.claimOf l = none ∧ t.claimOf l.other = none ∧
          t.bitAt Reg.MOOR_STATUS 13 = true ∧ t.bitAt (Reg.INT_RAW Page.MOOR) 3 = true ∧
          (t.land l.other).noClaim = true) ∧
        (s.holder = some l.other → (s.land l.other).lease = none → t.claimOf l = some s.clk ∧
          (s.moor.window = none → t.moor.window = some (l, s.clk + 2000))) ∧
        (s.holder = some l.other → (s.land l.other).lease ≠ none → s.claimEarly l = true → t.claimOf l = s.claimOf l ∧
          t.claimOf l.other = s.claimOf l.other ∧ t.moor.window = s.moor.window ∧ s.onlyRegs t (fun _ => False)) ∧
        (s.holder = some l.other → (s.land l.other).lease ≠ none → s.claimEarly l = false →
          s.claimLive l.other = true → t.claimOf l = none ∧ t.claimOf l.other = none ∧
          t.bitAt Reg.MOOR_STATUS 13 = true ∧ t.bitAt (Reg.INT_RAW Page.MOOR) 3 = true ∧ (t.land l).noClaim = true) ∧
        (s.holder = some l.other → (s.land l.other).lease ≠ none → s.claimEarly l = false →
          s.claimLive l.other = false → s.claimOf l = none → t.claimOf l = some s.clk ∧ t.moor.window = s.moor.window) ∧
        (s.holder = none → t.claimOf l = some s.clk ∧
          (s.moor.window = none → t.moor.window = some (l, s.clk + 2000)) ∧
          (s.moor.window ≠ none → t.moor.window = s.moor.window)) ∧ t.holder = s.holder ∧
        s.onlyRegs t (fun a => a = Reg.MOOR_STATUS ∨ a = Reg.INT_RAW Page.MOOR) ∧ s.sameMemory t)) ∧
    (∀ c h, s.claimOf l = some c → s.holder = some h → c + 300000 ≤ s.clk → (s.land h).lease ≠ none →
      Answers (.claimRefused l) s (fun t => t.claimOf l = none ∧ t.claimOf l.other = s.claimOf l.other ∧
        (h ≠ l → t.bitAt (Reg.INT_RAW Page.MOOR) 4 = true) ∧ (h = l → s.onlyRegs t (fun _ => False)) ∧
        s.onlyRegs t (fun a => a = Reg.INT_RAW Page.MOOR) ∧ s.sameMemory t)) ∧
    (s.landState l ≠ 0 → s.landState l ≠ 6 → Answers (.landingFence l) s (fun t => t.landState l = 6 ∧
      (t.land l).fenced = true ∧ t.bitAt (Reg.INT_RAW (Page.LND l.idx)) 0 = true ∧ t.holder = s.holder ∧
      t.land l.other = s.land l.other ∧ t.landState l.other = s.landState l.other))

/-- The helm token is granted at the end of the claim window, to the preferred Landing of two that claim, and after
the wait for the preferred Landing at power-up (R329). The hold of a domain's requests ends 500 µs after a read that
waits: its requests leave the queue, and each read is answered (R463). What counts as simultaneous is the model's
reading of R329 (log entry 40). -/
def Obligations.HelmTokenGrantsAndHeldRequests : Prop :=
  (∀ s : State, s.moor.held = [] →
      (∀ l e, s.moor.window = some (l, e) → e ≤ s.clk → Answers .claimWindowEnd s (fun t =>
        s.grantsTo t (if s.simultaneous l e = true ∧ s.beats l.other = true then s.favoured else l))) ∧
      (∀ l t0, s.moor.heldClaim = some l → s.moor.pwrgoodAt = some t0 → t0 + 20000000 ≤ s.clk → s.holder = none →
        Answers .preferredWaitEnd s (fun t => s.grantsTo t l))) ∧
    (∀ (s : State) (d : Dom), s.moor.hold = true → s.holdDue d = true →
      (∀ x ∈ s.moor.held, ∃ e a, x.2 = HostReq.read e a) →
      Answers (.hostHoldTimeout d) s (fun t => d ∈ t.moor.holdOver ∧ t.moor.hold = true ∧
        t.moor.held = s.moor.held.filter (fun x => !(decide (reqDom x.2 = d))) ∧
        (∀ t0 a, (t0, HostReq.read d a) ∈ s.moor.held → ∃ v, t.sends (.readData d a v))))

/-- The Hawser's copy lane and its copies: the lane's status follows it, and a copy under way is lost with it; a copy
that arrives with a bad CRC is discarded and counted, a good one is kept and makes the standby SYNCED, one that the
standby's image cannot read does not, and a planned swap that waited for it passes the token (R332, R333, R340, R344,
R345). When SYNCED and NO_STANDBY are judged is the model's reading (log entry 41). -/
def Obligations.HawserLaneAndCopies : Prop :=
  (∀ s : State, (s.moor.held = [] → Answers .hawserLinkDown s (fun t => t.bitAt Reg.HAWS_STATUS 0 = false ∧
        t.moor.sending = none ∧ (s.moor.sending.isSome = true → t.bitAt Reg.HAWS_STATUS 2 = false ∧
          t.rd Reg.HAWS_COPY_ABORT_COUNT = min (s.rd Reg.HAWS_COPY_ABORT_COUNT + 1) 0xFFFFFFFF ∧
          t.bitAt (Reg.INT_RAW Page.HAWS) 0 = true) ∧
        (∀ l, t.land l = s.land l) ∧ s.sameRegs t (fun a => a / 0x1000 = Page.HAWS ∨ a / 0x1000 = Page.LOGB))) ∧
      Answers .hawserLinkUp s (fun t => t.bitAt Reg.HAWS_STATUS 0 = true ∧ t.moor = s.moor ∧
        s.onlyRegs t (fun a => a = Reg.HAWS_STATUS) ∧ s.sameMemory t)) ∧
    (∀ (s : State) (c : StateCopy) (h : Landing), s.moor.held = [] → s.moor.sending = some c → s.active = some h →
      Answers (.copyVerified false) s (fun t => t.moor.sending = none ∧ t.bitAt Reg.HAWS_STATUS 2 = false ∧
        t.rd Reg.HAWS_CRC_ERR_COUNT = min (s.rd Reg.HAWS_CRC_ERR_COUNT + 1) 0xFFFFFFFF ∧
        t.rd Reg.HAWS_COPY_ABORT_COUNT = min (s.rd Reg.HAWS_COPY_ABORT_COUNT + 1) 0xFFFFFFFF ∧
        t.bitAt (Reg.INT_RAW Page.HAWS) 0 = true ∧ (∀ l, t.land l = s.land l) ∧ t.holder = s.holder ∧
        s.sameRegs t (fun a => a / 0x1000 = Page.HAWS ∨ a / 0x1000 = Page.LOGB)) ∧
      (s.landState h.other = 3 → Answers (.copyVerified true) s (fun t => t.moor.sending = none ∧
        t.bitAt Reg.HAWS_STATUS 2 = false ∧ t.moor.afterSwap = (s.moor.swapAtGate && s.copyReads h.other c.fmt) ∧
        t.rd Reg.MOOR_LAST_COPY_SEQ = c.fs % 2 ^ 32 ∧ t.rd Reg.HAWS_COPY_TIME = (s.clk - c.sentAt) % 2 ^ 32 ∧
        t.rd Reg.HAWS_COPY_MAX = max (s.clk - c.sentAt) (s.rd Reg.HAWS_COPY_MAX) % 2 ^ 32 ∧
        (t.land h.other).copy = some c ∧
        (s.copyReads h.other c.fmt = false → t.synced h.other = false ∧ t.bitAt (Reg.LND_STATUS h.other.idx) 5 = true ∧
          t.holder = s.holder) ∧
        (s.copyReads h.other c.fmt = true → s.moor.swapAtGate = false → t.synced h.other = true ∧
          t.bitAt (Reg.LND_STATUS h.other.idx) 5 = false ∧ t.holder = s.holder ∧
          (s.synced h.other = false → t.bootOkSet h.other = true)) ∧
        (s.copyReads h.other c.fmt = true → s.moor.swapAtGate = true → t.holder = some h.other ∧ t.landState h.other = 4 ∧
          t.landState h = 3 ∧ t.moor.hold = false ∧ (t.land h).copy = none ∧ t.bitAt (Reg.INT_RAW Page.MOOR) 1 = true ∧
          t.rd Reg.MOOR_SWAP_COUNT = min (s.rd Reg.MOOR_SWAP_COUNT + 1) 0xFFFFFFFF))))

/-- A drill swaps to the standby and back or passes after its watch; the age of the last drill counts hours; after the
hold-off a revert waits for a gate, and a third revert in an hour disables it (R341 to R343). When a revert that waits
is given up, and from when the age counts, are the model's reading (log entries 41 and 42). -/
def Obligations.DrillsAndReverts : Prop :=
  ∀ s : State,
    (∀ d (v : W32) h, s.writable d Page.MOOR → bit v.toNat 0 = true → 1 ≤ bits v.toNat 31 16 → bits v.toNat 31 16 ≤ 3600 →
      s.moor.drill = none → s.holder = some h → Answers (.drillStart d v) s (fun t =>
        t.moor.drill = some (h, bit v.toNat 1, bits v.toNat 31 16) ∧ t.moor.swapWant = 1 ∧ t.moor.watchEnd = none ∧
        t.fld Reg.MOOR_DRILL_STATUS 1 0 = 1 ∧ t.fld Reg.MOOR_DRILL_STATUS 15 8 = 0 ∧ t.bitAt Reg.MOOR_DRILL 0 = false ∧
        s.onlyRegs t (fun a => a = Reg.MOOR_DRILL ∨ a = Reg.MOOR_DRILL_STATUS) ∧ s.sameMemory t)) ∧
    (∀ d (v : W32), s.writable d Page.MOOR → bit v.toNat 0 = true → 1 ≤ bits v.toNat 31 16 → bits v.toNat 31 16 ≤ 3600 →
      s.moor.drill.isSome = true → Answers (.drillStart d v) s (fun t => t.moor = s.moor ∧
        s.sameRegs t (fun a => a = Reg.INT_RAW Page.MOOR ∨ ∃ j, j < 4 ∧ a = Reg.ERR_CAPTURE0 Page.MOOR + 4 * j))) ∧
    (∀ e o ret w, s.moor.watchEnd = some e → s.moor.drill = some (o, ret, w) → e ≤ s.clk →
      Answers .drillWatchEnd s (fun t =>
        (ret = true → t.moor.swapWant = 2 ∧ t.moor.watchEnd = none ∧ t.moor.drill = s.moor.drill ∧
          s.onlyRegs t (fun _ => False) ∧ s.sameMemory t) ∧
        (ret = false → t.moor.drill = none ∧ t.moor.watchEnd = none ∧ t.fld Reg.MOOR_DRILL_STATUS 1 0 = 2 ∧
          t.fld Reg.MOOR_DRILL_STATUS 31 16 = 0 ∧ t.bitAt (Reg.INT_RAW Page.MOOR) 6 = true ∧ t.moor.ageFrom = s.clk ∧
          s.sameRegs t (fun a => a = Reg.MOOR_DRILL_STATUS ∨ a = Reg.INT_RAW Page.MOOR ∨ a / 0x1000 = Page.LOGB)))) ∧
    (s.moor.ageFrom + 3600000000000 ≤ s.clk → Answers .drillAgeHour s (fun t =>
      t.moor.ageFrom = s.moor.ageFrom + 3600000000000 ∧
      t.fld Reg.MOOR_DRILL_STATUS 31 16 = min (s.fld Reg.MOOR_DRILL_STATUS 31 16 + 1) 65535 ∧
      (s.fld Reg.MOOR_DRILL_STATUS 31 16 + 1 = s.rd Reg.MOOR_DRILL_DUE_H → s.fld Reg.MOOR_DRILL_STATUS 31 16 < 65535 →
        t.bitAt (Reg.INT_RAW Page.MOOR) 8 = true) ∧
      s.onlyRegs t (fun a => a = Reg.MOOR_DRILL_STATUS ∨ a = Reg.INT_RAW Page.MOOR) ∧ s.sameMemory t)) ∧
    (∀ t0, s.moor.revertFrom = some t0 → t0 + 1000000000 * s.rd Reg.MOOR_REVERT_HOLDOFF ≤ s.clk → s.moor.swapWant = 0 →
      Answers .revertHoldoffEnd s (fun t =>
        (s.recentReverts.length < 3 → t.moor.swapWant = 3 ∧ s.onlyRegs t (fun _ => False) ∧ s.sameMemory t) ∧
        (3 ≤ s.recentReverts.length → t.moor.swapWant = 0 ∧ t.bitAt Reg.MOOR_REVERT 0 = false ∧
          t.moor.revertFrom = none ∧ t.bitAt (Reg.INT_RAW Page.MOOR) 9 = true ∧
          s.sameRegs t (fun a => a = Reg.MOOR_REVERT ∨ a = Reg.INT_RAW Page.MOOR ∨ a / 0x1000 = Page.LOGB))))

/-- A Landing is reset and restarts: by REBOOT, by its watchdog, by its reset input and its rail; the loss of its
reference fences it (R327, R344, R348, R444, R449). When a lost reference is back is the model's reading (log entry
42). -/
def Obligations.LandingResetsAndRestarts : Prop :=
  ∀ (s : State) (l : Landing),
    (∀ d, s.writable d (Page.LND l.idx) → s.holder ≠ some l → Answers (.landingReboot d l) s (fun t => s.restarts t l ∧
      t.holder = s.holder ∧ t.land l.other = s.land l.other)) ∧
    (∀ d, s.writable d (Page.LND l.idx) → s.holder = some l → Answers (.landingReboot d l) s (fun t => t.moor = s.moor ∧
      s.sameRegs t (fun a => a = Reg.INT_RAW (Page.LND l.idx) ∨ ∃ j, j < 4 ∧ a = Reg.ERR_CAPTURE0 (Page.LND l.idx) + 4 * j) ∧
      s.sameMemory t)) ∧
    (s.moor.held = [] → s.landState l ≠ 0 → Answers (.watchdogExpiry l) s (fun t => s.restarts t l ∧ t.holder = s.holder ∧
      t.land l.other = s.land l.other)) ∧
    (s.moor.held = [] → Answers (.landingResetAssert l) s (fun t => t.landState l = 0 ∧ (t.land l).resetLow = true ∧
      (t.land l).fenced = true ∧ (t.land l).copy = none ∧ (t.land l).image = none ∧ t.claimOf l = none ∧
      t.synced l = false ∧ t.holder = s.holder ∧ t.land l.other = s.land l.other)) ∧
    (s.moor.held = [] → Answers (.landingRailLow l) s (fun t => t.landState l = 0 ∧ (t.land l).railLow = true ∧
      (t.land l).fenced = true ∧ (t.land l).copy = none ∧ (t.land l).image = none ∧ t.claimOf l = none ∧
      t.synced l = false ∧ t.holder = s.holder ∧ t.land l.other = s.land l.other)) ∧
    ((s.land l).resetLow = true → Answers (.landingResetRelease l) s (fun t => (t.land l).resetLow = false ∧
      t.rd (Reg.LND_RESTARTS l.idx) = min (s.rd (Reg.LND_RESTARTS l.idx) + 1) 0xFFFFFFFF ∧
      (s.moor.pwrgoodAt ≠ none → s.moor.resetLow = false → (s.land l).railLow = false → t.landState l = 1 ∧
        (t.land l).attemptAt = some s.clk) ∧
      (s.moor.pwrgoodAt = none ∨ s.moor.resetLow = true ∨ (s.land l).railLow = true → t.landState l = s.landState l) ∧
      t.holder = s.holder ∧ t.land l.other = s.land l.other ∧ s.sameMemory t)) ∧
    ((s.land l).railLow = true → Answers (.landingRailReturn l) s (fun t => (t.land l).railLow = false ∧
      t.rd (Reg.LND_RESTARTS l.idx) = min (s.rd (Reg.LND_RESTARTS l.idx) + 1) 0xFFFFFFFF ∧
      (s.moor.pwrgoodAt ≠ none → s.moor.resetLow = false → (s.land l).resetLow = false → t.landState l = 1 ∧
        (t.land l).attemptAt = some s.clk) ∧
      (s.moor.pwrgoodAt = none ∨ s.moor.resetLow = true ∨ (s.land l).resetLow = true → t.landState l = s.landState l) ∧
      t.holder = s.holder ∧ t.land l.other = s.land l.other ∧ s.sameMemory t)) ∧
    (s.moor.held = [] → s.landState l ≠ 0 → s.landState l ≠ 6 → Answers (.landingRefLoss l) s (fun t =>
      (t.land l).refLost = true ∧ (t.land l).fenced = true ∧ t.landState l = 6 ∧ t.holder = s.holder ∧
      t.land l.other = s.land l.other))

/-- Boot: an attempt's first steps, the image's checks, the start of firmware, the time limit of BOOT_OK, and the
commands of Slipway mode (R350, R357, R361 to R366). The order of counting and recording an attempt is the model's
reading (log entry 42). -/
def Obligations.BootAttempts : Prop :=
  ∀ (s : State) (l : Landing),
    (∀ st fuse sfdp octal, s.moor.held = [] → s.landState l = 1 → Answers (.bootAttempt l st fuse sfdp octal) s (fun t =>
      (st = false → s.bootFails t l 0x01 0 0) ∧
      (st = true → fuse = false → t.rd (bootReasonReg l) = 0x02) ∧
      (st = true → fuse = true → 3 ≤ s.failCount l → t.landState l = 5 ∧ t.bitAt (bootStateReg l) 1 = true) ∧
      (st = true → fuse = true → s.failCount l < 3 → t.sends (.claim l)) ∧
      (st = true → fuse = true → s.failCount l < 3 → sfdp = false → t.rd (bootReasonReg l) = 0x103) ∧
      (st = true → fuse = true → s.failCount l < 3 → sfdp = true → t.landState l = 2 ∧
        t.bitAt (Reg.LND_STATUS l.idx) 4 = true ∧ t.fld (bootStateReg l) 11 8 = 2 ∧
        t.bitAt (bootStateReg l) 4 = !octal ∧ t.fld (bootStateReg l) 3 2 = s.failCount l ∧ t.holder = s.holder ∧
        (s.interrupted l = true → t.rd (bootReasonReg l) = 0xF10)))) ∧
    (∀ x, s.moor.held = [] → s.landState l = 2 → Answers (.imageVerified l x) s (fun t =>
      (∀ c g d, s.imageFault l x = some (c, g, d) → t.rd (bootReasonReg l) = (c + g * 256 + d % 65536 * 65536) % 2 ^ 32 ∧
        t.bitAt (Reg.INT_RAW Page.BOOT) 0 = true ∧ (s.holder = some l → t.holder = none)) ∧
      (s.imageFault l x = none → x.init = false → t.rd (bootReasonReg l) = 0x60D) ∧
      (s.imageFault l x = none → x.init = true → (t.land l).image = some (s.imageOf l) ∧
        t.rd (Reg.LND_FW_VER l.idx) = (s.imageOf l).fw % 2 ^ 32 ∧
        t.rd (Reg.LND_COPY_FMT l.idx) = (s.imageOf l).copyFmt % 2 ^ 32 ∧ t.fld (bootStateReg l) 11 8 = 8 ∧
        t.landState l = (if s.holder = some l then 4 else 3) ∧ t.holder = s.holder))) ∧
    (∀ t0, s.moor.held = [] → (s.land l).attemptAt = some t0 → t0 + 10000000000 ≤ s.clk → s.bootOkSet l = false →
      Answers (.bootOkTimeout l) s (fun t => s.bootFails t l 0x0F 8 0)) ∧
    (∀ d, s.writable d Page.BOOT → s.open Reg.BOOT_SLIPWAY_CMD → s.landState l = 5 → Answers (.slipwayRetry d l) s
      (fun t => s.restarts t l ∧ t.fld (bootStateReg l) 3 2 = 0 ∧ t.holder = s.holder ∧
        t.land l.other = s.land l.other)) ∧
    (∀ d, s.writable d Page.BOOT → s.open Reg.BOOT_SLIPWAY_CMD → s.landState l = 2 ∨ s.landState l = 3 → s.holder ≠ some l →
      Answers (.slipwayEnter d l) s (fun t => t.landState l = 5 ∧ t.bitAt (bootStateReg l) 1 = true ∧
        t.bitAt (Reg.INT_RAW Page.BOOT) 1 = true ∧ t.claimOf l = none ∧ t.synced l = false ∧ (t.land l).copy = none ∧
        t.holder = s.holder ∧ t.land l.other = s.land l.other))

/-- Bring-up by the active Landing: each of its parts completes and is noted (R210, R309, R350, R378, R382). What the
board record sets and an empty Logbook's compaction are the model's choice (log entries 10 and 23). -/
def Obligations.BringUpCompletes : Prop :=
  ∀ (s : State) (l : Landing), s.active = some l → s.moor.bringUp = true →
    (∀ failed g, s.moor.held = [] → s.moor.memDone = false → g = s.fld Reg.DMG0_TRAIN_STATUS 3 0 → g ≤ 7 →
      Answers (.memTrainWaveDone failed) s (fun t =>
        ((s.trainWave g failed).ranksShort g = false → t.fld Reg.DMG0_TRAIN_STATUS 3 0 = g + 1 ∧
          t.bitAt (Reg.DMG_STATUS g) 0 = true ∧ t.moor.memDone = decide (g = 7) ∧
          (g = 7 → t.rd Reg.DOM_DRAM_F_BASE = t.rd Reg.DMG0_CAPACITY - 256)) ∧
        ((s.trainWave g failed).ranksShort g = true → t.rd (bootReasonReg l) = 0x70E + g * 65536 ∧
          t.bitAt (Reg.INT_RAW Page.BOOT) 0 = true ∧ t.holder = none ∧ t.moor.bringUp = false))) ∧
    (∀ fails, s.moor.grtDone = false → Answers (.grtBistDone fails) s (fun t => t.moor.grtDone = true ∧
      (∀ c e, (c, e) ∈ fails → c < 32 → e ≤ 32 → t.retired c e = true) ∧
      (∀ c, c < 32 → (t.col c).ready = true ∧ (t.col c).testing = false ∧
        (t.col c).active = ((List.range 33).filter (fun e => !(t.retired c e))).take 32 ∧
        (t.col c).spare = (((List.range 33).filter (fun e => !(t.retired c e))).drop 32).head?))) ∧
    (∀ ms, s.moor.logDone = false → Answers (.logbookReplayDone ms) s (fun t => t.moor.logDone = true ∧
      t.bitAt Reg.LOGB_STATUS 0 = true ∧ t.fld Reg.LOGB_REPLAY 15 0 = min ms 65535)) ∧
    (s.moor.memDone = true → s.moor.logDone = true → (s.seq.hasMap = true ∨ s.bitAt Reg.SEQ_PMAP_STATUS 4 = true) →
      s.moor.wearDone = false → Answers .wearLedgerRestored s (fun t => t.moor.wearDone = true ∧
        t.bitAt Reg.WEAR_STATUS 0 = true ∧ t.wear.ledger = wearReplay (s.bankRecs l (s.side l).cur) ∧
        t.wear.journal = wearReplay (s.bankRecs l (s.side l).cur) ∧ t.wear.capture = none))

/-- Flash checks and fuse operations: each starts only when none runs, is refused with its code, and ends with its
result (R359, R360, R368). The order of the checks of a fuse operation is the model's reading (log entry 42), and GO
stays as written (log entry 21). -/
def Obligations.FlashChecksAndFuses : Prop :=
  ∀ s : State,
    (∀ d (v : W32), s.writable d Page.BOOT → bit v.toNat 31 = true → s.moor.verify = none → s.active ≠ none →
      Answers (.flashVerify d v) s (fun t => t.moor.verify = some (Landing.ofIdx (bits v.toNat 0 0)) ∧
        t.rd Reg.BOOT_FLASH_STATUS = 1 ∧ s.onlyRegs t (fun a => a = Reg.BOOT_FLASH_STATUS) ∧ s.sameMemory t)) ∧
    (∀ x l, s.moor.verify = some l → Answers (.verifyDone x) s (fun t => t.moor.verify = none ∧
      t.bitAt (Reg.INT_RAW Page.BOOT) 3 = true ∧
      (s.imageFault l x = none → t.rd Reg.BOOT_FLASH_STATUS = 2 + s.flashLe l 0xC 1 % 128 * 65536) ∧
      (∀ c g d, s.imageFault l x = some (c, g, d) → t.rd Reg.BOOT_FLASH_STATUS =
        (c * 256 + s.flashLe l 0xC 1 % 128 * 65536) % 2 ^ 32) ∧
      s.onlyRegs t (fun a => a = Reg.BOOT_FLASH_STATUS ∨ a = Reg.INT_RAW Page.BOOT) ∧ s.sameMemory t)) ∧
    (∀ d op arg c, s.writable d Page.SEC → s.open Reg.SEC_FUSE_CMD → arg < 128 →
      (op = 1 ∧ c = .fuseRevoke d arg ∨ op = 2 ∧ c = .fuseAdvance d arg ∨ op = 3 ∧ arg = 0 ∧ c = .fuseLockJtag d) →
      Answers c s (fun t =>
        (s.moor.fuse = none → s.fuseCode op arg = 0 → t.moor.fuse = some (op, arg) ∧ t.rd Reg.SEC_FUSE_RESULT = 0x100 ∧
          t.bitAt Reg.SEC_STATUS 5 = true) ∧
        (s.moor.fuse = none → s.fuseCode op arg ≠ 0 → t.moor.fuse = none ∧
          t.rd Reg.SEC_FUSE_RESULT = s.fuseCode op arg ∧ t.rd Reg.SEC_STATUS = s.rd Reg.SEC_STATUS) ∧
        (s.moor.fuse ≠ none → t.moor.fuse = s.moor.fuse ∧ t.fld Reg.SEC_FUSE_RESULT 7 0 = 1 ∧
          t.rd Reg.SEC_STATUS = s.rd Reg.SEC_STATUS) ∧ t.rd Reg.SEC_ROLLBACK = s.rd Reg.SEC_ROLLBACK ∧
        s.onlyRegs t (fun a => a = Reg.SEC_FUSE_CMD ∨ a = Reg.SEC_FUSE_RESULT ∨ a = Reg.SEC_STATUS) ∧ s.sameMemory t)) ∧
    (∀ failed op arg, s.moor.fuse = some (op, arg) → arg ≤ 64 → Answers (.fuseDone failed) s (fun t =>
      t.moor.fuse = none ∧ t.rd Reg.SEC_FUSE_RESULT = (if failed.isSome then 6 else 0) ∧
      t.bitAt Reg.SEC_STATUS 5 = false ∧ t.bitAt (Reg.INT_RAW Page.SEC) 0 = true ∧
      (op = 1 → arg ≤ 3 → failed = none → t.bitAt Reg.SEC_STATUS (1 + arg) = true) ∧
      (op = 2 → failed = none → t.rd Reg.SEC_ROLLBACK = arg) ∧
      (∀ k, op = 2 → failed = some k → t.rd Reg.SEC_ROLLBACK = min arg (s.rd Reg.SEC_ROLLBACK + k)) ∧
      (op = 3 → failed = none → t.bitAt Reg.SEC_STATUS 0 = true) ∧
      (op ≠ 2 → t.rd Reg.SEC_ROLLBACK = s.rd Reg.SEC_ROLLBACK) ∧
      s.sameRegs t (fun a => a = Reg.SEC_FUSE_RESULT ∨ a = Reg.SEC_STATUS ∨ a = Reg.SEC_ROLLBACK ∨
        a = Reg.INT_RAW Page.SEC ∨ a / 0x1000 = Page.LOGB)))

/-- Power good and RESET_N: the whole device or all but what R348 names is reset, fuses and flashes remain, and with
both high both Landings' ROMs run (R348, R349, R395, R408, R445). What else RESET_N keeps is the model's reading (log
entry 48). -/
def Obligations.PowerGoodAndResetN : Prop :=
  ∀ s : State,
    Answers .pwrgoodFall s (fun t => t.moor.pwrgoodAt = none ∧ (∀ a, fuseReg a = true → t.reg a = s.reg a) ∧
      (∀ a, fuseReg a = false → a ≠ Reg.SEC_STATUS → t.reg a = regReset s.dev a) ∧ (∀ p, t.page p = pageReset p) ∧
      t.mem.flashA = s.mem.flashA ∧ t.mem.flashB = s.mem.flashB ∧ t.mem.dram = [] ∧ t.mem.pane = [] ∧
      t.moor.resetLow = s.moor.resetLow ∧ t.dev = s.dev) ∧
    (∀ sft, s.moor.pwrgoodAt = none → Answers (.pwrgoodRise sft) s (fun t => t.moor.pwrgoodAt = some s.clk ∧
      t.dev = { s.dev with sft3v3 := sft } ∧ t.mem.flashA = s.mem.flashA ∧ t.mem.flashB = s.mem.flashB ∧
      (∀ a, a / 0x1000 ≠ Page.SEC → a / 0x1000 ≠ Page.LND 0 → a / 0x1000 ≠ Page.LND 1 → a / 0x1000 ≠ Page.BOOT →
        t.reg a = regReset t.dev a) ∧
      (s.moor.resetLow = true → t.landState .a = 0 ∧ t.landState .b = 0) ∧
      (s.moor.resetLow = false → t.moor.t0 = s.clk ∧ ∀ l, (s.land l).resetLow = false → (s.land l).railLow = false →
        t.landState l = 1 ∧ (t.land l).attemptAt = some s.clk))) ∧
    Answers .resetNAssert s (fun t => t.moor.resetLow = true ∧ t.moor.pwrgoodAt = s.moor.pwrgoodAt ∧ t.armed = false ∧
      t.shut = s.shut ∧ t.hk.thermtrip = s.hk.thermtrip ∧ t.mem.pane = s.mem.pane ∧ t.mem.flashA = s.mem.flashA ∧
      t.mem.flashB = s.mem.flashB ∧ t.landState .a = 0 ∧ t.landState .b = 0 ∧
      (∀ a, keptReg a = true → a ≠ Reg.CART_STATUS → t.reg a = s.reg a) ∧
      (∀ a, keptReg a = false → a ≠ Reg.SEC_STATUS → a ≠ Reg.HKP_STATUS → t.reg a = regReset s.dev a) ∧
      (∀ p, (t.page p).owner = defaultOwner p ∧ (t.page p).lock = false ∧ (t.page p).unlocked = false)) ∧
    (s.moor.resetLow = true → Answers .resetNRelease s (fun t => t.moor.resetLow = false ∧ t.armed = false ∧
      t.shut = s.shut ∧ t.mem.pane = s.mem.pane ∧
      (s.moor.pwrgoodAt = none → t.landState .a = 0 ∧ t.landState .b = 0) ∧
      (s.moor.pwrgoodAt ≠ none → t.moor.t0 = s.clk ∧ ∀ l, (s.land l).resetLow = false → (s.land l).railLow = false →
        t.landState l = 1 ∧ (t.land l).attemptAt = some s.clk)))

/-- The Logbook: hours and notes take the next SEQ, the standby appends what it is sent, and a compaction starts and
ends (R373, R375 to R377, R386). The place of a record's fields, and a standby's compaction with the active Landing's,
are the model's choice (log entry 10). -/
def Obligations.LogbookRecordsAndCompaction : Prop :=
  ∀ (s : State) (l : Landing),
    (s.log.hoursAt ≤ s.clk → s.active = some l → Answers .hoursRecord s (fun t => t.log.hoursAt = s.clk + 3600000000000 ∧
      (s.logReady l 10 (leBytes 8 (s.rd Reg.TEL_POWERED_S) ++ leBytes 8 (s.rd Reg.TEL_OUTPUT_S)) → s.logged t l) ∧
      s.onlyRegs t (fun a => a / 0x1000 = Page.LOGB))) ∧
    (∀ d (v : W32), s.writable d Page.LOGB → bit v.toNat 0 = true →
      s.logReady l 9 (notePayload 0xFF s.frameSeq ((List.range 4).map (fun j => s.rd (Reg.LOGB_NOTE j)))) →
      Answers (.logbNoteGo d v) s (fun t => s.logged t l ∧ s.onlyRegs t (fun a => a / 0x1000 = Page.LOGB))) ∧
    (∀ r rest, s.active = some l → s.mirrorUp l.other = true → s.log.mirror = some r :: rest → Answers .logMirrorAppend s (fun t =>
      t.log.mirror = rest ∧ (t.side l.other).seq = r.seq ∧ t.side l = s.side l ∧
      (rest = [] → t.bitAt Reg.LOGB_STATUS 2 = true ∧ t.bitAt Reg.LOGB_STATUS 4 = false) ∧
      s.onlyRegs t (fun a => a = Reg.LOGB_STATUS))) ∧
    (∀ rest, s.active = some l → s.mirrorUp l.other = true → s.log.mirror = none :: rest → Answers .logMirrorAppend s (fun t =>
      t.log.mirror = rest ∧ (t.side l.other).seq = (s.side l).seq ∧ (t.side l.other).crc = (s.side l).crc ∧
      (t.side l.other).cur.gen = ((s.side l.other).cur.gen + 1) % 2 ^ 32 ∧ t.side l = s.side l ∧
      s.onlyRegs t (fun a => a = Reg.LOGB_STATUS))) ∧
    (∀ d (v : W32), s.writable d Page.LOGB → s.open Reg.LOGB_COMPACT_NOW → bit v.toNat 0 = true → s.active = some l →
      s.compacting = false → s.switching = false → Answers (.logbCompactNow d v) s (fun t => t.compacting = true ∧
        (t.side l).target.isSome = true ∧ (t.side l).cur = (s.side l).cur ∧ t.log.covered = (s.side l).seq ∧
        s.onlyRegs t (fun a => a = Reg.LOGB_STATUS))) ∧
    (∀ b, s.active = some l → s.compacting = true → (s.side l).target = some b → s.log.waiting = [] →
      Answers .compactEnd s (fun t => t.compacting = false ∧ t.bitAt Reg.LOGB_STATUS 3 = false ∧
        (t.side l).target = none ∧ (t.side l).cur.gen = b.gen ∧ s.logged t l ∧
        t.rd Reg.LOGB_COMPACT_COUNT = min (s.rd Reg.LOGB_COMPACT_COUNT + 1) 0xFFFFFFFF ∧
        t.bitAt (Reg.INT_RAW Page.LOGB) 0 = true ∧ s.onlyRegs t (fun a => a / 0x1000 = Page.LOGB)))

/-- The Wear ledger's captures and commands: a capture carries the ledger to the Logbook, its completion journals it,
and the commands snapshot, adopt and zero it (R381, R382, R384). The ledger of a capture and a record without room are
the model's reading (log entry 11). -/
def Obligations.WearCapturesAndCommands : Prop :=
  ∀ s : State,
    (s.wearReady = true → s.wear.deltaAt ≤ s.clk → s.wearFits 7 s.deltaPayload = true → Answers (.wearDeltaCapture [] []) s (fun t =>
      (∃ c, t.wear.capture = some c ∧ c.snapshot = false ∧ c.seq = t.rd Reg.LOGB_SEQ ∧
        (∀ i, i < wearEntries (s.wear.geom.getD (0, 0, 0)) → aget 0 i c.ledger = s.journal i + s.wearDelta i)) ∧
      t.wear.deltaAt = s.clk + 1000000000 * s.rd Reg.WEAR_DELTA_S ∧ t.wear.ledger = s.wear.ledger ∧
      s.sameRegs t (fun a => a / 0x1000 = Page.LOGB ∨ a / 0x1000 = Page.WEAR))) ∧
    (s.wearReady = true → s.wear.snapAt ≤ s.clk → s.wearFits 8 (s.snapshotPayload s.ledger) = true → Answers (.wearSnapshot [] []) s (fun t =>
      (∃ c, t.wear.capture = some c ∧ c.snapshot = true ∧ c.seq = t.rd Reg.LOGB_SEQ ∧ c.ledger = s.wear.ledger) ∧
      t.wear.snapAt = s.clk + 3600000000000 * s.rd Reg.WEAR_SNAP_H ∧ t.wear.ledger = s.wear.ledger ∧
      s.sameRegs t (fun a => a / 0x1000 = Page.LOGB ∨ a / 0x1000 = Page.WEAR))) ∧
    (∀ c, s.wear.capture = some c → Answers .wearRecordComplete s (fun t => t.wear.capture = none ∧
      t.wear.journal = c.ledger ∧ t.wear.cmd = false ∧ t.wear.ledger = s.wear.ledger ∧
      t.rd Reg.WEAR_LAST_SEQ = c.seq % 2 ^ 32 ∧ t.bitAt Reg.WEAR_CMD_STATUS 0 = false ∧
      s.onlyRegs t (fun a => a = Reg.WEAR_LAST_SEQ ∨ a = Reg.WEAR_CMD_STATUS) ∧ s.sameMemory t)) ∧
    (∀ d c p, s.writable d Page.WEAR → p < 64 → (c = .wearSnapshotNow d ∨ c = .wearAdopt d ∨ c = .wearResetPort d p) →
      (s.wear.cmd = true ∨ s.wear.capture.isSome = true) → Answers c s (fun t => t.fld Reg.WEAR_CMD_STATUS 7 4 = 1 ∧
        t.wear = s.wear ∧ s.onlyRegs t (fun a => a = Reg.WEAR_CMD_STATUS) ∧ s.sameMemory t)) ∧
    (∀ d, s.writable d Page.WEAR → s.wear.cmd = false → s.wear.capture = none →
      (s.wear.geom.isSome = true → Answers (.wearSnapshotNow d) s (fun t => t.wear.cmd = true ∧
        t.bitAt Reg.WEAR_CMD_STATUS 0 = true ∧ t.fld Reg.WEAR_CMD_STATUS 7 4 = 0 ∧ t.wear.ledger = s.wear.ledger ∧
        (s.wearFits 8 (s.snapshotPayload s.ledger) = true →
          ∃ c, t.wear.capture = some c ∧ c.snapshot = true ∧ c.ledger = s.wear.ledger) ∧
        (s.wearFits 8 (s.snapshotPayload s.ledger) = false → t.wear.capture = none ∧ t.wear.snapAt = s.clk))) ∧
      (s.seq.hasMap = true → Answers (.wearAdopt d) s (fun t => t.wear.cmd = true ∧
        t.bitAt Reg.WEAR_CMD_STATUS 0 = true ∧ t.wear.ledger = [] ∧ t.wear.journal = [] ∧
        t.wear.geom = some s.wearGeomNow ∧ t.bitAt Reg.WEAR_STATUS 1 = false)) ∧
      (∀ p, p < 64 → p ∈ s.portsOn → Answers (.wearResetPort d p) s (fun t => t.wear.cmd = true ∧
        t.bitAt Reg.WEAR_CMD_STATUS 0 = true ∧ (∀ i, i ∈ s.portEntries p → t.ledger i = 0) ∧
        (∀ i, i ∉ s.portEntries p → t.ledger i = s.ledger i))) ∧
      (∀ p, p < 64 → p ∉ s.portsOn → Answers (.wearResetPort d p) s (fun t => t.fld Reg.WEAR_CMD_STATUS 7 4 = 2 ∧
        t.wear = s.wear ∧ s.onlyRegs t (fun a => a = Reg.WEAR_CMD_STATUS) ∧ s.sameMemory t)))

/-- A housekeeping round stores each channel's reading, a broken one reads full scale, and a temperature at or beyond
its shutdown threshold for the second round in a row shuts the device down (R387 to R389, R395); a sensor mask that
would leave a pair without a sensor is ignored (R391). That SENSOR_BROKEN is raised at the transition is the model's
reading (log entry 43). -/
def Obligations.HousekeepingRound : Prop :=
  (∀ (s : State) (readings : List Int) (adcFail : List Nat), s.hk.roundAt ≤ s.clk →
      Answers (.hkRound readings adcFail) s (fun t => t.hk.roundAt = s.clk + 1000000 ∧
        t.rd Reg.HKP_ROUND_COUNT = (s.rd Reg.HKP_ROUND_COUNT + 1) % 2 ^ 32 ∧ t.bitAt Reg.HKP_STATUS 0 = true ∧
        (∀ c, c < 64 → s.chanHeld c = false → adcFail.contains (c / 16) = false → outsideRange c (readings.getD c 0) = false →
          t.fld (Reg.HKP_CH_READING c) 15 0 = bitsOfInt 16 (readings.getD c 0) ∧ t.broken c = false) ∧
        (∀ c, c < 64 → s.chanHeld c = false →
          adcFail.contains (c / 16) = true ∨ outsideRange c (readings.getD c 0) = true →
          t.fld (Reg.HKP_CH_READING c) 15 0 = (if c ≤ 47 then 0x0A00 else 0x7FFF) ∧ t.broken c = true ∧
          (s.broken c = false → t.bitAt (Reg.INT_RAW Page.HKP) 4 = true)) ∧
        (∀ c, c < 64 → s.chanHeld c = true → t.fld (Reg.HKP_CH_READING c) 15 0 = s.fld (Reg.HKP_CH_READING c) 15 0 ∧
          t.bit64 Reg.HKP_STALE_LO Reg.HKP_STALE_HI c = true) ∧
        (s.shut = true → t.shut = true) ∧
        (∀ c, c < 48 → s.chanHeld c = false → s.masked c = false → adcFail.contains (c / 16) = false →
          outsideRange c (readings.getD c 0) = false → s.bitAt (Reg.HKP_CH_THR1 c) 26 = true →
          s.bitAt (Reg.HKP_CH_THR1 c) 27 = false → s.threshold c 2 ≤ readings.getD c 0 → 3 * c + 2 ∈ s.hk.once →
          3 * c + 2 ∉ s.hk.asserted → s.shut = false → t.shut = true ∧ t.hk.thermtrip = true ∧
            t.bitAt (Reg.INT_RAW Page.HKP) 3 = true))) ∧
    (∀ (s : State) (d : Dom), s.writable d Page.HKP →
      (∀ high (v : W32), (s.page Page.HKP).unlocked = true → Answers (.hkpMaskWrite d high v) s (fun t =>
        ((∀ i, i < 32 → (if high then 32 else 0) + i ≤ 47 → bit v.toNat i = true →
            s.masked ((if high then 32 else 0) + i) = false →
            s.broken ((if high then 32 else 0) + (if i % 2 = 0 then i + 1 else i - 1)) = false ∧
            bit v.toNat (if i % 2 = 0 then i + 1 else i - 1) = false) →
          t.rd (if high then Reg.HKP_MASK_HI else Reg.HKP_MASK_LO) = v.toNat) ∧
        (∀ i, i < 32 → (if high then 32 else 0) + i ≤ 47 → bit v.toNat i = true →
            s.masked ((if high then 32 else 0) + i) = false →
            s.broken ((if high then 32 else 0) + (if i % 2 = 0 then i + 1 else i - 1)) = true ∨
            bit v.toNat (if i % 2 = 0 then i + 1 else i - 1) = true →
          t.rd (if high then Reg.HKP_MASK_HI else Reg.HKP_MASK_LO) =
            s.rd (if high then Reg.HKP_MASK_HI else Reg.HKP_MASK_LO)) ∧
        s.sameRegs t (fun a => a = Reg.HKP_MASK_LO ∨ a = Reg.HKP_MASK_HI ∨ a / 0x1000 = Page.LOGB ∨
          a = Reg.INT_RAW Page.HKP ∨ ∃ j, j < 4 ∧ a = Reg.ERR_CAPTURE0 Page.HKP + 4 * j))))

/-- R390: a write of a temperature channel's shutdown word above the grade's default, or with the enable cleared,
leaves the default there and is recorded in ERR_CAPTURE; a lower threshold is taken as written, and warning and
throttle thresholds are taken as written. What a write that clears the enable leaves is the model's reading (log entry
43). -/
def Obligations.ShutdownThresholds : Prop :=
  ∀ (s : State) (d : Dom) (ch : Nat) (v : W32), s.writable d Page.HKP → (s.page Page.HKP).unlocked = true → ch < 64 →
    Answers (.hkpThresholdWrite d ch false v) s (fun t => t.rd (Reg.HKP_CH_THR0 ch) = v.toNat ∧
      s.onlyRegs t (fun a => a = Reg.HKP_CH_THR0 ch) ∧ s.sameMemory t) ∧
    (ch ≤ 47 → bit v.toNat 26 = true → signedOf 16 (bits v.toNat 15 0) ≤ signedOf 16 (s.shutDefault ch) →
      Answers (.hkpThresholdWrite d ch true v) s (fun t => t.rd (Reg.HKP_CH_THR1 ch) = v.toNat % 2 ^ 28 ∧
        s.onlyRegs t (fun a => a = Reg.HKP_CH_THR1 ch) ∧ s.sameMemory t)) ∧
    (ch ≤ 47 → bit v.toNat 26 = false ∨ signedOf 16 (s.shutDefault ch) < signedOf 16 (bits v.toNat 15 0) →
      Answers (.hkpThresholdWrite d ch true v) s (fun t => t.bitAt (Reg.HKP_CH_THR1 ch) 26 = true ∧
        (signedOf 16 (s.shutDefault ch) < signedOf 16 (bits v.toNat 15 0) → t.threshold ch 2 = signedOf 16 (s.shutDefault ch)) ∧
        (s.bitAt (Reg.ERR_CAPTURE0 Page.HKP) 31 = false → t.rd (Reg.ERR_CAPTURE0 Page.HKP) =
            0x800000F4 + d.code * 0x10000 ∧ t.bitAt (Reg.INT_RAW Page.HKP) 31 = true) ∧
        (s.bitAt (Reg.ERR_CAPTURE0 Page.HKP) 31 = true → (t.page Page.HKP).lost = true) ∧
        s.sameRegs t (fun a => a = Reg.HKP_CH_THR1 ch ∨ a = Reg.INT_RAW Page.HKP ∨
          ∃ j, j < 4 ∧ a = Reg.ERR_CAPTURE0 Page.HKP + 4 * j) ∧ s.sameMemory t)) ∧
    (47 < ch → Answers (.hkpThresholdWrite d ch true v) s (fun t => t.rd (Reg.HKP_CH_THR1 ch) = v.toNat % 2 ^ 28 ∧
      s.onlyRegs t (fun a => a = Reg.HKP_CH_THR1 ch) ∧ s.sameMemory t))

/-- Calibrations: a result is kept with its quality, one below its floor is not applied and is tried again, and a
host's request waits or starts (R396, R398). The trims and the quality are operands (log entry 16). -/
def Obligations.Calibrations : Prop :=
  ∀ s : State,
    (∀ fn inst q trims, fn ≤ 2 → inst < 64 → 64 * fn + inst ∈ s.bmk.running → s.switching = false → s.crossing = false →
      Answers (.calDone fn inst q trims) s (fun t => (t.cal (64 * fn + inst)).done = true ∧
        (t.cal (64 * fn + inst)).qual = q ∧ (t.cal (64 * fn + inst)).poor = s.calPoor fn q ∧
        t.rd Reg.BMK_CAL_COUNT = min (s.rd Reg.BMK_CAL_COUNT + 1) 0xFFFFFFFF ∧
        t.bitAt (Reg.INT_RAW Page.BMK) 0 = true ∧
        (s.calPoor fn q = true → t.bitAt (Reg.INT_RAW Page.BMK) 1 = true ∧ t.bmk.trims = s.bmk.trims ∧
          (t.cal (64 * fn + inst)).retryAt = some (s.clk + 1000000000 * s.rd Reg.BMK_RETRY_S)) ∧
        (s.calPoor fn q = false → (t.cal (64 * fn + inst)).retryAt = none ∧
          (∀ j w, trims = [(j, w)] → j < 16 → t.trim (64 * fn + inst) j = w)) ∧
        (∀ k, k ≠ 64 * fn + inst → t.cal k = s.cal k) ∧
        s.sameRegs t (fun a => a / 0x1000 = Page.BMK ∨ a / 0x1000 = Page.LOGB ∨ ∃ c, c < 64 ∧ a = Reg.DCH_STATUS c))) ∧
    (∀ fn inst t0, (s.cal (64 * fn + inst)).retryAt = some t0 → t0 ≤ s.clk → Answers (.calRetry fn inst) s (fun t =>
      (t.cal (64 * fn + inst)).retryAt = none ∧
      (64 * fn + inst ∈ t.bmk.waiting ∨ 64 * fn + inst ∈ t.bmk.running) ∧
      s.onlyRegs t (fun a => a = Reg.BMK_STATUS ∨ ∃ c, c < 64 ∧ a = Reg.DCH_STATUS c) ∧ s.sameMemory t)) ∧
    (∀ d (v : W32), s.writable d Page.BMK → bit v.toNat 31 = true → bits v.toNat 14 8 < calCount (bits v.toNat 1 0) →
      Answers (.bmkCmd d v) s (fun t => (64 * bits v.toNat 1 0 + bits v.toNat 14 8 ∈ t.bmk.waiting ∨
        64 * bits v.toNat 1 0 + bits v.toNat 14 8 ∈ t.bmk.running) ∧
        s.onlyRegs t (fun a => a = Reg.BMK_STATUS ∨ ∃ c, c < 64 ∧ a = Reg.DCH_STATUS c) ∧ s.sameMemory t))

/-- The telemetry ring takes a record each interval (R401). The SMBus target: each command of R402 at the device's
address returns its data, the alert response returns the address, and what is no command is refused (R402, R453). The
start of the interval is the model's reading (log entry 43), and PEC is presumed from SMBus (log entry 44). -/
def Obligations.TelemetryAndSmbus : Prop :=
  (∀ s : State, s.bitAt Reg.TEL_CTRL 0 = true → s.tel.nextAt ≤ s.clk → Answers .telRecord s (fun t =>
      t.rd Reg.TEL_RING_HEAD = s.tel.recSeq % 2 ^ 32 ∧ t.tel.recSeq = (s.tel.recSeq + 1) % 2 ^ 32 ∧
      t.tel.nextAt = s.tel.nextAt + 1000000 * s.rd Reg.TEL_PERIOD_MS ∧ t.tel.ivHist = [] ∧ t.tel.ivFrames = 0 ∧
      t.bitAt (Reg.INT_RAW Page.TEL) 0 = true ∧
      (s.ringBase + 4096 * (s.tel.recSeq % 256) + 4096 ≤ s.capacity →
        t.dramBytes (s.ringBase + 4096 * (s.tel.recSeq % 256)) 4096 = s.telRecord ∧
        (∀ a, a < s.ringBase + 4096 * (s.tel.recSeq % 256) ∨ s.ringBase + 4096 * (s.tel.recSeq % 256) + 4096 ≤ a →
          t.dramBytes a 1 = s.dramBytes a 1) ∧
        s.onlyRegs t (fun a => a = Reg.TEL_RING_HEAD ∨ a = Reg.INT_RAW Page.TEL)) ∧
      t.mem.flashA = s.mem.flashA ∧ t.mem.flashB = s.mem.flashB ∧ t.mem.pane = s.mem.pane)) ∧
    (∀ (s : State) (addr : Nat),
      (addr = s.fld Reg.TEL_SMB_ADDR 6 0 →
        (∀ c, c < 64 → Answers (.smbReadChannel addr c) s (fun t =>
          (∃ p, t.sends (.smbus (leBytes 2 (s.rd (Reg.HKP_CH_READING c))) p)) ∧ s.onlyRegs t (fun _ => False) ∧ s.sameMemory t)) ∧
        Answers (.smbReadStatus addr) s (fun t => (∃ p, t.sends (.smbus (leBytes 2 (s.rd Reg.HKP_STATUS)) p)) ∧
          s.onlyRegs t (fun _ => False) ∧ s.sameMemory t) ∧
        Answers (.smbReadHottest addr) s (fun t => (∃ p, t.sends (.smbus (leBytes 2 (s.rd Reg.HKP_HOTTEST)) p)) ∧
          s.onlyRegs t (fun _ => False) ∧ s.sameMemory t) ∧
        Answers (.smbReadThrottle addr) s (fun t => (∃ p, t.sends (.smbus (leBytes 1 s.thrLevel) p)) ∧
          s.onlyRegs t (fun _ => False) ∧ s.sameMemory t) ∧
        Answers (.smbReadHours addr) s (fun t => (∃ p, t.sends (.smbus (leBytes 1 8 ++
            (leBytes 4 (s.rd Reg.TEL_POWERED_S) ++ leBytes 4 (s.rd Reg.TEL_OUTPUT_S))) p)) ∧
          s.onlyRegs t (fun _ => False) ∧ s.sameMemory t) ∧
        Answers (.smbReadSerial addr) s (fun t => (∃ p, t.sends (.smbus (leBytes 1 16 ++
            (List.range 4).flatMap (fun j => leBytes 4 (s.rd (Reg.GLB_SERIAL_ASCII j)))) p)) ∧
          s.onlyRegs t (fun _ => False) ∧ s.sameMemory t) ∧
        (∀ c, c ≤ 0x44 → Answers (.smbWrite addr c []) s (fun t => t.tel = { s.tel with smb := some c } ∧
          s.onlyRegs t (fun _ => False) ∧ s.sameMemory t)) ∧
        (∀ c data, 0x44 < c ∨ data ≠ [] → Answers (.smbWrite addr c data) s (fun t => t.sends .smbNack ∧
          s.onlyRegs t (fun _ => False) ∧ s.sameMemory t))) ∧
      (s.hk.alert = true → Answers (.smbAlertResponse 0x0C) s (fun t => t.hk.alert = false ∧
        (∃ p, t.sends (.smbus (leBytes 1 (2 * s.fld Reg.TEL_SMB_ADDR 6 0)) p)) ∧ s.onlyRegs t (fun _ => False) ∧
        s.sameMemory t)) ∧
      (∀ ms, 25 ≤ ms → Answers (.smbClockLowTimeout ms) s (fun t => t.tel = { s.tel with smb := none } ∧
        s.onlyRegs t (fun _ => False) ∧ s.sameMemory t)))
end

