-- ==== Sys2Proof/Laws/Assoc.lean ====
section
/-! SUPPORT. The laws of the sparse maps: a read after a write, and the canonical form. -/

namespace Sys2Proof.Machine

theorem aget_adrop {α : Type} (d : α) (k : Nat) (p : Nat → Bool) (m : List (Nat × α)) :
    aget d k (adrop p m) = if p k then d else aget d k m := by
  induction m with
  | nil => simp [adrop, aget]
  | cons x m ih =>
    obtain ⟨j, w⟩ := x
    by_cases hp : p j <;> by_cases hk : j = k
    · subst hk; simp [adrop, hp, ih]
    · simp [adrop, aget, hp, hk, ih]
    · subst hk; simp [adrop, aget, hp]
    · simp [adrop, aget, hp, hk, ih]

@[simp] theorem aget_aset_same {α : Type} [DecidableEq α] (d : α) (k : Nat) (v : α) (m : List (Nat × α)) :
    aget d k (aset d k v m) = v := by
  induction m with
  | nil => by_cases hv : v = d <;> simp [aset, aget, hv]
  | cons x m ih =>
    obtain ⟨j, w⟩ := x
    unfold aset
    split
    · simp [aget, ih, Nat.ne_of_lt ‹_›]
    · split
      · next h => rw [aget_adrop]; simp [h]
      · split <;> simp [aget]

theorem aget_aset_other {α : Type} [DecidableEq α] (d e : α) {k i : Nat} (v : α) (m : List (Nat × α)) (h : i ≠ k) :
    aget e i (aset d k v m) = aget e i m := by
  induction m with
  | nil => by_cases hv : v = d <;> simp [aset, aget, hv, Ne.symm h]
  | cons x m ih =>
    obtain ⟨j, w⟩ := x
    unfold aset
    split
    · simp [aget, ih]
    · split
      · rw [aget_adrop]; simp [h]
      · split
        · next hj => subst hj; simp [aget, Ne.symm h]
        · simp [aget, Ne.symm h]

theorem aget_aset {α : Type} [DecidableEq α] (d : α) (k i : Nat) (v : α) (m : List (Nat × α)) :
    aget d i (aset d k v m) = if i = k then v else aget d i m := by
  split
  · next h => subst h; simp
  · next h => exact aget_aset_other d d v m h

theorem awfFrom_mono {α : Type} [DecidableEq α] (d : Nat → α) {lo hi : Nat} (m : List (Nat × α)) (h : lo ≤ hi)
    (w : awfFrom d hi m = true) : awfFrom d lo m = true := by
  cases m with
  | nil => rfl
  | cons x m =>
    obtain ⟨j, v⟩ := x
    simp only [awfFrom, Bool.and_eq_true, decide_eq_true_eq] at w ⊢
    exact ⟨⟨by omega, w.1.2⟩, w.2⟩

theorem awfFrom_adrop {α : Type} [DecidableEq α] (d : Nat → α) (p : Nat → Bool) (m : List (Nat × α)) :
    ∀ lo, awfFrom d lo m = true → awfFrom d lo (adrop p m) = true := by
  induction m with
  | nil => intro lo h; exact h
  | cons x m ih =>
    intro lo h
    obtain ⟨j, v⟩ := x
    simp only [awfFrom, Bool.and_eq_true, decide_eq_true_eq] at h
    by_cases hp : p j
    · simp only [adrop, hp, if_true]; exact ih lo (awfFrom_mono d m (by omega) h.2)
    · simp only [adrop, if_neg hp, awfFrom, Bool.and_eq_true, decide_eq_true_eq]
      exact ⟨h.1, ih _ h.2⟩

theorem awfFrom_aset {α : Type} [DecidableEq α] (d : Nat → α) (k : Nat) (v : α) (m : List (Nat × α)) :
    ∀ lo, lo ≤ k → awfFrom d lo m = true → awfFrom d lo (aset (d k) k v m) = true := by
  induction m with
  | nil =>
    intro lo hk _
    by_cases hv : v = d k <;> simp [aset, awfFrom, hv, hk]
  | cons x m ih =>
    intro lo hk h
    obtain ⟨j, w⟩ := x
    have h0 := h
    simp only [awfFrom, Bool.and_eq_true, decide_eq_true_eq] at h
    unfold aset
    split
    · simp only [awfFrom, Bool.and_eq_true, decide_eq_true_eq]
      exact ⟨h.1, ih _ (by omega) h.2⟩
    · split
      · exact awfFrom_adrop d _ _ lo h0
      · split
        · next hj =>
          subst hj
          simp only [awfFrom, Bool.and_eq_true, decide_eq_true_eq]
          exact ⟨⟨hk, ‹_›⟩, h.2⟩
        · simp only [awfFrom, Bool.and_eq_true, decide_eq_true_eq]
          exact ⟨⟨hk, ‹_›⟩, ⟨by omega, h.1.2⟩, h.2⟩

/-- Removing entries keeps the canonical form. -/
theorem awf_adrop {α : Type} [DecidableEq α] (d : Nat → α) (p : Nat → Bool) (m : List (Nat × α))
    (h : awf d m = true) : awf d (adrop p m) = true := awfFrom_adrop d p m 0 h

/-- A write keeps the canonical form. -/
theorem awf_aset {α : Type} [DecidableEq α] (d : Nat → α) (k : Nat) (v : α) (m : List (Nat × α))
    (h : awf d m = true) : awf d (aset (d k) k v m) = true := awfFrom_aset d k v m 0 (Nat.zero_le k) h

/-- A write of many bytes keeps the canonical form of a map with one default. -/
theorem awf_asetMany {α : Type} [DecidableEq α] (d : α) (vs : List α) :
    ∀ (k : Nat) (m : List (Nat × α)), awf (fun _ => d) m = true → awf (fun _ => d) (asetMany d k vs m) = true := by
  induction vs with
  | nil => intro k m h; exact h
  | cons v vs ih => intro k m h; exact ih _ _ (awf_aset (fun _ => d) k v m h)

theorem aget_asetMany_other {α : Type} [DecidableEq α] (d : α) (vs : List α) :
    ∀ (k i : Nat) (m : List (Nat × α)), i < k ∨ k + vs.length ≤ i → aget d i (asetMany d k vs m) = aget d i m := by
  induction vs with
  | nil => intro k i m _; rfl
  | cons v vs ih =>
    intro k i m h
    simp only [asetMany, List.length_cons] at *
    rw [ih (k + 1) i _ (by omega), aget_aset_other d d v m (by omega)]

theorem aget_asetMany_at {α : Type} [DecidableEq α] (d : α) (vs : List α) :
    ∀ (k i : Nat) (m : List (Nat × α)) (h : i < vs.length), aget d (k + i) (asetMany d k vs m) = vs[i] := by
  induction vs with
  | nil => intro k i m h; simp at h
  | cons v vs ih =>
    intro k i m h
    cases i with
    | zero =>
      simp only [asetMany, Nat.add_zero, List.getElem_cons_zero]
      rw [aget_asetMany_other d vs (k + 1) k _ (by omega)]; simp
    | succ i =>
      rw [List.length_cons] at h
      simp only [asetMany, List.getElem_cons_succ]
      rw [show k + (i + 1) = (k + 1) + i by omega]; exact ih _ _ _ (by omega)

/-- What was written at consecutive keys is what is read there. -/
theorem agetMany_asetMany {α : Type} [DecidableEq α] (d : α) (vs : List α) :
    ∀ (k : Nat) (m : List (Nat × α)), agetMany d k vs.length (asetMany d k vs m) = vs := by
  induction vs with
  | nil => intro k m; rfl
  | cons v vs ih =>
    intro k m
    simp only [asetMany, List.length_cons, agetMany]
    rw [aget_asetMany_other d vs (k + 1) k _ (by omega), ih]; simp

/-- Two maps in the canonical form that read alike are equal data. -/
theorem awfFrom_ext {α : Type} [DecidableEq α] (d : Nat → α) (m : List (Nat × α)) :
    ∀ (n : List (Nat × α)) (lo : Nat), awfFrom d lo m = true → awfFrom d lo n = true →
      (∀ k, aget (d k) k m = aget (d k) k n) → m = n := by
  have below : ∀ (l : List (Nat × α)) (lo k : Nat), awfFrom d lo l = true → k < lo → aget (d k) k l = d k := by
    intro l
    induction l with
    | nil => intro lo k _ _; rfl
    | cons x l ih =>
      intro lo k h hk
      obtain ⟨j, v⟩ := x
      simp only [awfFrom, Bool.and_eq_true, decide_eq_true_eq] at h
      rw [aget, if_neg (by omega)]
      exact ih (j + 1) k h.2 (by omega)
  induction m with
  | nil =>
    intro n lo _ hn he
    cases n with
    | nil => rfl
    | cons y n =>
      obtain ⟨j, v⟩ := y
      simp only [awfFrom, Bool.and_eq_true, decide_eq_true_eq] at hn
      have := he j
      simp only [aget, if_true] at this
      exact absurd this.symm hn.1.2
  | cons x m ih =>
    intro n lo hm hn he
    obtain ⟨j, v⟩ := x
    have hm' := hm
    simp only [awfFrom, Bool.and_eq_true, decide_eq_true_eq] at hm
    cases n with
    | nil =>
      have := he j
      simp only [aget, if_true] at this
      exact absurd this hm.1.2
    | cons y n =>
      obtain ⟨i, w⟩ := y
      have hn' := hn
      simp only [awfFrom, Bool.and_eq_true, decide_eq_true_eq] at hn
      rcases Nat.lt_trichotomy j i with hji | hji | hji
      · have := he j
        rw [aget, if_pos rfl, aget, if_neg (by omega), below n (i + 1) j hn.2 (by omega)] at this
        exact absurd this hm.1.2
      · subst hji
        have hv := he j
        simp only [aget, if_true] at hv
        subst hv
        have : m = n := by
          apply ih n (j + 1) hm.2 hn.2
          intro k
          by_cases hk : j = k
          · subst hk
            rw [below m (j + 1) j hm.2 (by omega), below n (j + 1) j hn.2 (by omega)]
          · have := he k
            simpa only [aget, if_neg hk] using this
        rw [this]
      · have := he i
        rw [aget, if_neg (by omega), aget, if_pos rfl, below m (j + 1) i hm.2 (by omega)] at this
        exact absurd this.symm hn.1.2

/-- Maps in the canonical form are equal exactly when every key reads alike. -/
theorem awf_ext {α : Type} [DecidableEq α] (d : Nat → α) {m n : List (Nat × α)} (hm : awf d m = true)
    (hn : awf d n = true) (h : ∀ k, aget (d k) k m = aget (d k) k n) : m = n :=
  awfFrom_ext d m n 0 hm hn h

end Sys2Proof.Machine
end

