-- ==== Sys2Proof/Laws/State.lean ====
section
/-! SUPPORT. What each named operation leaves alone: one lemma per field per operation, so that no later proof unfolds a record
update. -/

namespace Sys2Proof.Machine

variable (s : State)


@[simp] theorem State.setReg_pending (a : Nat) (v : W32) : (s.setReg a v).pending = s.pending := rfl
@[simp] theorem State.setReg_clk (a : Nat) (v : W32) : (s.setReg a v).clk = s.clk := rfl
@[simp] theorem State.setReg_fresh (a : Nat) (v : W32) : (s.setReg a v).fresh = s.fresh := rfl
@[simp] theorem State.setReg_dev (a : Nat) (v : W32) : (s.setReg a v).dev = s.dev := rfl
@[simp] theorem State.setReg_pend (a : Nat) (v : W32) : (s.setReg a v).pend = s.pend := rfl
@[simp] theorem State.setReg_force (a : Nat) (v : W32) : (s.setReg a v).force = s.force := rfl
@[simp] theorem State.setReg_pages (a : Nat) (v : W32) : (s.setReg a v).pages = s.pages := rfl
@[simp] theorem State.setReg_ep0 (a : Nat) (v : W32) : (s.setReg a v).ep0 = s.ep0 := rfl
@[simp] theorem State.setReg_ep1 (a : Nat) (v : W32) : (s.setReg a v).ep1 = s.ep1 := rfl
@[simp] theorem State.setReg_dtm (a : Nat) (v : W32) : (s.setReg a v).dtm = s.dtm := rfl
@[simp] theorem State.setReg_ing (a : Nat) (v : W32) : (s.setReg a v).ing = s.ing := rfl
@[simp] theorem State.setReg_atl (a : Nat) (v : W32) : (s.setReg a v).atl = s.atl := rfl
@[simp] theorem State.setReg_lay (a : Nat) (v : W32) : (s.setReg a v).lay = s.lay := rfl
@[simp] theorem State.setReg_grt (a : Nat) (v : W32) : (s.setReg a v).grt = s.grt := rfl
@[simp] theorem State.setReg_link (a : Nat) (v : W32) : (s.setReg a v).link = s.link := rfl
@[simp] theorem State.setReg_hk (a : Nat) (v : W32) : (s.setReg a v).hk = s.hk := rfl
@[simp] theorem State.setReg_queues (a : Nat) (v : W32) : (s.setReg a v).queues = s.queues := rfl
@[simp] theorem State.setReg_gwy (a : Nat) (v : W32) : (s.setReg a v).gwy = s.gwy := rfl
@[simp] theorem State.setReg_bmk (a : Nat) (v : W32) : (s.setReg a v).bmk = s.bmk := rfl
@[simp] theorem State.setReg_tel (a : Nat) (v : W32) : (s.setReg a v).tel = s.tel := rfl
@[simp] theorem State.setReg_cart (a : Nat) (v : W32) : (s.setReg a v).cart = s.cart := rfl
@[simp] theorem State.setReg_log (a : Nat) (v : W32) : (s.setReg a v).log = s.log := rfl
@[simp] theorem State.setReg_wear (a : Nat) (v : W32) : (s.setReg a v).wear = s.wear := rfl
@[simp] theorem State.setReg_moor (a : Nat) (v : W32) : (s.setReg a v).moor = s.moor := rfl
@[simp] theorem State.setReg_ram (a : Nat) (v : W32) : (s.setReg a v).ram = s.ram := rfl
@[simp] theorem State.setReg_mem (a : Nat) (v : W32) : (s.setReg a v).mem = s.mem := rfl
@[simp] theorem State.setReg_seq (a : Nat) (v : W32) : (s.setReg a v).seq = s.seq := rfl
@[simp] theorem State.setReg_sent (a : Nat) (v : W32) : (s.setReg a v).sent = s.sent := rfl

@[simp] theorem State.wr_pending (a v : Nat) : (s.wr a v).pending = s.pending := rfl
@[simp] theorem State.wr_clk (a v : Nat) : (s.wr a v).clk = s.clk := rfl
@[simp] theorem State.wr_fresh (a v : Nat) : (s.wr a v).fresh = s.fresh := rfl
@[simp] theorem State.wr_dev (a v : Nat) : (s.wr a v).dev = s.dev := rfl
@[simp] theorem State.wr_pend (a v : Nat) : (s.wr a v).pend = s.pend := rfl
@[simp] theorem State.wr_force (a v : Nat) : (s.wr a v).force = s.force := rfl
@[simp] theorem State.wr_pages (a v : Nat) : (s.wr a v).pages = s.pages := rfl
@[simp] theorem State.wr_ep0 (a v : Nat) : (s.wr a v).ep0 = s.ep0 := rfl
@[simp] theorem State.wr_ep1 (a v : Nat) : (s.wr a v).ep1 = s.ep1 := rfl
@[simp] theorem State.wr_dtm (a v : Nat) : (s.wr a v).dtm = s.dtm := rfl
@[simp] theorem State.wr_ing (a v : Nat) : (s.wr a v).ing = s.ing := rfl
@[simp] theorem State.wr_atl (a v : Nat) : (s.wr a v).atl = s.atl := rfl
@[simp] theorem State.wr_lay (a v : Nat) : (s.wr a v).lay = s.lay := rfl
@[simp] theorem State.wr_grt (a v : Nat) : (s.wr a v).grt = s.grt := rfl
@[simp] theorem State.wr_link (a v : Nat) : (s.wr a v).link = s.link := rfl
@[simp] theorem State.wr_hk (a v : Nat) : (s.wr a v).hk = s.hk := rfl
@[simp] theorem State.wr_queues (a v : Nat) : (s.wr a v).queues = s.queues := rfl
@[simp] theorem State.wr_gwy (a v : Nat) : (s.wr a v).gwy = s.gwy := rfl
@[simp] theorem State.wr_bmk (a v : Nat) : (s.wr a v).bmk = s.bmk := rfl
@[simp] theorem State.wr_tel (a v : Nat) : (s.wr a v).tel = s.tel := rfl
@[simp] theorem State.wr_cart (a v : Nat) : (s.wr a v).cart = s.cart := rfl
@[simp] theorem State.wr_log (a v : Nat) : (s.wr a v).log = s.log := rfl
@[simp] theorem State.wr_wear (a v : Nat) : (s.wr a v).wear = s.wear := rfl
@[simp] theorem State.wr_moor (a v : Nat) : (s.wr a v).moor = s.moor := rfl
@[simp] theorem State.wr_ram (a v : Nat) : (s.wr a v).ram = s.ram := rfl
@[simp] theorem State.wr_mem (a v : Nat) : (s.wr a v).mem = s.mem := rfl
@[simp] theorem State.wr_seq (a v : Nat) : (s.wr a v).seq = s.seq := rfl
@[simp] theorem State.wr_sent (a v : Nat) : (s.wr a v).sent = s.sent := rfl

@[simp] theorem State.setFld_pending (a hi lo v : Nat) : (s.setFld a hi lo v).pending = s.pending := rfl
@[simp] theorem State.setFld_clk (a hi lo v : Nat) : (s.setFld a hi lo v).clk = s.clk := rfl
@[simp] theorem State.setFld_fresh (a hi lo v : Nat) : (s.setFld a hi lo v).fresh = s.fresh := rfl
@[simp] theorem State.setFld_dev (a hi lo v : Nat) : (s.setFld a hi lo v).dev = s.dev := rfl
@[simp] theorem State.setFld_pend (a hi lo v : Nat) : (s.setFld a hi lo v).pend = s.pend := rfl
@[simp] theorem State.setFld_force (a hi lo v : Nat) : (s.setFld a hi lo v).force = s.force := rfl
@[simp] theorem State.setFld_pages (a hi lo v : Nat) : (s.setFld a hi lo v).pages = s.pages := rfl
@[simp] theorem State.setFld_ep0 (a hi lo v : Nat) : (s.setFld a hi lo v).ep0 = s.ep0 := rfl
@[simp] theorem State.setFld_ep1 (a hi lo v : Nat) : (s.setFld a hi lo v).ep1 = s.ep1 := rfl
@[simp] theorem State.setFld_dtm (a hi lo v : Nat) : (s.setFld a hi lo v).dtm = s.dtm := rfl
@[simp] theorem State.setFld_ing (a hi lo v : Nat) : (s.setFld a hi lo v).ing = s.ing := rfl
@[simp] theorem State.setFld_atl (a hi lo v : Nat) : (s.setFld a hi lo v).atl = s.atl := rfl
@[simp] theorem State.setFld_lay (a hi lo v : Nat) : (s.setFld a hi lo v).lay = s.lay := rfl
@[simp] theorem State.setFld_grt (a hi lo v : Nat) : (s.setFld a hi lo v).grt = s.grt := rfl
@[simp] theorem State.setFld_link (a hi lo v : Nat) : (s.setFld a hi lo v).link = s.link := rfl
@[simp] theorem State.setFld_hk (a hi lo v : Nat) : (s.setFld a hi lo v).hk = s.hk := rfl
@[simp] theorem State.setFld_queues (a hi lo v : Nat) : (s.setFld a hi lo v).queues = s.queues := rfl
@[simp] theorem State.setFld_gwy (a hi lo v : Nat) : (s.setFld a hi lo v).gwy = s.gwy := rfl
@[simp] theorem State.setFld_bmk (a hi lo v : Nat) : (s.setFld a hi lo v).bmk = s.bmk := rfl
@[simp] theorem State.setFld_tel (a hi lo v : Nat) : (s.setFld a hi lo v).tel = s.tel := rfl
@[simp] theorem State.setFld_cart (a hi lo v : Nat) : (s.setFld a hi lo v).cart = s.cart := rfl
@[simp] theorem State.setFld_log (a hi lo v : Nat) : (s.setFld a hi lo v).log = s.log := rfl
@[simp] theorem State.setFld_wear (a hi lo v : Nat) : (s.setFld a hi lo v).wear = s.wear := rfl
@[simp] theorem State.setFld_moor (a hi lo v : Nat) : (s.setFld a hi lo v).moor = s.moor := rfl
@[simp] theorem State.setFld_ram (a hi lo v : Nat) : (s.setFld a hi lo v).ram = s.ram := rfl
@[simp] theorem State.setFld_mem (a hi lo v : Nat) : (s.setFld a hi lo v).mem = s.mem := rfl
@[simp] theorem State.setFld_seq (a hi lo v : Nat) : (s.setFld a hi lo v).seq = s.seq := rfl
@[simp] theorem State.setFld_sent (a hi lo v : Nat) : (s.setFld a hi lo v).sent = s.sent := rfl

@[simp] theorem State.setBit_pending (a i : Nat) (b : Bool) : (s.setBit a i b).pending = s.pending := rfl
@[simp] theorem State.setBit_clk (a i : Nat) (b : Bool) : (s.setBit a i b).clk = s.clk := rfl
@[simp] theorem State.setBit_fresh (a i : Nat) (b : Bool) : (s.setBit a i b).fresh = s.fresh := rfl
@[simp] theorem State.setBit_dev (a i : Nat) (b : Bool) : (s.setBit a i b).dev = s.dev := rfl
@[simp] theorem State.setBit_pend (a i : Nat) (b : Bool) : (s.setBit a i b).pend = s.pend := rfl
@[simp] theorem State.setBit_force (a i : Nat) (b : Bool) : (s.setBit a i b).force = s.force := rfl
@[simp] theorem State.setBit_pages (a i : Nat) (b : Bool) : (s.setBit a i b).pages = s.pages := rfl
@[simp] theorem State.setBit_ep0 (a i : Nat) (b : Bool) : (s.setBit a i b).ep0 = s.ep0 := rfl
@[simp] theorem State.setBit_ep1 (a i : Nat) (b : Bool) : (s.setBit a i b).ep1 = s.ep1 := rfl
@[simp] theorem State.setBit_dtm (a i : Nat) (b : Bool) : (s.setBit a i b).dtm = s.dtm := rfl
@[simp] theorem State.setBit_ing (a i : Nat) (b : Bool) : (s.setBit a i b).ing = s.ing := rfl
@[simp] theorem State.setBit_atl (a i : Nat) (b : Bool) : (s.setBit a i b).atl = s.atl := rfl
@[simp] theorem State.setBit_lay (a i : Nat) (b : Bool) : (s.setBit a i b).lay = s.lay := rfl
@[simp] theorem State.setBit_grt (a i : Nat) (b : Bool) : (s.setBit a i b).grt = s.grt := rfl
@[simp] theorem State.setBit_link (a i : Nat) (b : Bool) : (s.setBit a i b).link = s.link := rfl
@[simp] theorem State.setBit_hk (a i : Nat) (b : Bool) : (s.setBit a i b).hk = s.hk := rfl
@[simp] theorem State.setBit_queues (a i : Nat) (b : Bool) : (s.setBit a i b).queues = s.queues := rfl
@[simp] theorem State.setBit_gwy (a i : Nat) (b : Bool) : (s.setBit a i b).gwy = s.gwy := rfl
@[simp] theorem State.setBit_bmk (a i : Nat) (b : Bool) : (s.setBit a i b).bmk = s.bmk := rfl
@[simp] theorem State.setBit_tel (a i : Nat) (b : Bool) : (s.setBit a i b).tel = s.tel := rfl
@[simp] theorem State.setBit_cart (a i : Nat) (b : Bool) : (s.setBit a i b).cart = s.cart := rfl
@[simp] theorem State.setBit_log (a i : Nat) (b : Bool) : (s.setBit a i b).log = s.log := rfl
@[simp] theorem State.setBit_wear (a i : Nat) (b : Bool) : (s.setBit a i b).wear = s.wear := rfl
@[simp] theorem State.setBit_moor (a i : Nat) (b : Bool) : (s.setBit a i b).moor = s.moor := rfl
@[simp] theorem State.setBit_ram (a i : Nat) (b : Bool) : (s.setBit a i b).ram = s.ram := rfl
@[simp] theorem State.setBit_mem (a i : Nat) (b : Bool) : (s.setBit a i b).mem = s.mem := rfl
@[simp] theorem State.setBit_seq (a i : Nat) (b : Bool) : (s.setBit a i b).seq = s.seq := rfl
@[simp] theorem State.setBit_sent (a i : Nat) (b : Bool) : (s.setBit a i b).sent = s.sent := rfl

@[simp] theorem State.addCnt_pending (a n : Nat) : (s.addCnt a n).pending = s.pending := rfl
@[simp] theorem State.addCnt_clk (a n : Nat) : (s.addCnt a n).clk = s.clk := rfl
@[simp] theorem State.addCnt_fresh (a n : Nat) : (s.addCnt a n).fresh = s.fresh := rfl
@[simp] theorem State.addCnt_dev (a n : Nat) : (s.addCnt a n).dev = s.dev := rfl
@[simp] theorem State.addCnt_pend (a n : Nat) : (s.addCnt a n).pend = s.pend := rfl
@[simp] theorem State.addCnt_force (a n : Nat) : (s.addCnt a n).force = s.force := rfl
@[simp] theorem State.addCnt_pages (a n : Nat) : (s.addCnt a n).pages = s.pages := rfl
@[simp] theorem State.addCnt_ep0 (a n : Nat) : (s.addCnt a n).ep0 = s.ep0 := rfl
@[simp] theorem State.addCnt_ep1 (a n : Nat) : (s.addCnt a n).ep1 = s.ep1 := rfl
@[simp] theorem State.addCnt_dtm (a n : Nat) : (s.addCnt a n).dtm = s.dtm := rfl
@[simp] theorem State.addCnt_ing (a n : Nat) : (s.addCnt a n).ing = s.ing := rfl
@[simp] theorem State.addCnt_atl (a n : Nat) : (s.addCnt a n).atl = s.atl := rfl
@[simp] theorem State.addCnt_lay (a n : Nat) : (s.addCnt a n).lay = s.lay := rfl
@[simp] theorem State.addCnt_grt (a n : Nat) : (s.addCnt a n).grt = s.grt := rfl
@[simp] theorem State.addCnt_link (a n : Nat) : (s.addCnt a n).link = s.link := rfl
@[simp] theorem State.addCnt_hk (a n : Nat) : (s.addCnt a n).hk = s.hk := rfl
@[simp] theorem State.addCnt_queues (a n : Nat) : (s.addCnt a n).queues = s.queues := rfl
@[simp] theorem State.addCnt_gwy (a n : Nat) : (s.addCnt a n).gwy = s.gwy := rfl
@[simp] theorem State.addCnt_bmk (a n : Nat) : (s.addCnt a n).bmk = s.bmk := rfl
@[simp] theorem State.addCnt_tel (a n : Nat) : (s.addCnt a n).tel = s.tel := rfl
@[simp] theorem State.addCnt_cart (a n : Nat) : (s.addCnt a n).cart = s.cart := rfl
@[simp] theorem State.addCnt_log (a n : Nat) : (s.addCnt a n).log = s.log := rfl
@[simp] theorem State.addCnt_wear (a n : Nat) : (s.addCnt a n).wear = s.wear := rfl
@[simp] theorem State.addCnt_moor (a n : Nat) : (s.addCnt a n).moor = s.moor := rfl
@[simp] theorem State.addCnt_ram (a n : Nat) : (s.addCnt a n).ram = s.ram := rfl
@[simp] theorem State.addCnt_mem (a n : Nat) : (s.addCnt a n).mem = s.mem := rfl
@[simp] theorem State.addCnt_seq (a n : Nat) : (s.addCnt a n).seq = s.seq := rfl
@[simp] theorem State.addCnt_sent (a n : Nat) : (s.addCnt a n).sent = s.sent := rfl

@[simp] theorem State.inc_pending (a : Nat) : (s.inc a).pending = s.pending := rfl
@[simp] theorem State.inc_clk (a : Nat) : (s.inc a).clk = s.clk := rfl
@[simp] theorem State.inc_fresh (a : Nat) : (s.inc a).fresh = s.fresh := rfl
@[simp] theorem State.inc_dev (a : Nat) : (s.inc a).dev = s.dev := rfl
@[simp] theorem State.inc_pend (a : Nat) : (s.inc a).pend = s.pend := rfl
@[simp] theorem State.inc_force (a : Nat) : (s.inc a).force = s.force := rfl
@[simp] theorem State.inc_pages (a : Nat) : (s.inc a).pages = s.pages := rfl
@[simp] theorem State.inc_ep0 (a : Nat) : (s.inc a).ep0 = s.ep0 := rfl
@[simp] theorem State.inc_ep1 (a : Nat) : (s.inc a).ep1 = s.ep1 := rfl
@[simp] theorem State.inc_dtm (a : Nat) : (s.inc a).dtm = s.dtm := rfl
@[simp] theorem State.inc_ing (a : Nat) : (s.inc a).ing = s.ing := rfl
@[simp] theorem State.inc_atl (a : Nat) : (s.inc a).atl = s.atl := rfl
@[simp] theorem State.inc_lay (a : Nat) : (s.inc a).lay = s.lay := rfl
@[simp] theorem State.inc_grt (a : Nat) : (s.inc a).grt = s.grt := rfl
@[simp] theorem State.inc_link (a : Nat) : (s.inc a).link = s.link := rfl
@[simp] theorem State.inc_hk (a : Nat) : (s.inc a).hk = s.hk := rfl
@[simp] theorem State.inc_queues (a : Nat) : (s.inc a).queues = s.queues := rfl
@[simp] theorem State.inc_gwy (a : Nat) : (s.inc a).gwy = s.gwy := rfl
@[simp] theorem State.inc_bmk (a : Nat) : (s.inc a).bmk = s.bmk := rfl
@[simp] theorem State.inc_tel (a : Nat) : (s.inc a).tel = s.tel := rfl
@[simp] theorem State.inc_cart (a : Nat) : (s.inc a).cart = s.cart := rfl
@[simp] theorem State.inc_log (a : Nat) : (s.inc a).log = s.log := rfl
@[simp] theorem State.inc_wear (a : Nat) : (s.inc a).wear = s.wear := rfl
@[simp] theorem State.inc_moor (a : Nat) : (s.inc a).moor = s.moor := rfl
@[simp] theorem State.inc_ram (a : Nat) : (s.inc a).ram = s.ram := rfl
@[simp] theorem State.inc_mem (a : Nat) : (s.inc a).mem = s.mem := rfl
@[simp] theorem State.inc_seq (a : Nat) : (s.inc a).seq = s.seq := rfl
@[simp] theorem State.inc_sent (a : Nat) : (s.inc a).sent = s.sent := rfl

@[simp] theorem State.incFld_pending (a hi lo : Nat) : (s.incFld a hi lo).pending = s.pending := rfl
@[simp] theorem State.incFld_clk (a hi lo : Nat) : (s.incFld a hi lo).clk = s.clk := rfl
@[simp] theorem State.incFld_fresh (a hi lo : Nat) : (s.incFld a hi lo).fresh = s.fresh := rfl
@[simp] theorem State.incFld_dev (a hi lo : Nat) : (s.incFld a hi lo).dev = s.dev := rfl
@[simp] theorem State.incFld_pend (a hi lo : Nat) : (s.incFld a hi lo).pend = s.pend := rfl
@[simp] theorem State.incFld_force (a hi lo : Nat) : (s.incFld a hi lo).force = s.force := rfl
@[simp] theorem State.incFld_pages (a hi lo : Nat) : (s.incFld a hi lo).pages = s.pages := rfl
@[simp] theorem State.incFld_ep0 (a hi lo : Nat) : (s.incFld a hi lo).ep0 = s.ep0 := rfl
@[simp] theorem State.incFld_ep1 (a hi lo : Nat) : (s.incFld a hi lo).ep1 = s.ep1 := rfl
@[simp] theorem State.incFld_dtm (a hi lo : Nat) : (s.incFld a hi lo).dtm = s.dtm := rfl
@[simp] theorem State.incFld_ing (a hi lo : Nat) : (s.incFld a hi lo).ing = s.ing := rfl
@[simp] theorem State.incFld_atl (a hi lo : Nat) : (s.incFld a hi lo).atl = s.atl := rfl
@[simp] theorem State.incFld_lay (a hi lo : Nat) : (s.incFld a hi lo).lay = s.lay := rfl
@[simp] theorem State.incFld_grt (a hi lo : Nat) : (s.incFld a hi lo).grt = s.grt := rfl
@[simp] theorem State.incFld_link (a hi lo : Nat) : (s.incFld a hi lo).link = s.link := rfl
@[simp] theorem State.incFld_hk (a hi lo : Nat) : (s.incFld a hi lo).hk = s.hk := rfl
@[simp] theorem State.incFld_queues (a hi lo : Nat) : (s.incFld a hi lo).queues = s.queues := rfl
@[simp] theorem State.incFld_gwy (a hi lo : Nat) : (s.incFld a hi lo).gwy = s.gwy := rfl
@[simp] theorem State.incFld_bmk (a hi lo : Nat) : (s.incFld a hi lo).bmk = s.bmk := rfl
@[simp] theorem State.incFld_tel (a hi lo : Nat) : (s.incFld a hi lo).tel = s.tel := rfl
@[simp] theorem State.incFld_cart (a hi lo : Nat) : (s.incFld a hi lo).cart = s.cart := rfl
@[simp] theorem State.incFld_log (a hi lo : Nat) : (s.incFld a hi lo).log = s.log := rfl
@[simp] theorem State.incFld_wear (a hi lo : Nat) : (s.incFld a hi lo).wear = s.wear := rfl
@[simp] theorem State.incFld_moor (a hi lo : Nat) : (s.incFld a hi lo).moor = s.moor := rfl
@[simp] theorem State.incFld_ram (a hi lo : Nat) : (s.incFld a hi lo).ram = s.ram := rfl
@[simp] theorem State.incFld_mem (a hi lo : Nat) : (s.incFld a hi lo).mem = s.mem := rfl
@[simp] theorem State.incFld_seq (a hi lo : Nat) : (s.incFld a hi lo).seq = s.seq := rfl
@[simp] theorem State.incFld_sent (a hi lo : Nat) : (s.incFld a hi lo).sent = s.sent := rfl

@[simp] theorem State.setBit64_pending (lo hi i : Nat) (b : Bool) : (s.setBit64 lo hi i b).pending = s.pending := by unfold State.setBit64; split <;> rfl
@[simp] theorem State.setBit64_clk (lo hi i : Nat) (b : Bool) : (s.setBit64 lo hi i b).clk = s.clk := by unfold State.setBit64; split <;> rfl
@[simp] theorem State.setBit64_fresh (lo hi i : Nat) (b : Bool) : (s.setBit64 lo hi i b).fresh = s.fresh := by unfold State.setBit64; split <;> rfl
@[simp] theorem State.setBit64_dev (lo hi i : Nat) (b : Bool) : (s.setBit64 lo hi i b).dev = s.dev := by unfold State.setBit64; split <;> rfl
@[simp] theorem State.setBit64_pend (lo hi i : Nat) (b : Bool) : (s.setBit64 lo hi i b).pend = s.pend := by unfold State.setBit64; split <;> rfl
@[simp] theorem State.setBit64_force (lo hi i : Nat) (b : Bool) : (s.setBit64 lo hi i b).force = s.force := by unfold State.setBit64; split <;> rfl
@[simp] theorem State.setBit64_pages (lo hi i : Nat) (b : Bool) : (s.setBit64 lo hi i b).pages = s.pages := by unfold State.setBit64; split <;> rfl
@[simp] theorem State.setBit64_ep0 (lo hi i : Nat) (b : Bool) : (s.setBit64 lo hi i b).ep0 = s.ep0 := by unfold State.setBit64; split <;> rfl
@[simp] theorem State.setBit64_ep1 (lo hi i : Nat) (b : Bool) : (s.setBit64 lo hi i b).ep1 = s.ep1 := by unfold State.setBit64; split <;> rfl
@[simp] theorem State.setBit64_dtm (lo hi i : Nat) (b : Bool) : (s.setBit64 lo hi i b).dtm = s.dtm := by unfold State.setBit64; split <;> rfl
@[simp] theorem State.setBit64_ing (lo hi i : Nat) (b : Bool) : (s.setBit64 lo hi i b).ing = s.ing := by unfold State.setBit64; split <;> rfl
@[simp] theorem State.setBit64_atl (lo hi i : Nat) (b : Bool) : (s.setBit64 lo hi i b).atl = s.atl := by unfold State.setBit64; split <;> rfl
@[simp] theorem State.setBit64_lay (lo hi i : Nat) (b : Bool) : (s.setBit64 lo hi i b).lay = s.lay := by unfold State.setBit64; split <;> rfl
@[simp] theorem State.setBit64_grt (lo hi i : Nat) (b : Bool) : (s.setBit64 lo hi i b).grt = s.grt := by unfold State.setBit64; split <;> rfl
@[simp] theorem State.setBit64_link (lo hi i : Nat) (b : Bool) : (s.setBit64 lo hi i b).link = s.link := by unfold State.setBit64; split <;> rfl
@[simp] theorem State.setBit64_hk (lo hi i : Nat) (b : Bool) : (s.setBit64 lo hi i b).hk = s.hk := by unfold State.setBit64; split <;> rfl
@[simp] theorem State.setBit64_queues (lo hi i : Nat) (b : Bool) : (s.setBit64 lo hi i b).queues = s.queues := by unfold State.setBit64; split <;> rfl
@[simp] theorem State.setBit64_gwy (lo hi i : Nat) (b : Bool) : (s.setBit64 lo hi i b).gwy = s.gwy := by unfold State.setBit64; split <;> rfl
@[simp] theorem State.setBit64_bmk (lo hi i : Nat) (b : Bool) : (s.setBit64 lo hi i b).bmk = s.bmk := by unfold State.setBit64; split <;> rfl
@[simp] theorem State.setBit64_tel (lo hi i : Nat) (b : Bool) : (s.setBit64 lo hi i b).tel = s.tel := by unfold State.setBit64; split <;> rfl
@[simp] theorem State.setBit64_cart (lo hi i : Nat) (b : Bool) : (s.setBit64 lo hi i b).cart = s.cart := by unfold State.setBit64; split <;> rfl
@[simp] theorem State.setBit64_log (lo hi i : Nat) (b : Bool) : (s.setBit64 lo hi i b).log = s.log := by unfold State.setBit64; split <;> rfl
@[simp] theorem State.setBit64_wear (lo hi i : Nat) (b : Bool) : (s.setBit64 lo hi i b).wear = s.wear := by unfold State.setBit64; split <;> rfl
@[simp] theorem State.setBit64_moor (lo hi i : Nat) (b : Bool) : (s.setBit64 lo hi i b).moor = s.moor := by unfold State.setBit64; split <;> rfl
@[simp] theorem State.setBit64_ram (lo hi i : Nat) (b : Bool) : (s.setBit64 lo hi i b).ram = s.ram := by unfold State.setBit64; split <;> rfl
@[simp] theorem State.setBit64_mem (lo hi i : Nat) (b : Bool) : (s.setBit64 lo hi i b).mem = s.mem := by unfold State.setBit64; split <;> rfl
@[simp] theorem State.setBit64_seq (lo hi i : Nat) (b : Bool) : (s.setBit64 lo hi i b).seq = s.seq := by unfold State.setBit64; split <;> rfl
@[simp] theorem State.setBit64_sent (lo hi i : Nat) (b : Bool) : (s.setBit64 lo hi i b).sent = s.sent := by unfold State.setBit64; split <;> rfl

@[simp] theorem State.wr64_pending (lo hi v : Nat) : (s.wr64 lo hi v).pending = s.pending := rfl
@[simp] theorem State.wr64_clk (lo hi v : Nat) : (s.wr64 lo hi v).clk = s.clk := rfl
@[simp] theorem State.wr64_fresh (lo hi v : Nat) : (s.wr64 lo hi v).fresh = s.fresh := rfl
@[simp] theorem State.wr64_dev (lo hi v : Nat) : (s.wr64 lo hi v).dev = s.dev := rfl
@[simp] theorem State.wr64_pend (lo hi v : Nat) : (s.wr64 lo hi v).pend = s.pend := rfl
@[simp] theorem State.wr64_force (lo hi v : Nat) : (s.wr64 lo hi v).force = s.force := rfl
@[simp] theorem State.wr64_pages (lo hi v : Nat) : (s.wr64 lo hi v).pages = s.pages := rfl
@[simp] theorem State.wr64_ep0 (lo hi v : Nat) : (s.wr64 lo hi v).ep0 = s.ep0 := rfl
@[simp] theorem State.wr64_ep1 (lo hi v : Nat) : (s.wr64 lo hi v).ep1 = s.ep1 := rfl
@[simp] theorem State.wr64_dtm (lo hi v : Nat) : (s.wr64 lo hi v).dtm = s.dtm := rfl
@[simp] theorem State.wr64_ing (lo hi v : Nat) : (s.wr64 lo hi v).ing = s.ing := rfl
@[simp] theorem State.wr64_atl (lo hi v : Nat) : (s.wr64 lo hi v).atl = s.atl := rfl
@[simp] theorem State.wr64_lay (lo hi v : Nat) : (s.wr64 lo hi v).lay = s.lay := rfl
@[simp] theorem State.wr64_grt (lo hi v : Nat) : (s.wr64 lo hi v).grt = s.grt := rfl
@[simp] theorem State.wr64_link (lo hi v : Nat) : (s.wr64 lo hi v).link = s.link := rfl
@[simp] theorem State.wr64_hk (lo hi v : Nat) : (s.wr64 lo hi v).hk = s.hk := rfl
@[simp] theorem State.wr64_queues (lo hi v : Nat) : (s.wr64 lo hi v).queues = s.queues := rfl
@[simp] theorem State.wr64_gwy (lo hi v : Nat) : (s.wr64 lo hi v).gwy = s.gwy := rfl
@[simp] theorem State.wr64_bmk (lo hi v : Nat) : (s.wr64 lo hi v).bmk = s.bmk := rfl
@[simp] theorem State.wr64_tel (lo hi v : Nat) : (s.wr64 lo hi v).tel = s.tel := rfl
@[simp] theorem State.wr64_cart (lo hi v : Nat) : (s.wr64 lo hi v).cart = s.cart := rfl
@[simp] theorem State.wr64_log (lo hi v : Nat) : (s.wr64 lo hi v).log = s.log := rfl
@[simp] theorem State.wr64_wear (lo hi v : Nat) : (s.wr64 lo hi v).wear = s.wear := rfl
@[simp] theorem State.wr64_moor (lo hi v : Nat) : (s.wr64 lo hi v).moor = s.moor := rfl
@[simp] theorem State.wr64_ram (lo hi v : Nat) : (s.wr64 lo hi v).ram = s.ram := rfl
@[simp] theorem State.wr64_mem (lo hi v : Nat) : (s.wr64 lo hi v).mem = s.mem := rfl
@[simp] theorem State.wr64_seq (lo hi v : Nat) : (s.wr64 lo hi v).seq = s.seq := rfl
@[simp] theorem State.wr64_sent (lo hi v : Nat) : (s.wr64 lo hi v).sent = s.sent := rfl

@[simp] theorem State.raise_pending (p i : Nat) : (s.raise p i).pending = s.pending := rfl
@[simp] theorem State.raise_clk (p i : Nat) : (s.raise p i).clk = s.clk := rfl
@[simp] theorem State.raise_fresh (p i : Nat) : (s.raise p i).fresh = s.fresh := rfl
@[simp] theorem State.raise_dev (p i : Nat) : (s.raise p i).dev = s.dev := rfl
@[simp] theorem State.raise_pend (p i : Nat) : (s.raise p i).pend = s.pend := rfl
@[simp] theorem State.raise_force (p i : Nat) : (s.raise p i).force = s.force := rfl
@[simp] theorem State.raise_pages (p i : Nat) : (s.raise p i).pages = s.pages := rfl
@[simp] theorem State.raise_ep0 (p i : Nat) : (s.raise p i).ep0 = s.ep0 := rfl
@[simp] theorem State.raise_ep1 (p i : Nat) : (s.raise p i).ep1 = s.ep1 := rfl
@[simp] theorem State.raise_dtm (p i : Nat) : (s.raise p i).dtm = s.dtm := rfl
@[simp] theorem State.raise_ing (p i : Nat) : (s.raise p i).ing = s.ing := rfl
@[simp] theorem State.raise_atl (p i : Nat) : (s.raise p i).atl = s.atl := rfl
@[simp] theorem State.raise_lay (p i : Nat) : (s.raise p i).lay = s.lay := rfl
@[simp] theorem State.raise_grt (p i : Nat) : (s.raise p i).grt = s.grt := rfl
@[simp] theorem State.raise_link (p i : Nat) : (s.raise p i).link = s.link := rfl
@[simp] theorem State.raise_hk (p i : Nat) : (s.raise p i).hk = s.hk := rfl
@[simp] theorem State.raise_queues (p i : Nat) : (s.raise p i).queues = s.queues := rfl
@[simp] theorem State.raise_gwy (p i : Nat) : (s.raise p i).gwy = s.gwy := rfl
@[simp] theorem State.raise_bmk (p i : Nat) : (s.raise p i).bmk = s.bmk := rfl
@[simp] theorem State.raise_tel (p i : Nat) : (s.raise p i).tel = s.tel := rfl
@[simp] theorem State.raise_cart (p i : Nat) : (s.raise p i).cart = s.cart := rfl
@[simp] theorem State.raise_log (p i : Nat) : (s.raise p i).log = s.log := rfl
@[simp] theorem State.raise_wear (p i : Nat) : (s.raise p i).wear = s.wear := rfl
@[simp] theorem State.raise_moor (p i : Nat) : (s.raise p i).moor = s.moor := rfl
@[simp] theorem State.raise_ram (p i : Nat) : (s.raise p i).ram = s.ram := rfl
@[simp] theorem State.raise_mem (p i : Nat) : (s.raise p i).mem = s.mem := rfl
@[simp] theorem State.raise_seq (p i : Nat) : (s.raise p i).seq = s.seq := rfl
@[simp] theorem State.raise_sent (p i : Nat) : (s.raise p i).sent = s.sent := rfl

@[simp] theorem State.setPage_pending (p : Nat) (v : PageState) : (s.setPage p v).pending = s.pending := rfl
@[simp] theorem State.setPage_clk (p : Nat) (v : PageState) : (s.setPage p v).clk = s.clk := rfl
@[simp] theorem State.setPage_fresh (p : Nat) (v : PageState) : (s.setPage p v).fresh = s.fresh := rfl
@[simp] theorem State.setPage_dev (p : Nat) (v : PageState) : (s.setPage p v).dev = s.dev := rfl
@[simp] theorem State.setPage_regs (p : Nat) (v : PageState) : (s.setPage p v).regs = s.regs := rfl
@[simp] theorem State.setPage_pend (p : Nat) (v : PageState) : (s.setPage p v).pend = s.pend := rfl
@[simp] theorem State.setPage_force (p : Nat) (v : PageState) : (s.setPage p v).force = s.force := rfl
@[simp] theorem State.setPage_ep0 (p : Nat) (v : PageState) : (s.setPage p v).ep0 = s.ep0 := rfl
@[simp] theorem State.setPage_ep1 (p : Nat) (v : PageState) : (s.setPage p v).ep1 = s.ep1 := rfl
@[simp] theorem State.setPage_dtm (p : Nat) (v : PageState) : (s.setPage p v).dtm = s.dtm := rfl
@[simp] theorem State.setPage_ing (p : Nat) (v : PageState) : (s.setPage p v).ing = s.ing := rfl
@[simp] theorem State.setPage_atl (p : Nat) (v : PageState) : (s.setPage p v).atl = s.atl := rfl
@[simp] theorem State.setPage_lay (p : Nat) (v : PageState) : (s.setPage p v).lay = s.lay := rfl
@[simp] theorem State.setPage_grt (p : Nat) (v : PageState) : (s.setPage p v).grt = s.grt := rfl
@[simp] theorem State.setPage_link (p : Nat) (v : PageState) : (s.setPage p v).link = s.link := rfl
@[simp] theorem State.setPage_hk (p : Nat) (v : PageState) : (s.setPage p v).hk = s.hk := rfl
@[simp] theorem State.setPage_queues (p : Nat) (v : PageState) : (s.setPage p v).queues = s.queues := rfl
@[simp] theorem State.setPage_gwy (p : Nat) (v : PageState) : (s.setPage p v).gwy = s.gwy := rfl
@[simp] theorem State.setPage_bmk (p : Nat) (v : PageState) : (s.setPage p v).bmk = s.bmk := rfl
@[simp] theorem State.setPage_tel (p : Nat) (v : PageState) : (s.setPage p v).tel = s.tel := rfl
@[simp] theorem State.setPage_cart (p : Nat) (v : PageState) : (s.setPage p v).cart = s.cart := rfl
@[simp] theorem State.setPage_log (p : Nat) (v : PageState) : (s.setPage p v).log = s.log := rfl
@[simp] theorem State.setPage_wear (p : Nat) (v : PageState) : (s.setPage p v).wear = s.wear := rfl
@[simp] theorem State.setPage_moor (p : Nat) (v : PageState) : (s.setPage p v).moor = s.moor := rfl
@[simp] theorem State.setPage_ram (p : Nat) (v : PageState) : (s.setPage p v).ram = s.ram := rfl
@[simp] theorem State.setPage_mem (p : Nat) (v : PageState) : (s.setPage p v).mem = s.mem := rfl
@[simp] theorem State.setPage_seq (p : Nat) (v : PageState) : (s.setPage p v).seq = s.seq := rfl
@[simp] theorem State.setPage_sent (p : Nat) (v : PageState) : (s.setPage p v).sent = s.sent := rfl

@[simp] theorem State.emit_pending (e : Emission) : (s.emit e).pending = s.pending := rfl
@[simp] theorem State.emit_clk (e : Emission) : (s.emit e).clk = s.clk := rfl
@[simp] theorem State.emit_fresh (e : Emission) : (s.emit e).fresh = s.fresh := rfl
@[simp] theorem State.emit_dev (e : Emission) : (s.emit e).dev = s.dev := rfl
@[simp] theorem State.emit_regs (e : Emission) : (s.emit e).regs = s.regs := rfl
@[simp] theorem State.emit_pend (e : Emission) : (s.emit e).pend = s.pend := rfl
@[simp] theorem State.emit_force (e : Emission) : (s.emit e).force = s.force := rfl
@[simp] theorem State.emit_pages (e : Emission) : (s.emit e).pages = s.pages := rfl
@[simp] theorem State.emit_ep0 (e : Emission) : (s.emit e).ep0 = s.ep0 := rfl
@[simp] theorem State.emit_ep1 (e : Emission) : (s.emit e).ep1 = s.ep1 := rfl
@[simp] theorem State.emit_dtm (e : Emission) : (s.emit e).dtm = s.dtm := rfl
@[simp] theorem State.emit_ing (e : Emission) : (s.emit e).ing = s.ing := rfl
@[simp] theorem State.emit_atl (e : Emission) : (s.emit e).atl = s.atl := rfl
@[simp] theorem State.emit_lay (e : Emission) : (s.emit e).lay = s.lay := rfl
@[simp] theorem State.emit_grt (e : Emission) : (s.emit e).grt = s.grt := rfl
@[simp] theorem State.emit_link (e : Emission) : (s.emit e).link = s.link := rfl
@[simp] theorem State.emit_hk (e : Emission) : (s.emit e).hk = s.hk := rfl
@[simp] theorem State.emit_queues (e : Emission) : (s.emit e).queues = s.queues := rfl
@[simp] theorem State.emit_gwy (e : Emission) : (s.emit e).gwy = s.gwy := rfl
@[simp] theorem State.emit_bmk (e : Emission) : (s.emit e).bmk = s.bmk := rfl
@[simp] theorem State.emit_tel (e : Emission) : (s.emit e).tel = s.tel := rfl
@[simp] theorem State.emit_cart (e : Emission) : (s.emit e).cart = s.cart := rfl
@[simp] theorem State.emit_log (e : Emission) : (s.emit e).log = s.log := rfl
@[simp] theorem State.emit_wear (e : Emission) : (s.emit e).wear = s.wear := rfl
@[simp] theorem State.emit_moor (e : Emission) : (s.emit e).moor = s.moor := rfl
@[simp] theorem State.emit_ram (e : Emission) : (s.emit e).ram = s.ram := rfl
@[simp] theorem State.emit_mem (e : Emission) : (s.emit e).mem = s.mem := rfl
@[simp] theorem State.emit_seq (e : Emission) : (s.emit e).seq = s.seq := rfl

@[simp] theorem State.setEp_pending (q : Nat) (e : Endpoint) : (s.setEp q e).pending = s.pending := by unfold State.setEp; split <;> rfl
@[simp] theorem State.setEp_clk (q : Nat) (e : Endpoint) : (s.setEp q e).clk = s.clk := by unfold State.setEp; split <;> rfl
@[simp] theorem State.setEp_fresh (q : Nat) (e : Endpoint) : (s.setEp q e).fresh = s.fresh := by unfold State.setEp; split <;> rfl
@[simp] theorem State.setEp_dev (q : Nat) (e : Endpoint) : (s.setEp q e).dev = s.dev := by unfold State.setEp; split <;> rfl
@[simp] theorem State.setEp_regs (q : Nat) (e : Endpoint) : (s.setEp q e).regs = s.regs := by unfold State.setEp; split <;> rfl
@[simp] theorem State.setEp_pend (q : Nat) (e : Endpoint) : (s.setEp q e).pend = s.pend := by unfold State.setEp; split <;> rfl
@[simp] theorem State.setEp_force (q : Nat) (e : Endpoint) : (s.setEp q e).force = s.force := by unfold State.setEp; split <;> rfl
@[simp] theorem State.setEp_pages (q : Nat) (e : Endpoint) : (s.setEp q e).pages = s.pages := by unfold State.setEp; split <;> rfl
@[simp] theorem State.setEp_dtm (q : Nat) (e : Endpoint) : (s.setEp q e).dtm = s.dtm := by unfold State.setEp; split <;> rfl
@[simp] theorem State.setEp_ing (q : Nat) (e : Endpoint) : (s.setEp q e).ing = s.ing := by unfold State.setEp; split <;> rfl
@[simp] theorem State.setEp_atl (q : Nat) (e : Endpoint) : (s.setEp q e).atl = s.atl := by unfold State.setEp; split <;> rfl
@[simp] theorem State.setEp_lay (q : Nat) (e : Endpoint) : (s.setEp q e).lay = s.lay := by unfold State.setEp; split <;> rfl
@[simp] theorem State.setEp_grt (q : Nat) (e : Endpoint) : (s.setEp q e).grt = s.grt := by unfold State.setEp; split <;> rfl
@[simp] theorem State.setEp_link (q : Nat) (e : Endpoint) : (s.setEp q e).link = s.link := by unfold State.setEp; split <;> rfl
@[simp] theorem State.setEp_hk (q : Nat) (e : Endpoint) : (s.setEp q e).hk = s.hk := by unfold State.setEp; split <;> rfl
@[simp] theorem State.setEp_queues (q : Nat) (e : Endpoint) : (s.setEp q e).queues = s.queues := by unfold State.setEp; split <;> rfl
@[simp] theorem State.setEp_gwy (q : Nat) (e : Endpoint) : (s.setEp q e).gwy = s.gwy := by unfold State.setEp; split <;> rfl
@[simp] theorem State.setEp_bmk (q : Nat) (e : Endpoint) : (s.setEp q e).bmk = s.bmk := by unfold State.setEp; split <;> rfl
@[simp] theorem State.setEp_tel (q : Nat) (e : Endpoint) : (s.setEp q e).tel = s.tel := by unfold State.setEp; split <;> rfl
@[simp] theorem State.setEp_cart (q : Nat) (e : Endpoint) : (s.setEp q e).cart = s.cart := by unfold State.setEp; split <;> rfl
@[simp] theorem State.setEp_log (q : Nat) (e : Endpoint) : (s.setEp q e).log = s.log := by unfold State.setEp; split <;> rfl
@[simp] theorem State.setEp_wear (q : Nat) (e : Endpoint) : (s.setEp q e).wear = s.wear := by unfold State.setEp; split <;> rfl
@[simp] theorem State.setEp_moor (q : Nat) (e : Endpoint) : (s.setEp q e).moor = s.moor := by unfold State.setEp; split <;> rfl
@[simp] theorem State.setEp_ram (q : Nat) (e : Endpoint) : (s.setEp q e).ram = s.ram := by unfold State.setEp; split <;> rfl
@[simp] theorem State.setEp_mem (q : Nat) (e : Endpoint) : (s.setEp q e).mem = s.mem := by unfold State.setEp; split <;> rfl
@[simp] theorem State.setEp_seq (q : Nat) (e : Endpoint) : (s.setEp q e).seq = s.seq := by unfold State.setEp; split <;> rfl
@[simp] theorem State.setEp_sent (q : Nat) (e : Endpoint) : (s.setEp q e).sent = s.sent := by unfold State.setEp; split <;> rfl

@[simp] theorem State.captureAt_pending (p c o d n : Nat) : (s.captureAt p c o d n).pending = s.pending := by unfold State.captureAt; split <;> rfl
@[simp] theorem State.captureAt_clk (p c o d n : Nat) : (s.captureAt p c o d n).clk = s.clk := by unfold State.captureAt; split <;> rfl
@[simp] theorem State.captureAt_fresh (p c o d n : Nat) : (s.captureAt p c o d n).fresh = s.fresh := by unfold State.captureAt; split <;> rfl
@[simp] theorem State.captureAt_dev (p c o d n : Nat) : (s.captureAt p c o d n).dev = s.dev := by unfold State.captureAt; split <;> rfl
@[simp] theorem State.captureAt_pend (p c o d n : Nat) : (s.captureAt p c o d n).pend = s.pend := by unfold State.captureAt; split <;> rfl
@[simp] theorem State.captureAt_force (p c o d n : Nat) : (s.captureAt p c o d n).force = s.force := by unfold State.captureAt; split <;> rfl
@[simp] theorem State.captureAt_ep0 (p c o d n : Nat) : (s.captureAt p c o d n).ep0 = s.ep0 := by unfold State.captureAt; split <;> rfl
@[simp] theorem State.captureAt_ep1 (p c o d n : Nat) : (s.captureAt p c o d n).ep1 = s.ep1 := by unfold State.captureAt; split <;> rfl
@[simp] theorem State.captureAt_dtm (p c o d n : Nat) : (s.captureAt p c o d n).dtm = s.dtm := by unfold State.captureAt; split <;> rfl
@[simp] theorem State.captureAt_ing (p c o d n : Nat) : (s.captureAt p c o d n).ing = s.ing := by unfold State.captureAt; split <;> rfl
@[simp] theorem State.captureAt_atl (p c o d n : Nat) : (s.captureAt p c o d n).atl = s.atl := by unfold State.captureAt; split <;> rfl
@[simp] theorem State.captureAt_lay (p c o d n : Nat) : (s.captureAt p c o d n).lay = s.lay := by unfold State.captureAt; split <;> rfl
@[simp] theorem State.captureAt_grt (p c o d n : Nat) : (s.captureAt p c o d n).grt = s.grt := by unfold State.captureAt; split <;> rfl
@[simp] theorem State.captureAt_link (p c o d n : Nat) : (s.captureAt p c o d n).link = s.link := by unfold State.captureAt; split <;> rfl
@[simp] theorem State.captureAt_hk (p c o d n : Nat) : (s.captureAt p c o d n).hk = s.hk := by unfold State.captureAt; split <;> rfl
@[simp] theorem State.captureAt_queues (p c o d n : Nat) : (s.captureAt p c o d n).queues = s.queues := by unfold State.captureAt; split <;> rfl
@[simp] theorem State.captureAt_gwy (p c o d n : Nat) : (s.captureAt p c o d n).gwy = s.gwy := by unfold State.captureAt; split <;> rfl
@[simp] theorem State.captureAt_bmk (p c o d n : Nat) : (s.captureAt p c o d n).bmk = s.bmk := by unfold State.captureAt; split <;> rfl
@[simp] theorem State.captureAt_tel (p c o d n : Nat) : (s.captureAt p c o d n).tel = s.tel := by unfold State.captureAt; split <;> rfl
@[simp] theorem State.captureAt_cart (p c o d n : Nat) : (s.captureAt p c o d n).cart = s.cart := by unfold State.captureAt; split <;> rfl
@[simp] theorem State.captureAt_log (p c o d n : Nat) : (s.captureAt p c o d n).log = s.log := by unfold State.captureAt; split <;> rfl
@[simp] theorem State.captureAt_wear (p c o d n : Nat) : (s.captureAt p c o d n).wear = s.wear := by unfold State.captureAt; split <;> rfl
@[simp] theorem State.captureAt_moor (p c o d n : Nat) : (s.captureAt p c o d n).moor = s.moor := by unfold State.captureAt; split <;> rfl
@[simp] theorem State.captureAt_ram (p c o d n : Nat) : (s.captureAt p c o d n).ram = s.ram := by unfold State.captureAt; split <;> rfl
@[simp] theorem State.captureAt_mem (p c o d n : Nat) : (s.captureAt p c o d n).mem = s.mem := by unfold State.captureAt; split <;> rfl
@[simp] theorem State.captureAt_seq (p c o d n : Nat) : (s.captureAt p c o d n).seq = s.seq := by unfold State.captureAt; split <;> rfl
@[simp] theorem State.captureAt_sent (p c o d n : Nat) : (s.captureAt p c o d n).sent = s.sent := by unfold State.captureAt; split <;> rfl

@[simp] theorem State.capture_pending (p c o d : Nat) : (s.capture p c o d).pending = s.pending := s.captureAt_pending _ _ _ _ _
@[simp] theorem State.capture_clk (p c o d : Nat) : (s.capture p c o d).clk = s.clk := s.captureAt_clk _ _ _ _ _
@[simp] theorem State.capture_fresh (p c o d : Nat) : (s.capture p c o d).fresh = s.fresh := s.captureAt_fresh _ _ _ _ _
@[simp] theorem State.capture_dev (p c o d : Nat) : (s.capture p c o d).dev = s.dev := s.captureAt_dev _ _ _ _ _
@[simp] theorem State.capture_pend (p c o d : Nat) : (s.capture p c o d).pend = s.pend := s.captureAt_pend _ _ _ _ _
@[simp] theorem State.capture_force (p c o d : Nat) : (s.capture p c o d).force = s.force := s.captureAt_force _ _ _ _ _
@[simp] theorem State.capture_ep0 (p c o d : Nat) : (s.capture p c o d).ep0 = s.ep0 := s.captureAt_ep0 _ _ _ _ _
@[simp] theorem State.capture_ep1 (p c o d : Nat) : (s.capture p c o d).ep1 = s.ep1 := s.captureAt_ep1 _ _ _ _ _
@[simp] theorem State.capture_dtm (p c o d : Nat) : (s.capture p c o d).dtm = s.dtm := s.captureAt_dtm _ _ _ _ _
@[simp] theorem State.capture_ing (p c o d : Nat) : (s.capture p c o d).ing = s.ing := s.captureAt_ing _ _ _ _ _
@[simp] theorem State.capture_atl (p c o d : Nat) : (s.capture p c o d).atl = s.atl := s.captureAt_atl _ _ _ _ _
@[simp] theorem State.capture_lay (p c o d : Nat) : (s.capture p c o d).lay = s.lay := s.captureAt_lay _ _ _ _ _
@[simp] theorem State.capture_grt (p c o d : Nat) : (s.capture p c o d).grt = s.grt := s.captureAt_grt _ _ _ _ _
@[simp] theorem State.capture_link (p c o d : Nat) : (s.capture p c o d).link = s.link := s.captureAt_link _ _ _ _ _
@[simp] theorem State.capture_hk (p c o d : Nat) : (s.capture p c o d).hk = s.hk := s.captureAt_hk _ _ _ _ _
@[simp] theorem State.capture_queues (p c o d : Nat) : (s.capture p c o d).queues = s.queues := s.captureAt_queues _ _ _ _ _
@[simp] theorem State.capture_gwy (p c o d : Nat) : (s.capture p c o d).gwy = s.gwy := s.captureAt_gwy _ _ _ _ _
@[simp] theorem State.capture_bmk (p c o d : Nat) : (s.capture p c o d).bmk = s.bmk := s.captureAt_bmk _ _ _ _ _
@[simp] theorem State.capture_tel (p c o d : Nat) : (s.capture p c o d).tel = s.tel := s.captureAt_tel _ _ _ _ _
@[simp] theorem State.capture_cart (p c o d : Nat) : (s.capture p c o d).cart = s.cart := s.captureAt_cart _ _ _ _ _
@[simp] theorem State.capture_log (p c o d : Nat) : (s.capture p c o d).log = s.log := s.captureAt_log _ _ _ _ _
@[simp] theorem State.capture_wear (p c o d : Nat) : (s.capture p c o d).wear = s.wear := s.captureAt_wear _ _ _ _ _
@[simp] theorem State.capture_moor (p c o d : Nat) : (s.capture p c o d).moor = s.moor := s.captureAt_moor _ _ _ _ _
@[simp] theorem State.capture_ram (p c o d : Nat) : (s.capture p c o d).ram = s.ram := s.captureAt_ram _ _ _ _ _
@[simp] theorem State.capture_mem (p c o d : Nat) : (s.capture p c o d).mem = s.mem := s.captureAt_mem _ _ _ _ _
@[simp] theorem State.capture_seq (p c o d : Nat) : (s.capture p c o d).seq = s.seq := s.captureAt_seq _ _ _ _ _
@[simp] theorem State.capture_sent (p c o d : Nat) : (s.capture p c o d).sent = s.sent := s.captureAt_sent _ _ _ _ _

@[simp] theorem State.captureDev_pending (p c d : Nat) : (s.captureDev p c d).pending = s.pending := s.captureAt_pending _ _ _ _ _
@[simp] theorem State.captureDev_clk (p c d : Nat) : (s.captureDev p c d).clk = s.clk := s.captureAt_clk _ _ _ _ _
@[simp] theorem State.captureDev_fresh (p c d : Nat) : (s.captureDev p c d).fresh = s.fresh := s.captureAt_fresh _ _ _ _ _
@[simp] theorem State.captureDev_dev (p c d : Nat) : (s.captureDev p c d).dev = s.dev := s.captureAt_dev _ _ _ _ _
@[simp] theorem State.captureDev_pend (p c d : Nat) : (s.captureDev p c d).pend = s.pend := s.captureAt_pend _ _ _ _ _
@[simp] theorem State.captureDev_force (p c d : Nat) : (s.captureDev p c d).force = s.force := s.captureAt_force _ _ _ _ _
@[simp] theorem State.captureDev_ep0 (p c d : Nat) : (s.captureDev p c d).ep0 = s.ep0 := s.captureAt_ep0 _ _ _ _ _
@[simp] theorem State.captureDev_ep1 (p c d : Nat) : (s.captureDev p c d).ep1 = s.ep1 := s.captureAt_ep1 _ _ _ _ _
@[simp] theorem State.captureDev_dtm (p c d : Nat) : (s.captureDev p c d).dtm = s.dtm := s.captureAt_dtm _ _ _ _ _
@[simp] theorem State.captureDev_ing (p c d : Nat) : (s.captureDev p c d).ing = s.ing := s.captureAt_ing _ _ _ _ _
@[simp] theorem State.captureDev_atl (p c d : Nat) : (s.captureDev p c d).atl = s.atl := s.captureAt_atl _ _ _ _ _
@[simp] theorem State.captureDev_lay (p c d : Nat) : (s.captureDev p c d).lay = s.lay := s.captureAt_lay _ _ _ _ _
@[simp] theorem State.captureDev_grt (p c d : Nat) : (s.captureDev p c d).grt = s.grt := s.captureAt_grt _ _ _ _ _
@[simp] theorem State.captureDev_link (p c d : Nat) : (s.captureDev p c d).link = s.link := s.captureAt_link _ _ _ _ _
@[simp] theorem State.captureDev_hk (p c d : Nat) : (s.captureDev p c d).hk = s.hk := s.captureAt_hk _ _ _ _ _
@[simp] theorem State.captureDev_queues (p c d : Nat) : (s.captureDev p c d).queues = s.queues := s.captureAt_queues _ _ _ _ _
@[simp] theorem State.captureDev_gwy (p c d : Nat) : (s.captureDev p c d).gwy = s.gwy := s.captureAt_gwy _ _ _ _ _
@[simp] theorem State.captureDev_bmk (p c d : Nat) : (s.captureDev p c d).bmk = s.bmk := s.captureAt_bmk _ _ _ _ _
@[simp] theorem State.captureDev_tel (p c d : Nat) : (s.captureDev p c d).tel = s.tel := s.captureAt_tel _ _ _ _ _
@[simp] theorem State.captureDev_cart (p c d : Nat) : (s.captureDev p c d).cart = s.cart := s.captureAt_cart _ _ _ _ _
@[simp] theorem State.captureDev_log (p c d : Nat) : (s.captureDev p c d).log = s.log := s.captureAt_log _ _ _ _ _
@[simp] theorem State.captureDev_wear (p c d : Nat) : (s.captureDev p c d).wear = s.wear := s.captureAt_wear _ _ _ _ _
@[simp] theorem State.captureDev_moor (p c d : Nat) : (s.captureDev p c d).moor = s.moor := s.captureAt_moor _ _ _ _ _
@[simp] theorem State.captureDev_ram (p c d : Nat) : (s.captureDev p c d).ram = s.ram := s.captureAt_ram _ _ _ _ _
@[simp] theorem State.captureDev_mem (p c d : Nat) : (s.captureDev p c d).mem = s.mem := s.captureAt_mem _ _ _ _ _
@[simp] theorem State.captureDev_seq (p c d : Nat) : (s.captureDev p c d).seq = s.seq := s.captureAt_seq _ _ _ _ _
@[simp] theorem State.captureDev_sent (p c d : Nat) : (s.captureDev p c d).sent = s.sent := s.captureAt_sent _ _ _ _ _

@[simp] theorem State.ignoredWrite_pending (o : Dom) (a c v : Nat) : (s.ignoredWrite o a c v).pending = s.pending := s.captureAt_pending _ _ _ _ _
@[simp] theorem State.ignoredWrite_clk (o : Dom) (a c v : Nat) : (s.ignoredWrite o a c v).clk = s.clk := s.captureAt_clk _ _ _ _ _
@[simp] theorem State.ignoredWrite_fresh (o : Dom) (a c v : Nat) : (s.ignoredWrite o a c v).fresh = s.fresh := s.captureAt_fresh _ _ _ _ _
@[simp] theorem State.ignoredWrite_dev (o : Dom) (a c v : Nat) : (s.ignoredWrite o a c v).dev = s.dev := s.captureAt_dev _ _ _ _ _
@[simp] theorem State.ignoredWrite_pend (o : Dom) (a c v : Nat) : (s.ignoredWrite o a c v).pend = s.pend := s.captureAt_pend _ _ _ _ _
@[simp] theorem State.ignoredWrite_force (o : Dom) (a c v : Nat) : (s.ignoredWrite o a c v).force = s.force := s.captureAt_force _ _ _ _ _
@[simp] theorem State.ignoredWrite_ep0 (o : Dom) (a c v : Nat) : (s.ignoredWrite o a c v).ep0 = s.ep0 := s.captureAt_ep0 _ _ _ _ _
@[simp] theorem State.ignoredWrite_ep1 (o : Dom) (a c v : Nat) : (s.ignoredWrite o a c v).ep1 = s.ep1 := s.captureAt_ep1 _ _ _ _ _
@[simp] theorem State.ignoredWrite_dtm (o : Dom) (a c v : Nat) : (s.ignoredWrite o a c v).dtm = s.dtm := s.captureAt_dtm _ _ _ _ _
@[simp] theorem State.ignoredWrite_ing (o : Dom) (a c v : Nat) : (s.ignoredWrite o a c v).ing = s.ing := s.captureAt_ing _ _ _ _ _
@[simp] theorem State.ignoredWrite_atl (o : Dom) (a c v : Nat) : (s.ignoredWrite o a c v).atl = s.atl := s.captureAt_atl _ _ _ _ _
@[simp] theorem State.ignoredWrite_lay (o : Dom) (a c v : Nat) : (s.ignoredWrite o a c v).lay = s.lay := s.captureAt_lay _ _ _ _ _
@[simp] theorem State.ignoredWrite_grt (o : Dom) (a c v : Nat) : (s.ignoredWrite o a c v).grt = s.grt := s.captureAt_grt _ _ _ _ _
@[simp] theorem State.ignoredWrite_link (o : Dom) (a c v : Nat) : (s.ignoredWrite o a c v).link = s.link := s.captureAt_link _ _ _ _ _
@[simp] theorem State.ignoredWrite_hk (o : Dom) (a c v : Nat) : (s.ignoredWrite o a c v).hk = s.hk := s.captureAt_hk _ _ _ _ _
@[simp] theorem State.ignoredWrite_queues (o : Dom) (a c v : Nat) : (s.ignoredWrite o a c v).queues = s.queues := s.captureAt_queues _ _ _ _ _
@[simp] theorem State.ignoredWrite_gwy (o : Dom) (a c v : Nat) : (s.ignoredWrite o a c v).gwy = s.gwy := s.captureAt_gwy _ _ _ _ _
@[simp] theorem State.ignoredWrite_bmk (o : Dom) (a c v : Nat) : (s.ignoredWrite o a c v).bmk = s.bmk := s.captureAt_bmk _ _ _ _ _
@[simp] theorem State.ignoredWrite_tel (o : Dom) (a c v : Nat) : (s.ignoredWrite o a c v).tel = s.tel := s.captureAt_tel _ _ _ _ _
@[simp] theorem State.ignoredWrite_cart (o : Dom) (a c v : Nat) : (s.ignoredWrite o a c v).cart = s.cart := s.captureAt_cart _ _ _ _ _
@[simp] theorem State.ignoredWrite_log (o : Dom) (a c v : Nat) : (s.ignoredWrite o a c v).log = s.log := s.captureAt_log _ _ _ _ _
@[simp] theorem State.ignoredWrite_wear (o : Dom) (a c v : Nat) : (s.ignoredWrite o a c v).wear = s.wear := s.captureAt_wear _ _ _ _ _
@[simp] theorem State.ignoredWrite_moor (o : Dom) (a c v : Nat) : (s.ignoredWrite o a c v).moor = s.moor := s.captureAt_moor _ _ _ _ _
@[simp] theorem State.ignoredWrite_ram (o : Dom) (a c v : Nat) : (s.ignoredWrite o a c v).ram = s.ram := s.captureAt_ram _ _ _ _ _
@[simp] theorem State.ignoredWrite_mem (o : Dom) (a c v : Nat) : (s.ignoredWrite o a c v).mem = s.mem := s.captureAt_mem _ _ _ _ _
@[simp] theorem State.ignoredWrite_seq (o : Dom) (a c v : Nat) : (s.ignoredWrite o a c v).seq = s.seq := s.captureAt_seq _ _ _ _ _
@[simp] theorem State.ignoredWrite_sent (o : Dom) (a c v : Nat) : (s.ignoredWrite o a c v).sent = s.sent := s.captureAt_sent _ _ _ _ _

@[simp] theorem State.writeIgnored_pending (o : Dom) (a v : Nat) : (s.writeIgnored o a v).pending = s.pending := s.captureAt_pending _ _ _ _ _
@[simp] theorem State.writeIgnored_clk (o : Dom) (a v : Nat) : (s.writeIgnored o a v).clk = s.clk := s.captureAt_clk _ _ _ _ _
@[simp] theorem State.writeIgnored_fresh (o : Dom) (a v : Nat) : (s.writeIgnored o a v).fresh = s.fresh := s.captureAt_fresh _ _ _ _ _
@[simp] theorem State.writeIgnored_dev (o : Dom) (a v : Nat) : (s.writeIgnored o a v).dev = s.dev := s.captureAt_dev _ _ _ _ _
@[simp] theorem State.writeIgnored_pend (o : Dom) (a v : Nat) : (s.writeIgnored o a v).pend = s.pend := s.captureAt_pend _ _ _ _ _
@[simp] theorem State.writeIgnored_force (o : Dom) (a v : Nat) : (s.writeIgnored o a v).force = s.force := s.captureAt_force _ _ _ _ _
@[simp] theorem State.writeIgnored_ep0 (o : Dom) (a v : Nat) : (s.writeIgnored o a v).ep0 = s.ep0 := s.captureAt_ep0 _ _ _ _ _
@[simp] theorem State.writeIgnored_ep1 (o : Dom) (a v : Nat) : (s.writeIgnored o a v).ep1 = s.ep1 := s.captureAt_ep1 _ _ _ _ _
@[simp] theorem State.writeIgnored_dtm (o : Dom) (a v : Nat) : (s.writeIgnored o a v).dtm = s.dtm := s.captureAt_dtm _ _ _ _ _
@[simp] theorem State.writeIgnored_ing (o : Dom) (a v : Nat) : (s.writeIgnored o a v).ing = s.ing := s.captureAt_ing _ _ _ _ _
@[simp] theorem State.writeIgnored_atl (o : Dom) (a v : Nat) : (s.writeIgnored o a v).atl = s.atl := s.captureAt_atl _ _ _ _ _
@[simp] theorem State.writeIgnored_lay (o : Dom) (a v : Nat) : (s.writeIgnored o a v).lay = s.lay := s.captureAt_lay _ _ _ _ _
@[simp] theorem State.writeIgnored_grt (o : Dom) (a v : Nat) : (s.writeIgnored o a v).grt = s.grt := s.captureAt_grt _ _ _ _ _
@[simp] theorem State.writeIgnored_link (o : Dom) (a v : Nat) : (s.writeIgnored o a v).link = s.link := s.captureAt_link _ _ _ _ _
@[simp] theorem State.writeIgnored_hk (o : Dom) (a v : Nat) : (s.writeIgnored o a v).hk = s.hk := s.captureAt_hk _ _ _ _ _
@[simp] theorem State.writeIgnored_queues (o : Dom) (a v : Nat) : (s.writeIgnored o a v).queues = s.queues := s.captureAt_queues _ _ _ _ _
@[simp] theorem State.writeIgnored_gwy (o : Dom) (a v : Nat) : (s.writeIgnored o a v).gwy = s.gwy := s.captureAt_gwy _ _ _ _ _
@[simp] theorem State.writeIgnored_bmk (o : Dom) (a v : Nat) : (s.writeIgnored o a v).bmk = s.bmk := s.captureAt_bmk _ _ _ _ _
@[simp] theorem State.writeIgnored_tel (o : Dom) (a v : Nat) : (s.writeIgnored o a v).tel = s.tel := s.captureAt_tel _ _ _ _ _
@[simp] theorem State.writeIgnored_cart (o : Dom) (a v : Nat) : (s.writeIgnored o a v).cart = s.cart := s.captureAt_cart _ _ _ _ _
@[simp] theorem State.writeIgnored_log (o : Dom) (a v : Nat) : (s.writeIgnored o a v).log = s.log := s.captureAt_log _ _ _ _ _
@[simp] theorem State.writeIgnored_wear (o : Dom) (a v : Nat) : (s.writeIgnored o a v).wear = s.wear := s.captureAt_wear _ _ _ _ _
@[simp] theorem State.writeIgnored_moor (o : Dom) (a v : Nat) : (s.writeIgnored o a v).moor = s.moor := s.captureAt_moor _ _ _ _ _
@[simp] theorem State.writeIgnored_ram (o : Dom) (a v : Nat) : (s.writeIgnored o a v).ram = s.ram := s.captureAt_ram _ _ _ _ _
@[simp] theorem State.writeIgnored_mem (o : Dom) (a v : Nat) : (s.writeIgnored o a v).mem = s.mem := s.captureAt_mem _ _ _ _ _
@[simp] theorem State.writeIgnored_seq (o : Dom) (a v : Nat) : (s.writeIgnored o a v).seq = s.seq := s.captureAt_seq _ _ _ _ _
@[simp] theorem State.writeIgnored_sent (o : Dom) (a v : Nat) : (s.writeIgnored o a v).sent = s.sent := s.captureAt_sent _ _ _ _ _

/-- Signalling a vector changes the endpoints and what was sent, nothing else. -/
theorem State.signalVec_form (q v : Nat) :
    ∃ a b x, s.signalVec q v = { s with ep0 := a, ep1 := b, sent := x } := by
  unfold State.signalVec State.setEp State.emit
  dsimp only
  repeat' split
  all_goals exact ⟨_, _, _, rfl⟩

theorem State.signalVecs_form (q : Nat) (l : List Nat) : ∀ s : State,
    ∃ a b x, l.foldl (fun (u : State) (v : Nat) => u.signalVec q v) s = { s with ep0 := a, ep1 := b, sent := x } := by
  induction l with
  | nil => intro s; exact ⟨_, _, _, rfl⟩
  | cons v l ih =>
    intro s
    obtain ⟨a, b, x, h⟩ := s.signalVec_form q v
    obtain ⟨a', b', x', h'⟩ := ih (s.signalVec q v)
    exact ⟨a', b', x', by rw [List.foldl_cons, h', h]⟩

theorem State.signalNew_form (q : Nat) : ∃ a b x, s.signalNew q = { s with ep0 := a, ep1 := b, sent := x } := by
  obtain ⟨a, b, x, h⟩ := State.signalVecs_form q (s.newVecs q) s
  unfold State.signalNew State.setEp
  dsimp only
  rw [h]
  split <;> exact ⟨_, _, _, rfl⟩

/-- Interrupt delivery changes the endpoints and what was sent, nothing else. -/
theorem State.settle_form : ∃ a b x, s.settle = { s with ep0 := a, ep1 := b, sent := x } := by
  obtain ⟨a, b, x, h⟩ := s.signalNew_form 0
  obtain ⟨a', b', x', h'⟩ := (s.signalNew 0).signalNew_form 1
  exact ⟨a', b', x', by unfold State.settle; rw [h', h]⟩


@[simp] theorem State.signalVec_pending (q v : Nat) : (s.signalVec q v).pending = s.pending := by
  obtain ⟨_, _, _, h⟩ := s.signalVec_form q v; rw [h]
@[simp] theorem State.signalVec_clk (q v : Nat) : (s.signalVec q v).clk = s.clk := by
  obtain ⟨_, _, _, h⟩ := s.signalVec_form q v; rw [h]
@[simp] theorem State.signalVec_fresh (q v : Nat) : (s.signalVec q v).fresh = s.fresh := by
  obtain ⟨_, _, _, h⟩ := s.signalVec_form q v; rw [h]
@[simp] theorem State.signalVec_dev (q v : Nat) : (s.signalVec q v).dev = s.dev := by
  obtain ⟨_, _, _, h⟩ := s.signalVec_form q v; rw [h]
@[simp] theorem State.signalVec_regs (q v : Nat) : (s.signalVec q v).regs = s.regs := by
  obtain ⟨_, _, _, h⟩ := s.signalVec_form q v; rw [h]
@[simp] theorem State.signalVec_pend (q v : Nat) : (s.signalVec q v).pend = s.pend := by
  obtain ⟨_, _, _, h⟩ := s.signalVec_form q v; rw [h]
@[simp] theorem State.signalVec_force (q v : Nat) : (s.signalVec q v).force = s.force := by
  obtain ⟨_, _, _, h⟩ := s.signalVec_form q v; rw [h]
@[simp] theorem State.signalVec_pages (q v : Nat) : (s.signalVec q v).pages = s.pages := by
  obtain ⟨_, _, _, h⟩ := s.signalVec_form q v; rw [h]
@[simp] theorem State.signalVec_dtm (q v : Nat) : (s.signalVec q v).dtm = s.dtm := by
  obtain ⟨_, _, _, h⟩ := s.signalVec_form q v; rw [h]
@[simp] theorem State.signalVec_ing (q v : Nat) : (s.signalVec q v).ing = s.ing := by
  obtain ⟨_, _, _, h⟩ := s.signalVec_form q v; rw [h]
@[simp] theorem State.signalVec_atl (q v : Nat) : (s.signalVec q v).atl = s.atl := by
  obtain ⟨_, _, _, h⟩ := s.signalVec_form q v; rw [h]
@[simp] theorem State.signalVec_lay (q v : Nat) : (s.signalVec q v).lay = s.lay := by
  obtain ⟨_, _, _, h⟩ := s.signalVec_form q v; rw [h]
@[simp] theorem State.signalVec_grt (q v : Nat) : (s.signalVec q v).grt = s.grt := by
  obtain ⟨_, _, _, h⟩ := s.signalVec_form q v; rw [h]
@[simp] theorem State.signalVec_link (q v : Nat) : (s.signalVec q v).link = s.link := by
  obtain ⟨_, _, _, h⟩ := s.signalVec_form q v; rw [h]
@[simp] theorem State.signalVec_hk (q v : Nat) : (s.signalVec q v).hk = s.hk := by
  obtain ⟨_, _, _, h⟩ := s.signalVec_form q v; rw [h]
@[simp] theorem State.signalVec_queues (q v : Nat) : (s.signalVec q v).queues = s.queues := by
  obtain ⟨_, _, _, h⟩ := s.signalVec_form q v; rw [h]
@[simp] theorem State.signalVec_gwy (q v : Nat) : (s.signalVec q v).gwy = s.gwy := by
  obtain ⟨_, _, _, h⟩ := s.signalVec_form q v; rw [h]
@[simp] theorem State.signalVec_bmk (q v : Nat) : (s.signalVec q v).bmk = s.bmk := by
  obtain ⟨_, _, _, h⟩ := s.signalVec_form q v; rw [h]
@[simp] theorem State.signalVec_tel (q v : Nat) : (s.signalVec q v).tel = s.tel := by
  obtain ⟨_, _, _, h⟩ := s.signalVec_form q v; rw [h]
@[simp] theorem State.signalVec_cart (q v : Nat) : (s.signalVec q v).cart = s.cart := by
  obtain ⟨_, _, _, h⟩ := s.signalVec_form q v; rw [h]
@[simp] theorem State.signalVec_log (q v : Nat) : (s.signalVec q v).log = s.log := by
  obtain ⟨_, _, _, h⟩ := s.signalVec_form q v; rw [h]
@[simp] theorem State.signalVec_wear (q v : Nat) : (s.signalVec q v).wear = s.wear := by
  obtain ⟨_, _, _, h⟩ := s.signalVec_form q v; rw [h]
@[simp] theorem State.signalVec_moor (q v : Nat) : (s.signalVec q v).moor = s.moor := by
  obtain ⟨_, _, _, h⟩ := s.signalVec_form q v; rw [h]
@[simp] theorem State.signalVec_ram (q v : Nat) : (s.signalVec q v).ram = s.ram := by
  obtain ⟨_, _, _, h⟩ := s.signalVec_form q v; rw [h]
@[simp] theorem State.signalVec_mem (q v : Nat) : (s.signalVec q v).mem = s.mem := by
  obtain ⟨_, _, _, h⟩ := s.signalVec_form q v; rw [h]
@[simp] theorem State.signalVec_seq (q v : Nat) : (s.signalVec q v).seq = s.seq := by
  obtain ⟨_, _, _, h⟩ := s.signalVec_form q v; rw [h]

@[simp] theorem State.signalNew_pending (q : Nat) : (s.signalNew q).pending = s.pending := by
  obtain ⟨_, _, _, h⟩ := s.signalNew_form q; rw [h]
@[simp] theorem State.signalNew_clk (q : Nat) : (s.signalNew q).clk = s.clk := by
  obtain ⟨_, _, _, h⟩ := s.signalNew_form q; rw [h]
@[simp] theorem State.signalNew_fresh (q : Nat) : (s.signalNew q).fresh = s.fresh := by
  obtain ⟨_, _, _, h⟩ := s.signalNew_form q; rw [h]
@[simp] theorem State.signalNew_dev (q : Nat) : (s.signalNew q).dev = s.dev := by
  obtain ⟨_, _, _, h⟩ := s.signalNew_form q; rw [h]
@[simp] theorem State.signalNew_regs (q : Nat) : (s.signalNew q).regs = s.regs := by
  obtain ⟨_, _, _, h⟩ := s.signalNew_form q; rw [h]
@[simp] theorem State.signalNew_pend (q : Nat) : (s.signalNew q).pend = s.pend := by
  obtain ⟨_, _, _, h⟩ := s.signalNew_form q; rw [h]
@[simp] theorem State.signalNew_force (q : Nat) : (s.signalNew q).force = s.force := by
  obtain ⟨_, _, _, h⟩ := s.signalNew_form q; rw [h]
@[simp] theorem State.signalNew_pages (q : Nat) : (s.signalNew q).pages = s.pages := by
  obtain ⟨_, _, _, h⟩ := s.signalNew_form q; rw [h]
@[simp] theorem State.signalNew_dtm (q : Nat) : (s.signalNew q).dtm = s.dtm := by
  obtain ⟨_, _, _, h⟩ := s.signalNew_form q; rw [h]
@[simp] theorem State.signalNew_ing (q : Nat) : (s.signalNew q).ing = s.ing := by
  obtain ⟨_, _, _, h⟩ := s.signalNew_form q; rw [h]
@[simp] theorem State.signalNew_atl (q : Nat) : (s.signalNew q).atl = s.atl := by
  obtain ⟨_, _, _, h⟩ := s.signalNew_form q; rw [h]
@[simp] theorem State.signalNew_lay (q : Nat) : (s.signalNew q).lay = s.lay := by
  obtain ⟨_, _, _, h⟩ := s.signalNew_form q; rw [h]
@[simp] theorem State.signalNew_grt (q : Nat) : (s.signalNew q).grt = s.grt := by
  obtain ⟨_, _, _, h⟩ := s.signalNew_form q; rw [h]
@[simp] theorem State.signalNew_link (q : Nat) : (s.signalNew q).link = s.link := by
  obtain ⟨_, _, _, h⟩ := s.signalNew_form q; rw [h]
@[simp] theorem State.signalNew_hk (q : Nat) : (s.signalNew q).hk = s.hk := by
  obtain ⟨_, _, _, h⟩ := s.signalNew_form q; rw [h]
@[simp] theorem State.signalNew_queues (q : Nat) : (s.signalNew q).queues = s.queues := by
  obtain ⟨_, _, _, h⟩ := s.signalNew_form q; rw [h]
@[simp] theorem State.signalNew_gwy (q : Nat) : (s.signalNew q).gwy = s.gwy := by
  obtain ⟨_, _, _, h⟩ := s.signalNew_form q; rw [h]
@[simp] theorem State.signalNew_bmk (q : Nat) : (s.signalNew q).bmk = s.bmk := by
  obtain ⟨_, _, _, h⟩ := s.signalNew_form q; rw [h]
@[simp] theorem State.signalNew_tel (q : Nat) : (s.signalNew q).tel = s.tel := by
  obtain ⟨_, _, _, h⟩ := s.signalNew_form q; rw [h]
@[simp] theorem State.signalNew_cart (q : Nat) : (s.signalNew q).cart = s.cart := by
  obtain ⟨_, _, _, h⟩ := s.signalNew_form q; rw [h]
@[simp] theorem State.signalNew_log (q : Nat) : (s.signalNew q).log = s.log := by
  obtain ⟨_, _, _, h⟩ := s.signalNew_form q; rw [h]
@[simp] theorem State.signalNew_wear (q : Nat) : (s.signalNew q).wear = s.wear := by
  obtain ⟨_, _, _, h⟩ := s.signalNew_form q; rw [h]
@[simp] theorem State.signalNew_moor (q : Nat) : (s.signalNew q).moor = s.moor := by
  obtain ⟨_, _, _, h⟩ := s.signalNew_form q; rw [h]
@[simp] theorem State.signalNew_ram (q : Nat) : (s.signalNew q).ram = s.ram := by
  obtain ⟨_, _, _, h⟩ := s.signalNew_form q; rw [h]
@[simp] theorem State.signalNew_mem (q : Nat) : (s.signalNew q).mem = s.mem := by
  obtain ⟨_, _, _, h⟩ := s.signalNew_form q; rw [h]
@[simp] theorem State.signalNew_seq (q : Nat) : (s.signalNew q).seq = s.seq := by
  obtain ⟨_, _, _, h⟩ := s.signalNew_form q; rw [h]

@[simp] theorem State.settle_pending : (s.settle).pending = s.pending := by
  obtain ⟨_, _, _, h⟩ := s.settle_form; rw [h]
@[simp] theorem State.settle_clk : (s.settle).clk = s.clk := by
  obtain ⟨_, _, _, h⟩ := s.settle_form; rw [h]
@[simp] theorem State.settle_fresh : (s.settle).fresh = s.fresh := by
  obtain ⟨_, _, _, h⟩ := s.settle_form; rw [h]
@[simp] theorem State.settle_dev : (s.settle).dev = s.dev := by
  obtain ⟨_, _, _, h⟩ := s.settle_form; rw [h]
@[simp] theorem State.settle_regs : (s.settle).regs = s.regs := by
  obtain ⟨_, _, _, h⟩ := s.settle_form; rw [h]
@[simp] theorem State.settle_pend : (s.settle).pend = s.pend := by
  obtain ⟨_, _, _, h⟩ := s.settle_form; rw [h]
@[simp] theorem State.settle_force : (s.settle).force = s.force := by
  obtain ⟨_, _, _, h⟩ := s.settle_form; rw [h]
@[simp] theorem State.settle_pages : (s.settle).pages = s.pages := by
  obtain ⟨_, _, _, h⟩ := s.settle_form; rw [h]
@[simp] theorem State.settle_dtm : (s.settle).dtm = s.dtm := by
  obtain ⟨_, _, _, h⟩ := s.settle_form; rw [h]
@[simp] theorem State.settle_ing : (s.settle).ing = s.ing := by
  obtain ⟨_, _, _, h⟩ := s.settle_form; rw [h]
@[simp] theorem State.settle_atl : (s.settle).atl = s.atl := by
  obtain ⟨_, _, _, h⟩ := s.settle_form; rw [h]
@[simp] theorem State.settle_lay : (s.settle).lay = s.lay := by
  obtain ⟨_, _, _, h⟩ := s.settle_form; rw [h]
@[simp] theorem State.settle_grt : (s.settle).grt = s.grt := by
  obtain ⟨_, _, _, h⟩ := s.settle_form; rw [h]
@[simp] theorem State.settle_link : (s.settle).link = s.link := by
  obtain ⟨_, _, _, h⟩ := s.settle_form; rw [h]
@[simp] theorem State.settle_hk : (s.settle).hk = s.hk := by
  obtain ⟨_, _, _, h⟩ := s.settle_form; rw [h]
@[simp] theorem State.settle_queues : (s.settle).queues = s.queues := by
  obtain ⟨_, _, _, h⟩ := s.settle_form; rw [h]
@[simp] theorem State.settle_gwy : (s.settle).gwy = s.gwy := by
  obtain ⟨_, _, _, h⟩ := s.settle_form; rw [h]
@[simp] theorem State.settle_bmk : (s.settle).bmk = s.bmk := by
  obtain ⟨_, _, _, h⟩ := s.settle_form; rw [h]
@[simp] theorem State.settle_tel : (s.settle).tel = s.tel := by
  obtain ⟨_, _, _, h⟩ := s.settle_form; rw [h]
@[simp] theorem State.settle_cart : (s.settle).cart = s.cart := by
  obtain ⟨_, _, _, h⟩ := s.settle_form; rw [h]
@[simp] theorem State.settle_log : (s.settle).log = s.log := by
  obtain ⟨_, _, _, h⟩ := s.settle_form; rw [h]
@[simp] theorem State.settle_wear : (s.settle).wear = s.wear := by
  obtain ⟨_, _, _, h⟩ := s.settle_form; rw [h]
@[simp] theorem State.settle_moor : (s.settle).moor = s.moor := by
  obtain ⟨_, _, _, h⟩ := s.settle_form; rw [h]
@[simp] theorem State.settle_ram : (s.settle).ram = s.ram := by
  obtain ⟨_, _, _, h⟩ := s.settle_form; rw [h]
@[simp] theorem State.settle_mem : (s.settle).mem = s.mem := by
  obtain ⟨_, _, _, h⟩ := s.settle_form; rw [h]
@[simp] theorem State.settle_seq : (s.settle).seq = s.seq := by
  obtain ⟨_, _, _, h⟩ := s.settle_form; rw [h]

@[simp] theorem finish_fresh (b : State) : (finish b s).fresh = s.fresh := by simp only [finish, State.settle_fresh]
@[simp] theorem finish_dev (b : State) : (finish b s).dev = s.dev := by simp only [finish, State.settle_dev]
@[simp] theorem finish_regs (b : State) : (finish b s).regs = s.regs := by simp only [finish, State.settle_regs]
@[simp] theorem finish_pend (b : State) : (finish b s).pend = s.pend := by simp only [finish, State.settle_pend]
@[simp] theorem finish_force (b : State) : (finish b s).force = s.force := by simp only [finish, State.settle_force]
@[simp] theorem finish_pages (b : State) : (finish b s).pages = s.pages := by simp only [finish, State.settle_pages]
@[simp] theorem finish_dtm (b : State) : (finish b s).dtm = s.dtm := by simp only [finish, State.settle_dtm]
@[simp] theorem finish_ing (b : State) : (finish b s).ing = s.ing := by simp only [finish, State.settle_ing]
@[simp] theorem finish_atl (b : State) : (finish b s).atl = s.atl := by simp only [finish, State.settle_atl]
@[simp] theorem finish_lay (b : State) : (finish b s).lay = s.lay := by simp only [finish, State.settle_lay]
@[simp] theorem finish_grt (b : State) : (finish b s).grt = s.grt := by simp only [finish, State.settle_grt]
@[simp] theorem finish_link (b : State) : (finish b s).link = s.link := by simp only [finish, State.settle_link]
@[simp] theorem finish_hk (b : State) : (finish b s).hk = s.hk := by simp only [finish, State.settle_hk]
@[simp] theorem finish_queues (b : State) : (finish b s).queues = s.queues := by simp only [finish, State.settle_queues]
@[simp] theorem finish_gwy (b : State) : (finish b s).gwy = s.gwy := by simp only [finish, State.settle_gwy]
@[simp] theorem finish_bmk (b : State) : (finish b s).bmk = s.bmk := by simp only [finish, State.settle_bmk]
@[simp] theorem finish_tel (b : State) : (finish b s).tel = s.tel := by simp only [finish, State.settle_tel]
@[simp] theorem finish_cart (b : State) : (finish b s).cart = s.cart := by simp only [finish, State.settle_cart]
@[simp] theorem finish_log (b : State) : (finish b s).log = s.log := by simp only [finish, State.settle_log]
@[simp] theorem finish_wear (b : State) : (finish b s).wear = s.wear := by simp only [finish, State.settle_wear]
@[simp] theorem finish_moor (b : State) : (finish b s).moor = s.moor := by simp only [finish, State.settle_moor]
@[simp] theorem finish_ram (b : State) : (finish b s).ram = s.ram := by simp only [finish, State.settle_ram]
@[simp] theorem finish_mem (b : State) : (finish b s).mem = s.mem := by simp only [finish, State.settle_mem]
@[simp] theorem finish_seq (b : State) : (finish b s).seq = s.seq := by simp only [finish, State.settle_seq]
@[simp] theorem finish_pending (b : State) : (finish b s).pending = b.pending := by simp only [finish]
@[simp] theorem finish_clk (b : State) : (finish b s).clk = b.clk := by simp only [finish]

end Sys2Proof.Machine
end

