-- ==== Sys2Proof/Laws/Registers.lean ====
section
/-! SUPPORT. What a register, a field, a bit and a page header read as after each named operation. -/

namespace Sys2Proof.Machine

/-! Fields of a number. -/

theorem putBits_eq (old hi lo v : Nat) (h : lo ≤ hi) :
    putBits old hi lo v = old % 2 ^ lo + 2 ^ lo * (v % 2 ^ (hi - lo + 1)) + 2 ^ (hi + 1) * (old / 2 ^ (hi + 1)) := by
  unfold putBits
  simp only [Nat.shiftRight_eq_div_pow]
  have e : 2 ^ (hi + 1) = 2 ^ lo * 2 ^ (hi - lo + 1) := by rw [← Nat.pow_add]; congr 1; omega
  have h1 := Nat.div_add_mod old (2 ^ lo)
  have h2 := Nat.div_add_mod (old / 2 ^ lo) (2 ^ (hi - lo + 1))
  rw [e, ← Nat.div_div_eq_div_mul]
  set w := 2 ^ (hi - lo + 1)
  set m := 2 ^ lo
  set q := old / m
  have h3 : old = m * (w * (q / w) + q % w) + old % m := by rw [h2, h1]
  have h4 : m * (w * (q / w) + q % w) = m * w * (q / w) + q % w * m := by ring
  have h5 : old - q % w * m = m * w * (q / w) + old % m := by omega
  rw [h5]
  ring

theorem putBits_testBit (old hi lo v i : Nat) (h : lo ≤ hi) :
    (putBits old hi lo v).testBit i = if lo ≤ i ∧ i ≤ hi then v.testBit (i - lo) else old.testBit i := by
  rw [putBits_eq old hi lo v h]
  have e : 2 ^ (hi + 1) = 2 ^ lo * 2 ^ (hi - lo + 1) := by rw [← Nat.pow_add]; congr 1; omega
  have hlt : old % 2 ^ lo + 2 ^ lo * (v % 2 ^ (hi - lo + 1)) < 2 ^ (hi + 1) := by
    have h1 : old % 2 ^ lo < 2 ^ lo := Nat.mod_lt _ (by positivity)
    have h2 : v % 2 ^ (hi - lo + 1) < 2 ^ (hi - lo + 1) := Nat.mod_lt _ (by positivity)
    have h3 : 2 ^ lo * (v % 2 ^ (hi - lo + 1) + 1) ≤ 2 ^ lo * 2 ^ (hi - lo + 1) := Nat.mul_le_mul_left _ h2
    rw [e]; rw [Nat.mul_add] at h3; omega
  rw [Nat.add_comm (old % 2 ^ lo + _), Nat.testBit_two_pow_mul_add _ hlt]
  split
  · next hi' =>
    rw [Nat.add_comm, Nat.testBit_two_pow_mul_add _ (Nat.mod_lt _ (by positivity))]
    split
    · next hl => rw [if_neg (by omega), Nat.testBit_mod_two_pow]; simp [hl]
    · next hl =>
      rw [if_pos (by omega), Nat.testBit_mod_two_pow]
      simp; intro; omega
  · next hi' =>
    rw [if_neg (by omega), Nat.testBit_div_two_pow]
    congr 1; omega

theorem bits_testBit (v hi lo i : Nat) : (bits v hi lo).testBit i = (decide (i < hi - lo + 1) && v.testBit (lo + i)) := by
  rw [bits, Nat.testBit_mod_two_pow, Nat.testBit_shiftRight]

theorem bits_putBits_same (old hi lo v : Nat) (h : lo ≤ hi) : bits (putBits old hi lo v) hi lo = v % 2 ^ (hi - lo + 1) := by
  apply Nat.eq_of_testBit_eq
  intro i
  rw [bits_testBit, putBits_testBit _ _ _ _ _ h, Nat.testBit_mod_two_pow]
  by_cases hi' : i < hi - lo + 1
  · rw [if_pos (by omega)]; simp [hi']
  · simp [hi']

theorem bits_putBits_other (old hi lo v hi' lo' : Nat) (h : lo ≤ hi) (h' : lo' ≤ hi') (d : hi' < lo ∨ hi < lo') :
    bits (putBits old hi lo v) hi' lo' = bits old hi' lo' := by
  apply Nat.eq_of_testBit_eq
  intro i
  rw [bits_testBit, bits_testBit, putBits_testBit _ _ _ _ _ h]
  by_cases hi'' : i < hi' - lo' + 1
  · rw [if_neg (by omega)]
  · simp [hi'']

theorem putBits_lt (old hi lo v : Nat) (h : lo ≤ hi) (h32 : hi < 32) (ho : old < 2 ^ 32) : putBits old hi lo v < 2 ^ 32 := by
  apply Nat.lt_pow_two_of_testBit
  intro i hi'
  rw [putBits_testBit _ _ _ _ _ h, if_neg (by omega)]
  exact Nat.testBit_lt_two_pow (lt_of_lt_of_le ho (Nat.pow_le_pow_right (by omega) hi'))

variable (s : State)

/-! Registers. -/

theorem State.rd_lt (a : Nat) : s.rd a < 2 ^ 32 := (s.reg a).isLt

@[simp] theorem State.reg_setReg_same (a : Nat) (v : W32) : (s.setReg a v).reg a = v := by
  unfold State.reg State.setReg; exact aget_aset_same _ _ _ _

theorem State.reg_setReg_other {a b : Nat} (v : W32) (h : b ≠ a) : (s.setReg a v).reg b = s.reg b := by
  unfold State.reg State.setReg; exact aget_aset_other _ _ _ _ h

@[simp] theorem State.reg_wr_same (a v : Nat) : (s.wr a v).reg a = BitVec.ofNat 32 v := s.reg_setReg_same a _

theorem State.reg_wr_other {a b : Nat} (v : Nat) (h : b ≠ a) : (s.wr a v).reg b = s.reg b := s.reg_setReg_other _ h

theorem State.rd_wr_mod (a v : Nat) : (s.wr a v).rd a = v % 2 ^ 32 := by
  unfold State.rd; rw [State.reg_wr_same]; simp

theorem State.rd_wr_same (a : Nat) {v : Nat} (h : v < 2 ^ 32) : (s.wr a v).rd a = v := by
  rw [State.rd_wr_mod, Nat.mod_eq_of_lt h]

/-- A write leaves every other register alone. -/
theorem State.rd_wr_other {a b : Nat} (v : Nat) (h : b ≠ a) : (s.wr a v).rd b = s.rd b := by
  unfold State.rd; rw [State.reg_wr_other _ _ h]

theorem State.fld_wr_other {a b : Nat} (hi lo v : Nat) (h : b ≠ a) : (s.wr a v).fld b hi lo = s.fld b hi lo := by
  unfold State.fld; rw [State.rd_wr_other _ _ h]

theorem State.bitAt_wr_other {a b : Nat} (i v : Nat) (h : b ≠ a) : (s.wr a v).bitAt b i = s.bitAt b i := by
  unfold State.bitAt; rw [State.rd_wr_other _ _ h]

/-! Fields of a register. -/

theorem State.rd_setFld_same (a hi lo v : Nat) (h : lo ≤ hi) (h32 : hi < 32) :
    (s.setFld a hi lo v).rd a = putBits (s.rd a) hi lo v :=
  s.rd_wr_same a (putBits_lt _ _ _ _ h h32 (s.rd_lt a))

theorem State.rd_setFld_other {a b : Nat} (hi lo v : Nat) (h : b ≠ a) : (s.setFld a hi lo v).rd b = s.rd b :=
  s.rd_wr_other _ h

theorem State.reg_setFld_other {a b : Nat} (hi lo v : Nat) (h : b ≠ a) : (s.setFld a hi lo v).reg b = s.reg b :=
  s.reg_wr_other _ h

theorem State.fld_setFld_same (a hi lo v : Nat) (h : lo ≤ hi) (h32 : hi < 32) :
    (s.setFld a hi lo v).fld a hi lo = v % 2 ^ (hi - lo + 1) := by
  unfold State.fld; rw [State.rd_setFld_same _ _ _ _ _ h h32, bits_putBits_same _ _ _ _ h]

theorem State.fld_setFld_disjoint (a hi lo v hi' lo' : Nat) (h : lo ≤ hi) (h32 : hi < 32) (h' : lo' ≤ hi')
    (d : hi' < lo ∨ hi < lo') : (s.setFld a hi lo v).fld a hi' lo' = s.fld a hi' lo' := by
  unfold State.fld; rw [State.rd_setFld_same _ _ _ _ _ h h32, bits_putBits_other _ _ _ _ _ _ h h' d]

theorem State.fld_setFld_other {a b : Nat} (hi lo v hi' lo' : Nat) (h : b ≠ a) :
    (s.setFld a hi lo v).fld b hi' lo' = s.fld b hi' lo' := by unfold State.fld; rw [State.rd_setFld_other _ _ _ _ h]

theorem State.bitAt_setFld_disjoint (a hi lo v i : Nat) (h : lo ≤ hi) (h32 : hi < 32) (d : i < lo ∨ hi < i) :
    (s.setFld a hi lo v).bitAt a i = s.bitAt a i := by
  unfold State.bitAt; rw [State.rd_setFld_same _ _ _ _ _ h h32, putBits_testBit _ _ _ _ _ h, if_neg (by omega)]

theorem State.bitAt_setFld_other {a b : Nat} (hi lo v i : Nat) (h : b ≠ a) :
    (s.setFld a hi lo v).bitAt b i = s.bitAt b i := by unfold State.bitAt; rw [State.rd_setFld_other _ _ _ _ h]

theorem State.bitAt_setBit (a i j : Nat) (b : Bool) (h : i < 32) :
    (s.setBit a i b).bitAt a j = if j = i then b else s.bitAt a j := by
  unfold State.bitAt State.setBit
  rw [State.rd_setFld_same _ _ _ _ _ (le_refl i) h, putBits_testBit _ _ _ _ _ (le_refl i)]
  by_cases hj : j = i
  · subst hj; cases b <;> simp
  · rw [if_neg (by omega), if_neg hj]

theorem State.bitAt_setBit_same (a i : Nat) (b : Bool) (h : i < 32) : (s.setBit a i b).bitAt a i = b := by
  rw [State.bitAt_setBit _ _ _ _ _ h, if_pos rfl]

theorem State.bitAt_setBit_disjoint (a i j : Nat) (b : Bool) (h : i < 32) (d : j ≠ i) :
    (s.setBit a i b).bitAt a j = s.bitAt a j := by rw [State.bitAt_setBit _ _ _ _ _ h, if_neg d]

theorem State.rd_setBit_other {a b : Nat} (i : Nat) (v : Bool) (h : b ≠ a) : (s.setBit a i v).rd b = s.rd b :=
  s.rd_wr_other _ h

theorem State.reg_setBit_other {a b : Nat} (i : Nat) (v : Bool) (h : b ≠ a) : (s.setBit a i v).reg b = s.reg b :=
  s.reg_wr_other _ h

theorem State.fld_setBit_other {a b : Nat} (i : Nat) (v : Bool) (hi lo : Nat) (h : b ≠ a) :
    (s.setBit a i v).fld b hi lo = s.fld b hi lo := s.fld_wr_other _ _ _ h

theorem State.bitAt_setBit_other {a b : Nat} (i j : Nat) (v : Bool) (h : b ≠ a) :
    (s.setBit a i v).bitAt b j = s.bitAt b j := s.bitAt_wr_other _ _ h

theorem State.fld_setBit_disjoint (a i : Nat) (v : Bool) (hi lo : Nat) (h : i < 32) (h' : lo ≤ hi)
    (d : hi < i ∨ i < lo) : (s.setBit a i v).fld a hi lo = s.fld a hi lo :=
  s.fld_setFld_disjoint a i i _ hi lo (le_refl i) h h' d

/-! Counters. -/

theorem State.rd_addCnt_same (a n : Nat) : (s.addCnt a n).rd a = min (s.rd a + n) 0xFFFFFFFF :=
  s.rd_wr_same a (by have := Nat.min_le_right (s.rd a + n) 0xFFFFFFFF; omega)

theorem State.rd_addCnt_other {a b : Nat} (n : Nat) (h : b ≠ a) : (s.addCnt a n).rd b = s.rd b := s.rd_wr_other _ h

theorem State.rd_inc_same (a : Nat) : (s.inc a).rd a = min (s.rd a + 1) 0xFFFFFFFF := s.rd_addCnt_same a 1

theorem State.rd_inc_other {a b : Nat} (h : b ≠ a) : (s.inc a).rd b = s.rd b := s.rd_wr_other _ h

theorem State.bitAt_inc_other {a b : Nat} (i : Nat) (h : b ≠ a) : (s.inc a).bitAt b i = s.bitAt b i := s.bitAt_wr_other _ _ h

theorem State.fld_inc_other {a b : Nat} (hi lo : Nat) (h : b ≠ a) : (s.inc a).fld b hi lo = s.fld b hi lo :=
  s.fld_wr_other _ _ _ h

/-! Interrupts. -/

theorem State.bitAt_raise_same (p i : Nat) (h : i < 32) : (s.raise p i).bitAt (Reg.INT_RAW p) i = true :=
  s.bitAt_setBit_same _ _ _ h

theorem State.bitAt_raise_disjoint (p i j : Nat) (h : i < 32) (d : j ≠ i) :
    (s.raise p i).bitAt (Reg.INT_RAW p) j = s.bitAt (Reg.INT_RAW p) j := s.bitAt_setBit_disjoint _ _ _ _ h d

theorem State.rd_raise_other {b : Nat} (p i : Nat) (h : b ≠ Reg.INT_RAW p) : (s.raise p i).rd b = s.rd b :=
  s.rd_wr_other _ h

theorem State.reg_raise_other {b : Nat} (p i : Nat) (h : b ≠ Reg.INT_RAW p) : (s.raise p i).reg b = s.reg b :=
  s.reg_wr_other _ h

theorem State.bitAt_raise_other {b : Nat} (p i j : Nat) (h : b ≠ Reg.INT_RAW p) :
    (s.raise p i).bitAt b j = s.bitAt b j := s.bitAt_wr_other _ _ h

theorem State.fld_raise_other {b : Nat} (p i hi lo : Nat) (h : b ≠ Reg.INT_RAW p) :
    (s.raise p i).fld b hi lo = s.fld b hi lo := s.fld_wr_other _ _ _ h

/-- Once raised, a bit stays raised by another raise. -/
theorem State.bitAt_raise_mono (p i p' j : Nat) (h : i < 32) (hb : s.bitAt (Reg.INT_RAW p') j = true) :
    (s.raise p i).bitAt (Reg.INT_RAW p') j = true := by
  by_cases hp : Reg.INT_RAW p' = Reg.INT_RAW p
  · rw [hp] at hb ⊢
    by_cases hj : j = i
    · subst hj; exact s.bitAt_raise_same p j h
    · rw [s.bitAt_raise_disjoint p i j h hj, hb]
  · rw [s.bitAt_raise_other p i j hp, hb]

/-! Pages. -/

@[simp] theorem State.page_setPage_same (p : Nat) (v : PageState) : (s.setPage p v).page p = v := by
  unfold State.page State.setPage; exact aget_aset_same _ _ _ _

theorem State.page_setPage_other {p q : Nat} (v : PageState) (h : q ≠ p) : (s.setPage p v).page q = s.page q := by
  unfold State.page State.setPage; exact aget_aset_other _ _ _ _ h

end Sys2Proof.Machine
end

