-- ==== Sys2Proof/Laws/Readings.lean ====
section
/-! SUPPORT. What a register and a page header read as after the operations that do not touch them: one lemma per reading per
operation, the plain field updates among them. -/

namespace Sys2Proof.Machine

variable (s : State)


@[simp] theorem State.reg_emit (e : Emission) (a : Nat) : (s.emit e).reg a = s.reg a := by
  simp only [State.reg, State.emit_regs, State.emit_dev]
@[simp] theorem State.rd_emit (e : Emission) (a : Nat) : (s.emit e).rd a = s.rd a := by
  simp only [State.rd, State.reg, State.emit_regs, State.emit_dev]
@[simp] theorem State.fld_emit (e : Emission) (a hi lo : Nat) : (s.emit e).fld a hi lo = s.fld a hi lo := by
  simp only [State.fld, State.rd, State.reg, State.emit_regs, State.emit_dev]
@[simp] theorem State.bitAt_emit (e : Emission) (a i : Nat) : (s.emit e).bitAt a i = s.bitAt a i := by
  simp only [State.bitAt, State.rd, State.reg, State.emit_regs, State.emit_dev]

@[simp] theorem State.reg_setEp (q : Nat) (e : Endpoint) (a : Nat) : (s.setEp q e).reg a = s.reg a := by
  simp only [State.reg, State.setEp_regs, State.setEp_dev]
@[simp] theorem State.rd_setEp (q : Nat) (e : Endpoint) (a : Nat) : (s.setEp q e).rd a = s.rd a := by
  simp only [State.rd, State.reg, State.setEp_regs, State.setEp_dev]
@[simp] theorem State.fld_setEp (q : Nat) (e : Endpoint) (a hi lo : Nat) : (s.setEp q e).fld a hi lo = s.fld a hi lo := by
  simp only [State.fld, State.rd, State.reg, State.setEp_regs, State.setEp_dev]
@[simp] theorem State.bitAt_setEp (q : Nat) (e : Endpoint) (a i : Nat) : (s.setEp q e).bitAt a i = s.bitAt a i := by
  simp only [State.bitAt, State.rd, State.reg, State.setEp_regs, State.setEp_dev]

@[simp] theorem State.reg_setPage (p : Nat) (v : PageState) (a : Nat) : (s.setPage p v).reg a = s.reg a := by
  simp only [State.reg, State.setPage_regs, State.setPage_dev]
@[simp] theorem State.rd_setPage (p : Nat) (v : PageState) (a : Nat) : (s.setPage p v).rd a = s.rd a := by
  simp only [State.rd, State.reg, State.setPage_regs, State.setPage_dev]
@[simp] theorem State.fld_setPage (p : Nat) (v : PageState) (a hi lo : Nat) : (s.setPage p v).fld a hi lo = s.fld a hi lo := by
  simp only [State.fld, State.rd, State.reg, State.setPage_regs, State.setPage_dev]
@[simp] theorem State.bitAt_setPage (p : Nat) (v : PageState) (a i : Nat) : (s.setPage p v).bitAt a i = s.bitAt a i := by
  simp only [State.bitAt, State.rd, State.reg, State.setPage_regs, State.setPage_dev]

@[simp] theorem State.reg_signalVec (q v : Nat) (a : Nat) : (s.signalVec q v).reg a = s.reg a := by
  simp only [State.reg, State.signalVec_regs, State.signalVec_dev]
@[simp] theorem State.rd_signalVec (q v : Nat) (a : Nat) : (s.signalVec q v).rd a = s.rd a := by
  simp only [State.rd, State.reg, State.signalVec_regs, State.signalVec_dev]
@[simp] theorem State.fld_signalVec (q v : Nat) (a hi lo : Nat) : (s.signalVec q v).fld a hi lo = s.fld a hi lo := by
  simp only [State.fld, State.rd, State.reg, State.signalVec_regs, State.signalVec_dev]
@[simp] theorem State.bitAt_signalVec (q v : Nat) (a i : Nat) : (s.signalVec q v).bitAt a i = s.bitAt a i := by
  simp only [State.bitAt, State.rd, State.reg, State.signalVec_regs, State.signalVec_dev]

@[simp] theorem State.reg_signalNew (q : Nat) (a : Nat) : (s.signalNew q).reg a = s.reg a := by
  simp only [State.reg, State.signalNew_regs, State.signalNew_dev]
@[simp] theorem State.rd_signalNew (q : Nat) (a : Nat) : (s.signalNew q).rd a = s.rd a := by
  simp only [State.rd, State.reg, State.signalNew_regs, State.signalNew_dev]
@[simp] theorem State.fld_signalNew (q : Nat) (a hi lo : Nat) : (s.signalNew q).fld a hi lo = s.fld a hi lo := by
  simp only [State.fld, State.rd, State.reg, State.signalNew_regs, State.signalNew_dev]
@[simp] theorem State.bitAt_signalNew (q : Nat) (a i : Nat) : (s.signalNew q).bitAt a i = s.bitAt a i := by
  simp only [State.bitAt, State.rd, State.reg, State.signalNew_regs, State.signalNew_dev]

@[simp] theorem State.reg_settle  (a : Nat) : (s.settle).reg a = s.reg a := by
  simp only [State.reg, State.settle_regs, State.settle_dev]
@[simp] theorem State.rd_settle  (a : Nat) : (s.settle).rd a = s.rd a := by
  simp only [State.rd, State.reg, State.settle_regs, State.settle_dev]
@[simp] theorem State.fld_settle  (a hi lo : Nat) : (s.settle).fld a hi lo = s.fld a hi lo := by
  simp only [State.fld, State.rd, State.reg, State.settle_regs, State.settle_dev]
@[simp] theorem State.bitAt_settle  (a i : Nat) : (s.settle).bitAt a i = s.bitAt a i := by
  simp only [State.bitAt, State.rd, State.reg, State.settle_regs, State.settle_dev]

@[simp] theorem reg_finish (b : State) (a : Nat) : (finish b s).reg a = s.reg a := by
  simp only [State.reg, finish_regs, finish_dev]
@[simp] theorem rd_finish (b : State) (a : Nat) : (finish b s).rd a = s.rd a := by
  simp only [State.rd, State.reg, finish_regs, finish_dev]
@[simp] theorem fld_finish (b : State) (a hi lo : Nat) : (finish b s).fld a hi lo = s.fld a hi lo := by
  simp only [State.fld, State.rd, State.reg, finish_regs, finish_dev]
@[simp] theorem bitAt_finish (b : State) (a i : Nat) : (finish b s).bitAt a i = s.bitAt a i := by
  simp only [State.bitAt, State.rd, State.reg, finish_regs, finish_dev]
@[simp] theorem page_finish (b : State) (p : Nat) : (finish b s).page p = s.page p := by
  simp only [State.page, finish_pages]
@[simp] theorem State.page_emit (e : Emission) (p : Nat) : (s.emit e).page p = s.page p := by
  simp only [State.page, State.emit_pages]
@[simp] theorem State.page_setEp (q : Nat) (e : Endpoint) (p : Nat) : (s.setEp q e).page p = s.page p := by
  simp only [State.page, State.setEp_pages]
@[simp] theorem State.page_setReg (a : Nat) (v : W32) (p : Nat) : (s.setReg a v).page p = s.page p := by
  simp only [State.page, State.setReg_pages]
@[simp] theorem State.page_wr (a v : Nat) (p : Nat) : (s.wr a v).page p = s.page p := by
  simp only [State.page, State.wr_pages]
@[simp] theorem State.page_setFld (a hi lo v : Nat) (p : Nat) : (s.setFld a hi lo v).page p = s.page p := by
  simp only [State.page, State.setFld_pages]
@[simp] theorem State.page_setBit (a i : Nat) (b : Bool) (p : Nat) : (s.setBit a i b).page p = s.page p := by
  simp only [State.page, State.setBit_pages]
@[simp] theorem State.page_addCnt (a n : Nat) (p : Nat) : (s.addCnt a n).page p = s.page p := by
  simp only [State.page, State.addCnt_pages]
@[simp] theorem State.page_inc (a : Nat) (p : Nat) : (s.inc a).page p = s.page p := by
  simp only [State.page, State.inc_pages]
@[simp] theorem State.page_incFld (a hi lo : Nat) (p : Nat) : (s.incFld a hi lo).page p = s.page p := by
  simp only [State.page, State.incFld_pages]
@[simp] theorem State.page_setBit64 (lo hi i : Nat) (b : Bool) (p : Nat) : (s.setBit64 lo hi i b).page p = s.page p := by
  simp only [State.page, State.setBit64_pages]
@[simp] theorem State.page_wr64 (lo hi v : Nat) (p : Nat) : (s.wr64 lo hi v).page p = s.page p := by
  simp only [State.page, State.wr64_pages]
@[simp] theorem State.page_raise (p' i : Nat) (p : Nat) : (s.raise p' i).page p = s.page p := by
  simp only [State.page, State.raise_pages]
@[simp] theorem State.page_signalVec (q v : Nat) (p : Nat) : (s.signalVec q v).page p = s.page p := by
  simp only [State.page, State.signalVec_pages]
@[simp] theorem State.page_signalNew (q : Nat) (p : Nat) : (s.signalNew q).page p = s.page p := by
  simp only [State.page, State.signalNew_pages]
@[simp] theorem State.page_settle  (p : Nat) : (s.settle).page p = s.page p := by
  simp only [State.page, State.settle_pages]

@[simp] theorem State.reg_with_pending (x : List Instr) (a : Nat) : State.reg { s with pending := x } a = s.reg a := by
  simp only [State.reg]
@[simp] theorem State.rd_with_pending (x : List Instr) (a : Nat) : State.rd { s with pending := x } a = s.rd a := by
  simp only [State.rd, State.reg]
@[simp] theorem State.fld_with_pending (x : List Instr) (a hi lo : Nat) : State.fld { s with pending := x } a hi lo = s.fld a hi lo := by
  simp only [State.fld, State.rd, State.reg]
@[simp] theorem State.bitAt_with_pending (x : List Instr) (a i : Nat) : State.bitAt { s with pending := x } a i = s.bitAt a i := by
  simp only [State.bitAt, State.rd, State.reg]
@[simp] theorem State.page_with_pending (x : List Instr) (p : Nat) : State.page { s with pending := x } p = s.page p := by
  simp only [State.page]

@[simp] theorem State.reg_with_clk (x : Nat) (a : Nat) : State.reg { s with clk := x } a = s.reg a := by
  simp only [State.reg]
@[simp] theorem State.rd_with_clk (x : Nat) (a : Nat) : State.rd { s with clk := x } a = s.rd a := by
  simp only [State.rd, State.reg]
@[simp] theorem State.fld_with_clk (x : Nat) (a hi lo : Nat) : State.fld { s with clk := x } a hi lo = s.fld a hi lo := by
  simp only [State.fld, State.rd, State.reg]
@[simp] theorem State.bitAt_with_clk (x : Nat) (a i : Nat) : State.bitAt { s with clk := x } a i = s.bitAt a i := by
  simp only [State.bitAt, State.rd, State.reg]
@[simp] theorem State.page_with_clk (x : Nat) (p : Nat) : State.page { s with clk := x } p = s.page p := by
  simp only [State.page]

@[simp] theorem State.reg_with_fresh (x : Nat) (a : Nat) : State.reg { s with fresh := x } a = s.reg a := by
  simp only [State.reg]
@[simp] theorem State.rd_with_fresh (x : Nat) (a : Nat) : State.rd { s with fresh := x } a = s.rd a := by
  simp only [State.rd, State.reg]
@[simp] theorem State.fld_with_fresh (x : Nat) (a hi lo : Nat) : State.fld { s with fresh := x } a hi lo = s.fld a hi lo := by
  simp only [State.fld, State.rd, State.reg]
@[simp] theorem State.bitAt_with_fresh (x : Nat) (a i : Nat) : State.bitAt { s with fresh := x } a i = s.bitAt a i := by
  simp only [State.bitAt, State.rd, State.reg]
@[simp] theorem State.page_with_fresh (x : Nat) (p : Nat) : State.page { s with fresh := x } p = s.page p := by
  simp only [State.page]

@[simp] theorem State.reg_with_pend (x : List (Nat × W32)) (a : Nat) : State.reg { s with pend := x } a = s.reg a := by
  simp only [State.reg]
@[simp] theorem State.rd_with_pend (x : List (Nat × W32)) (a : Nat) : State.rd { s with pend := x } a = s.rd a := by
  simp only [State.rd, State.reg]
@[simp] theorem State.fld_with_pend (x : List (Nat × W32)) (a hi lo : Nat) : State.fld { s with pend := x } a hi lo = s.fld a hi lo := by
  simp only [State.fld, State.rd, State.reg]
@[simp] theorem State.bitAt_with_pend (x : List (Nat × W32)) (a i : Nat) : State.bitAt { s with pend := x } a i = s.bitAt a i := by
  simp only [State.bitAt, State.rd, State.reg]
@[simp] theorem State.page_with_pend (x : List (Nat × W32)) (p : Nat) : State.page { s with pend := x } p = s.page p := by
  simp only [State.page]

@[simp] theorem State.reg_with_force (x : List (Nat × W32)) (a : Nat) : State.reg { s with force := x } a = s.reg a := by
  simp only [State.reg]
@[simp] theorem State.rd_with_force (x : List (Nat × W32)) (a : Nat) : State.rd { s with force := x } a = s.rd a := by
  simp only [State.rd, State.reg]
@[simp] theorem State.fld_with_force (x : List (Nat × W32)) (a hi lo : Nat) : State.fld { s with force := x } a hi lo = s.fld a hi lo := by
  simp only [State.fld, State.rd, State.reg]
@[simp] theorem State.bitAt_with_force (x : List (Nat × W32)) (a i : Nat) : State.bitAt { s with force := x } a i = s.bitAt a i := by
  simp only [State.bitAt, State.rd, State.reg]
@[simp] theorem State.page_with_force (x : List (Nat × W32)) (p : Nat) : State.page { s with force := x } p = s.page p := by
  simp only [State.page]

@[simp] theorem State.reg_with_pages (x : List (Nat × PageState)) (a : Nat) : State.reg { s with pages := x } a = s.reg a := by
  simp only [State.reg]
@[simp] theorem State.rd_with_pages (x : List (Nat × PageState)) (a : Nat) : State.rd { s with pages := x } a = s.rd a := by
  simp only [State.rd, State.reg]
@[simp] theorem State.fld_with_pages (x : List (Nat × PageState)) (a hi lo : Nat) : State.fld { s with pages := x } a hi lo = s.fld a hi lo := by
  simp only [State.fld, State.rd, State.reg]
@[simp] theorem State.bitAt_with_pages (x : List (Nat × PageState)) (a i : Nat) : State.bitAt { s with pages := x } a i = s.bitAt a i := by
  simp only [State.bitAt, State.rd, State.reg]

@[simp] theorem State.reg_with_ep0 (x : Endpoint) (a : Nat) : State.reg { s with ep0 := x } a = s.reg a := by
  simp only [State.reg]
@[simp] theorem State.rd_with_ep0 (x : Endpoint) (a : Nat) : State.rd { s with ep0 := x } a = s.rd a := by
  simp only [State.rd, State.reg]
@[simp] theorem State.fld_with_ep0 (x : Endpoint) (a hi lo : Nat) : State.fld { s with ep0 := x } a hi lo = s.fld a hi lo := by
  simp only [State.fld, State.rd, State.reg]
@[simp] theorem State.bitAt_with_ep0 (x : Endpoint) (a i : Nat) : State.bitAt { s with ep0 := x } a i = s.bitAt a i := by
  simp only [State.bitAt, State.rd, State.reg]
@[simp] theorem State.page_with_ep0 (x : Endpoint) (p : Nat) : State.page { s with ep0 := x } p = s.page p := by
  simp only [State.page]

@[simp] theorem State.reg_with_ep1 (x : Endpoint) (a : Nat) : State.reg { s with ep1 := x } a = s.reg a := by
  simp only [State.reg]
@[simp] theorem State.rd_with_ep1 (x : Endpoint) (a : Nat) : State.rd { s with ep1 := x } a = s.rd a := by
  simp only [State.rd, State.reg]
@[simp] theorem State.fld_with_ep1 (x : Endpoint) (a hi lo : Nat) : State.fld { s with ep1 := x } a hi lo = s.fld a hi lo := by
  simp only [State.fld, State.rd, State.reg]
@[simp] theorem State.bitAt_with_ep1 (x : Endpoint) (a i : Nat) : State.bitAt { s with ep1 := x } a i = s.bitAt a i := by
  simp only [State.bitAt, State.rd, State.reg]
@[simp] theorem State.page_with_ep1 (x : Endpoint) (p : Nat) : State.page { s with ep1 := x } p = s.page p := by
  simp only [State.page]

@[simp] theorem State.reg_with_dtm (x : Datum) (a : Nat) : State.reg { s with dtm := x } a = s.reg a := by
  simp only [State.reg]
@[simp] theorem State.rd_with_dtm (x : Datum) (a : Nat) : State.rd { s with dtm := x } a = s.rd a := by
  simp only [State.rd, State.reg]
@[simp] theorem State.fld_with_dtm (x : Datum) (a hi lo : Nat) : State.fld { s with dtm := x } a hi lo = s.fld a hi lo := by
  simp only [State.fld, State.rd, State.reg]
@[simp] theorem State.bitAt_with_dtm (x : Datum) (a i : Nat) : State.bitAt { s with dtm := x } a i = s.bitAt a i := by
  simp only [State.bitAt, State.rd, State.reg]
@[simp] theorem State.page_with_dtm (x : Datum) (p : Nat) : State.page { s with dtm := x } p = s.page p := by
  simp only [State.page]

@[simp] theorem State.reg_with_ing (x : Ingest) (a : Nat) : State.reg { s with ing := x } a = s.reg a := by
  simp only [State.reg]
@[simp] theorem State.rd_with_ing (x : Ingest) (a : Nat) : State.rd { s with ing := x } a = s.rd a := by
  simp only [State.rd, State.reg]
@[simp] theorem State.fld_with_ing (x : Ingest) (a hi lo : Nat) : State.fld { s with ing := x } a hi lo = s.fld a hi lo := by
  simp only [State.fld, State.rd, State.reg]
@[simp] theorem State.bitAt_with_ing (x : Ingest) (a i : Nat) : State.bitAt { s with ing := x } a i = s.bitAt a i := by
  simp only [State.bitAt, State.rd, State.reg]
@[simp] theorem State.page_with_ing (x : Ingest) (p : Nat) : State.page { s with ing := x } p = s.page p := by
  simp only [State.page]

@[simp] theorem State.reg_with_atl (x : Atlas) (a : Nat) : State.reg { s with atl := x } a = s.reg a := by
  simp only [State.reg]
@[simp] theorem State.rd_with_atl (x : Atlas) (a : Nat) : State.rd { s with atl := x } a = s.rd a := by
  simp only [State.rd, State.reg]
@[simp] theorem State.fld_with_atl (x : Atlas) (a hi lo : Nat) : State.fld { s with atl := x } a hi lo = s.fld a hi lo := by
  simp only [State.fld, State.rd, State.reg]
@[simp] theorem State.bitAt_with_atl (x : Atlas) (a i : Nat) : State.bitAt { s with atl := x } a i = s.bitAt a i := by
  simp only [State.bitAt, State.rd, State.reg]
@[simp] theorem State.page_with_atl (x : Atlas) (p : Nat) : State.page { s with atl := x } p = s.page p := by
  simp only [State.page]

@[simp] theorem State.reg_with_lay (x : Layers) (a : Nat) : State.reg { s with lay := x } a = s.reg a := by
  simp only [State.reg]
@[simp] theorem State.rd_with_lay (x : Layers) (a : Nat) : State.rd { s with lay := x } a = s.rd a := by
  simp only [State.rd, State.reg]
@[simp] theorem State.fld_with_lay (x : Layers) (a hi lo : Nat) : State.fld { s with lay := x } a hi lo = s.fld a hi lo := by
  simp only [State.fld, State.rd, State.reg]
@[simp] theorem State.bitAt_with_lay (x : Layers) (a i : Nat) : State.bitAt { s with lay := x } a i = s.bitAt a i := by
  simp only [State.bitAt, State.rd, State.reg]
@[simp] theorem State.page_with_lay (x : Layers) (p : Nat) : State.page { s with lay := x } p = s.page p := by
  simp only [State.page]

@[simp] theorem State.reg_with_grt (x : Graticule) (a : Nat) : State.reg { s with grt := x } a = s.reg a := by
  simp only [State.reg]
@[simp] theorem State.rd_with_grt (x : Graticule) (a : Nat) : State.rd { s with grt := x } a = s.rd a := by
  simp only [State.rd, State.reg]
@[simp] theorem State.fld_with_grt (x : Graticule) (a hi lo : Nat) : State.fld { s with grt := x } a hi lo = s.fld a hi lo := by
  simp only [State.fld, State.rd, State.reg]
@[simp] theorem State.bitAt_with_grt (x : Graticule) (a i : Nat) : State.bitAt { s with grt := x } a i = s.bitAt a i := by
  simp only [State.bitAt, State.rd, State.reg]
@[simp] theorem State.page_with_grt (x : Graticule) (p : Nat) : State.page { s with grt := x } p = s.page p := by
  simp only [State.page]

@[simp] theorem State.reg_with_link (x : TileLinks) (a : Nat) : State.reg { s with link := x } a = s.reg a := by
  simp only [State.reg]
@[simp] theorem State.rd_with_link (x : TileLinks) (a : Nat) : State.rd { s with link := x } a = s.rd a := by
  simp only [State.rd, State.reg]
@[simp] theorem State.fld_with_link (x : TileLinks) (a hi lo : Nat) : State.fld { s with link := x } a hi lo = s.fld a hi lo := by
  simp only [State.fld, State.rd, State.reg]
@[simp] theorem State.bitAt_with_link (x : TileLinks) (a i : Nat) : State.bitAt { s with link := x } a i = s.bitAt a i := by
  simp only [State.bitAt, State.rd, State.reg]
@[simp] theorem State.page_with_link (x : TileLinks) (p : Nat) : State.page { s with link := x } p = s.page p := by
  simp only [State.page]

@[simp] theorem State.reg_with_hk (x : Housekeep) (a : Nat) : State.reg { s with hk := x } a = s.reg a := by
  simp only [State.reg]
@[simp] theorem State.rd_with_hk (x : Housekeep) (a : Nat) : State.rd { s with hk := x } a = s.rd a := by
  simp only [State.rd, State.reg]
@[simp] theorem State.fld_with_hk (x : Housekeep) (a hi lo : Nat) : State.fld { s with hk := x } a hi lo = s.fld a hi lo := by
  simp only [State.fld, State.rd, State.reg]
@[simp] theorem State.bitAt_with_hk (x : Housekeep) (a i : Nat) : State.bitAt { s with hk := x } a i = s.bitAt a i := by
  simp only [State.bitAt, State.rd, State.reg]
@[simp] theorem State.page_with_hk (x : Housekeep) (p : Nat) : State.page { s with hk := x } p = s.page p := by
  simp only [State.page]

@[simp] theorem State.reg_with_queues (x : List (Nat × DualQueue)) (a : Nat) : State.reg { s with queues := x } a = s.reg a := by
  simp only [State.reg]
@[simp] theorem State.rd_with_queues (x : List (Nat × DualQueue)) (a : Nat) : State.rd { s with queues := x } a = s.rd a := by
  simp only [State.rd, State.reg]
@[simp] theorem State.fld_with_queues (x : List (Nat × DualQueue)) (a hi lo : Nat) : State.fld { s with queues := x } a hi lo = s.fld a hi lo := by
  simp only [State.fld, State.rd, State.reg]
@[simp] theorem State.bitAt_with_queues (x : List (Nat × DualQueue)) (a i : Nat) : State.bitAt { s with queues := x } a i = s.bitAt a i := by
  simp only [State.bitAt, State.rd, State.reg]
@[simp] theorem State.page_with_queues (x : List (Nat × DualQueue)) (p : Nat) : State.page { s with queues := x } p = s.page p := by
  simp only [State.page]

@[simp] theorem State.reg_with_gwy (x : Gangway) (a : Nat) : State.reg { s with gwy := x } a = s.reg a := by
  simp only [State.reg]
@[simp] theorem State.rd_with_gwy (x : Gangway) (a : Nat) : State.rd { s with gwy := x } a = s.rd a := by
  simp only [State.rd, State.reg]
@[simp] theorem State.fld_with_gwy (x : Gangway) (a hi lo : Nat) : State.fld { s with gwy := x } a hi lo = s.fld a hi lo := by
  simp only [State.fld, State.rd, State.reg]
@[simp] theorem State.bitAt_with_gwy (x : Gangway) (a i : Nat) : State.bitAt { s with gwy := x } a i = s.bitAt a i := by
  simp only [State.bitAt, State.rd, State.reg]
@[simp] theorem State.page_with_gwy (x : Gangway) (p : Nat) : State.page { s with gwy := x } p = s.page p := by
  simp only [State.page]

@[simp] theorem State.reg_with_bmk (x : Benchmark) (a : Nat) : State.reg { s with bmk := x } a = s.reg a := by
  simp only [State.reg]
@[simp] theorem State.rd_with_bmk (x : Benchmark) (a : Nat) : State.rd { s with bmk := x } a = s.rd a := by
  simp only [State.rd, State.reg]
@[simp] theorem State.fld_with_bmk (x : Benchmark) (a hi lo : Nat) : State.fld { s with bmk := x } a hi lo = s.fld a hi lo := by
  simp only [State.fld, State.rd, State.reg]
@[simp] theorem State.bitAt_with_bmk (x : Benchmark) (a i : Nat) : State.bitAt { s with bmk := x } a i = s.bitAt a i := by
  simp only [State.bitAt, State.rd, State.reg]
@[simp] theorem State.page_with_bmk (x : Benchmark) (p : Nat) : State.page { s with bmk := x } p = s.page p := by
  simp only [State.page]

@[simp] theorem State.reg_with_tel (x : Telemetry) (a : Nat) : State.reg { s with tel := x } a = s.reg a := by
  simp only [State.reg]
@[simp] theorem State.rd_with_tel (x : Telemetry) (a : Nat) : State.rd { s with tel := x } a = s.rd a := by
  simp only [State.rd, State.reg]
@[simp] theorem State.fld_with_tel (x : Telemetry) (a hi lo : Nat) : State.fld { s with tel := x } a hi lo = s.fld a hi lo := by
  simp only [State.fld, State.rd, State.reg]
@[simp] theorem State.bitAt_with_tel (x : Telemetry) (a i : Nat) : State.bitAt { s with tel := x } a i = s.bitAt a i := by
  simp only [State.bitAt, State.rd, State.reg]
@[simp] theorem State.page_with_tel (x : Telemetry) (p : Nat) : State.page { s with tel := x } p = s.page p := by
  simp only [State.page]

@[simp] theorem State.reg_with_cart (x : Cartouche) (a : Nat) : State.reg { s with cart := x } a = s.reg a := by
  simp only [State.reg]
@[simp] theorem State.rd_with_cart (x : Cartouche) (a : Nat) : State.rd { s with cart := x } a = s.rd a := by
  simp only [State.rd, State.reg]
@[simp] theorem State.fld_with_cart (x : Cartouche) (a hi lo : Nat) : State.fld { s with cart := x } a hi lo = s.fld a hi lo := by
  simp only [State.fld, State.rd, State.reg]
@[simp] theorem State.bitAt_with_cart (x : Cartouche) (a i : Nat) : State.bitAt { s with cart := x } a i = s.bitAt a i := by
  simp only [State.bitAt, State.rd, State.reg]
@[simp] theorem State.page_with_cart (x : Cartouche) (p : Nat) : State.page { s with cart := x } p = s.page p := by
  simp only [State.page]

@[simp] theorem State.reg_with_log (x : Logbook) (a : Nat) : State.reg { s with log := x } a = s.reg a := by
  simp only [State.reg]
@[simp] theorem State.rd_with_log (x : Logbook) (a : Nat) : State.rd { s with log := x } a = s.rd a := by
  simp only [State.rd, State.reg]
@[simp] theorem State.fld_with_log (x : Logbook) (a hi lo : Nat) : State.fld { s with log := x } a hi lo = s.fld a hi lo := by
  simp only [State.fld, State.rd, State.reg]
@[simp] theorem State.bitAt_with_log (x : Logbook) (a i : Nat) : State.bitAt { s with log := x } a i = s.bitAt a i := by
  simp only [State.bitAt, State.rd, State.reg]
@[simp] theorem State.page_with_log (x : Logbook) (p : Nat) : State.page { s with log := x } p = s.page p := by
  simp only [State.page]

@[simp] theorem State.reg_with_wear (x : Wear) (a : Nat) : State.reg { s with wear := x } a = s.reg a := by
  simp only [State.reg]
@[simp] theorem State.rd_with_wear (x : Wear) (a : Nat) : State.rd { s with wear := x } a = s.rd a := by
  simp only [State.rd, State.reg]
@[simp] theorem State.fld_with_wear (x : Wear) (a hi lo : Nat) : State.fld { s with wear := x } a hi lo = s.fld a hi lo := by
  simp only [State.fld, State.rd, State.reg]
@[simp] theorem State.bitAt_with_wear (x : Wear) (a i : Nat) : State.bitAt { s with wear := x } a i = s.bitAt a i := by
  simp only [State.bitAt, State.rd, State.reg]
@[simp] theorem State.page_with_wear (x : Wear) (p : Nat) : State.page { s with wear := x } p = s.page p := by
  simp only [State.page]

@[simp] theorem State.reg_with_moor (x : Mooring) (a : Nat) : State.reg { s with moor := x } a = s.reg a := by
  simp only [State.reg]
@[simp] theorem State.rd_with_moor (x : Mooring) (a : Nat) : State.rd { s with moor := x } a = s.rd a := by
  simp only [State.rd, State.reg]
@[simp] theorem State.fld_with_moor (x : Mooring) (a hi lo : Nat) : State.fld { s with moor := x } a hi lo = s.fld a hi lo := by
  simp only [State.fld, State.rd, State.reg]
@[simp] theorem State.bitAt_with_moor (x : Mooring) (a i : Nat) : State.bitAt { s with moor := x } a i = s.bitAt a i := by
  simp only [State.bitAt, State.rd, State.reg]
@[simp] theorem State.page_with_moor (x : Mooring) (p : Nat) : State.page { s with moor := x } p = s.page p := by
  simp only [State.page]

@[simp] theorem State.reg_with_ram (x : MemSys) (a : Nat) : State.reg { s with ram := x } a = s.reg a := by
  simp only [State.reg]
@[simp] theorem State.rd_with_ram (x : MemSys) (a : Nat) : State.rd { s with ram := x } a = s.rd a := by
  simp only [State.rd, State.reg]
@[simp] theorem State.fld_with_ram (x : MemSys) (a hi lo : Nat) : State.fld { s with ram := x } a hi lo = s.fld a hi lo := by
  simp only [State.fld, State.rd, State.reg]
@[simp] theorem State.bitAt_with_ram (x : MemSys) (a i : Nat) : State.bitAt { s with ram := x } a i = s.bitAt a i := by
  simp only [State.bitAt, State.rd, State.reg]
@[simp] theorem State.page_with_ram (x : MemSys) (p : Nat) : State.page { s with ram := x } p = s.page p := by
  simp only [State.page]

@[simp] theorem State.reg_with_mem (x : Spaces) (a : Nat) : State.reg { s with mem := x } a = s.reg a := by
  simp only [State.reg]
@[simp] theorem State.rd_with_mem (x : Spaces) (a : Nat) : State.rd { s with mem := x } a = s.rd a := by
  simp only [State.rd, State.reg]
@[simp] theorem State.fld_with_mem (x : Spaces) (a hi lo : Nat) : State.fld { s with mem := x } a hi lo = s.fld a hi lo := by
  simp only [State.fld, State.rd, State.reg]
@[simp] theorem State.bitAt_with_mem (x : Spaces) (a i : Nat) : State.bitAt { s with mem := x } a i = s.bitAt a i := by
  simp only [State.bitAt, State.rd, State.reg]
@[simp] theorem State.page_with_mem (x : Spaces) (p : Nat) : State.page { s with mem := x } p = s.page p := by
  simp only [State.page]

@[simp] theorem State.reg_with_seq (x : Sequencer) (a : Nat) : State.reg { s with seq := x } a = s.reg a := by
  simp only [State.reg]
@[simp] theorem State.rd_with_seq (x : Sequencer) (a : Nat) : State.rd { s with seq := x } a = s.rd a := by
  simp only [State.rd, State.reg]
@[simp] theorem State.fld_with_seq (x : Sequencer) (a hi lo : Nat) : State.fld { s with seq := x } a hi lo = s.fld a hi lo := by
  simp only [State.fld, State.rd, State.reg]
@[simp] theorem State.bitAt_with_seq (x : Sequencer) (a i : Nat) : State.bitAt { s with seq := x } a i = s.bitAt a i := by
  simp only [State.bitAt, State.rd, State.reg]
@[simp] theorem State.page_with_seq (x : Sequencer) (p : Nat) : State.page { s with seq := x } p = s.page p := by
  simp only [State.page]

@[simp] theorem State.reg_with_sent (x : List Emission) (a : Nat) : State.reg { s with sent := x } a = s.reg a := by
  simp only [State.reg]
@[simp] theorem State.rd_with_sent (x : List Emission) (a : Nat) : State.rd { s with sent := x } a = s.rd a := by
  simp only [State.rd, State.reg]
@[simp] theorem State.fld_with_sent (x : List Emission) (a hi lo : Nat) : State.fld { s with sent := x } a hi lo = s.fld a hi lo := by
  simp only [State.fld, State.rd, State.reg]
@[simp] theorem State.bitAt_with_sent (x : List Emission) (a i : Nat) : State.bitAt { s with sent := x } a i = s.bitAt a i := by
  simp only [State.bitAt, State.rd, State.reg]
@[simp] theorem State.page_with_sent (x : List Emission) (p : Nat) : State.page { s with sent := x } p = s.page p := by
  simp only [State.page]

end Sys2Proof.Machine
end

