-- ==== Sys2Proof/Laws/Delivery.lean ====
section
/-! SUPPORT. What interrupt delivery does to the endpoints and to what was sent (R420). -/

namespace Sys2Proof.Machine

variable (s : State)

/-! Endpoints by number. -/

theorem State.ep_setEp_same (q : Nat) (e : Endpoint) : (s.setEp q e).ep q = e := by
  unfold State.ep State.setEp; split <;> rfl

theorem State.ep_setEp_other {q r : Nat} (e : Endpoint) (h : (r = 0) ≠ (q = 0)) : (s.setEp q e).ep r = s.ep r := by
  unfold State.ep State.setEp
  by_cases hq : q = 0 <;> by_cases hr : r = 0 <;> simp_all

@[simp] theorem State.ep_emit (e : Emission) (r : Nat) : (s.emit e).ep r = s.ep r := by
  unfold State.ep State.emit; rfl

/-- What delivery leaves of an endpoint: its configuration. -/
structure Endpoint.SameSetup (e f : Endpoint) : Prop where
  vecMap : f.vecMap = e.vecMap
  unmasked : f.unmasked = e.unmasked
  busMaster : f.busMaster = e.busMaster
  ready : f.ready = e.ready
  perst : f.perst = e.perst
  readyBy : f.readyBy = e.readyBy

theorem Endpoint.SameSetup.refl (e : Endpoint) : e.SameSetup e := ⟨rfl, rfl, rfl, rfl, rfl, rfl⟩

theorem Endpoint.SameSetup.trans {e f g : Endpoint} (h : e.SameSetup f) (k : f.SameSetup g) : e.SameSetup g :=
  ⟨k.1.trans h.1, k.2.trans h.2, k.3.trans h.3, k.4.trans h.4, k.5.trans h.5, k.6.trans h.6⟩

/-- Signalling a vector keeps each endpoint's configuration and every message sent before. -/
theorem State.signalVec_keeps (q v : Nat) :
    (∀ r, (s.ep r).SameSetup ((s.signalVec q v).ep r)) ∧ (s.signalVec q v).ep0.told = s.ep0.told ∧
      (s.signalVec q v).ep1.told = s.ep1.told ∧ ∃ l, (s.signalVec q v).sent = l ++ s.sent := by
  have key : ∀ e : Endpoint, (s.ep q).SameSetup e → e.told = (s.ep q).told →
      (∀ r, (s.ep r).SameSetup ((s.setEp q e).ep r)) ∧ (s.setEp q e).ep0.told = s.ep0.told ∧
      (s.setEp q e).ep1.told = s.ep1.told := by
    intro e he ht
    refine ⟨fun r => ?_, ?_, ?_⟩
    · by_cases h : (r = 0) = (q = 0)
      · have : (s.setEp q e).ep r = e := by
          unfold State.ep State.setEp; by_cases hq : q = 0 <;> simp_all
        have h2 : s.ep r = s.ep q := by unfold State.ep; by_cases hq : q = 0 <;> simp_all
        rw [this, h2]; exact he
      · rw [State.ep_setEp_other _ _ h]; exact .refl _
    all_goals
      unfold State.setEp; unfold State.ep at ht
      by_cases hq : q = 0 <;> simp_all
  unfold State.signalVec
  dsimp only
  split
  · have := key { s.ep q with pba := if (s.ep q).pba.contains v then (s.ep q).pba else v :: (s.ep q).pba } ⟨rfl, rfl, rfl, rfl, rfl, rfl⟩ rfl
    exact ⟨this.1, this.2.1, this.2.2, [], by simp⟩
  · repeat' split
    all_goals try simp only [State.ep_emit, State.emit_ep0, State.emit_ep1]
    all_goals refine ⟨(key _ ?_ ?_).1, (key _ ?_ ?_).2.1, (key _ ?_ ?_).2.2, ?_⟩
    all_goals try exact ⟨rfl, rfl, rfl, rfl, rfl, rfl⟩
    all_goals try rfl
    all_goals first
      | exact ⟨[], by rw [State.setEp_sent]; rfl⟩
      | exact ⟨[.msix q v], by simp [State.emit]⟩

theorem State.signalVecs_keeps (q : Nat) (l : List Nat) : ∀ s : State,
    let t := l.foldl (fun (u : State) (v : Nat) => u.signalVec q v) s
    (∀ r, (s.ep r).SameSetup (t.ep r)) ∧ t.ep0.told = s.ep0.told ∧ t.ep1.told = s.ep1.told ∧ ∃ x, t.sent = x ++ s.sent := by
  induction l with
  | nil => intro s; exact ⟨fun r => .refl _, rfl, rfl, [], rfl⟩
  | cons v l ih =>
    intro s
    obtain ⟨h1, h2, h3, x, hx⟩ := s.signalVec_keeps q v
    obtain ⟨k1, k2, k3, y, hy⟩ := ih (s.signalVec q v)
    exact ⟨fun r => (h1 r).trans (k1 r), k2.trans h2, k3.trans h3, y ++ x, by rw [List.foldl_cons, hy, hx, List.append_assoc]⟩

theorem State.signalNew_keeps (q : Nat) :
    (∀ r, (s.ep r).SameSetup ((s.signalNew q).ep r)) ∧ ∃ x, (s.signalNew q).sent = x ++ s.sent := by
  obtain ⟨h1, _, _, x, hx⟩ := State.signalVecs_keeps q (s.newVecs q) s
  unfold State.signalNew
  refine ⟨fun r => ?_, x, by rw [State.setEp_sent]; exact hx⟩
  by_cases h : (r = 0) = (q = 0)
  · refine (h1 r).trans ?_
    generalize (List.foldl _ s _) = t
    have : (t.setEp q { t.ep q with told := s.pendingVecs q }).ep r = { t.ep r with told := s.pendingVecs q } := by
      unfold State.ep State.setEp; by_cases hq : q = 0 <;> simp_all
    rw [this]; exact ⟨rfl, rfl, rfl, rfl, rfl, rfl⟩
  · rw [State.ep_setEp_other _ _ h]; exact h1 r

/-- Interrupt delivery keeps each endpoint's configuration and every message sent before. -/
theorem State.settle_keeps : (∀ r, (s.ep r).SameSetup (s.settle.ep r)) ∧ ∃ x, s.settle.sent = x ++ s.sent := by
  obtain ⟨h1, x, hx⟩ := s.signalNew_keeps 0
  obtain ⟨k1, y, hy⟩ := (s.signalNew 0).signalNew_keeps 1
  exact ⟨fun r => (h1 r).trans (k1 r), y ++ x, by unfold State.settle; rw [hy, hx, List.append_assoc]⟩

theorem finish_setup (b : State) (r : Nat) : (s.ep r).SameSetup ((finish b s).ep r) := by
  have : (finish b s).ep r = s.settle.ep r := by unfold State.ep; simp only [finish]
  rw [this]; exact s.settle_keeps.1 r

/-- A message that a meaning sent stays sent. -/
theorem mem_sent_finish {b : State} {s : State} {e : Emission} (h : e ∈ s.sent) : e ∈ (finish b s).sent := by
  obtain ⟨x, hx⟩ := s.settle_keeps.2
  simp only [finish]; rw [hx]; exact List.mem_append_right _ h

/-- The pending vectors depend on the registers, the page headers and the vector map only. -/
theorem State.pendingVecs_congr {s t : State} (q : Nat) (h1 : t.regs = s.regs) (h2 : t.dev = s.dev) (h3 : t.pages = s.pages)
    (h4 : (t.ep q).vecMap = (s.ep q).vecMap) : t.pendingVecs q = s.pendingVecs q := by
  have hp : t.pendingPages = s.pendingPages := by
    unfold State.pendingPages State.intPending State.rd State.reg; rw [h1, h2]
  have hq : ∀ d, t.pendingPagesOf d = s.pendingPagesOf d := by
    intro d; unfold State.pendingPagesOf State.page; rw [hp, h3]
  have hv : ∀ p, (t.ep q).vector p = (s.ep q).vector p := by intro p; unfold Endpoint.vector; rw [h4]
  unfold State.pendingVecs; rw [hq]; simp only [hv]

end Sys2Proof.Machine
end

