-- ==== Sys2Proof/Laws/Footprint.lean ====
section
/-! SUPPORT. Footprints: which registers a chain of operations may change, with the page headers and every byte space left alone.
Each operation has one lemma, so that the frame of a meaning follows its text from the outside in. -/

namespace Sys2Proof.Machine

/-- From `s` to `t` only registers that `P` names changed; no page header and no byte space did. -/
structure Quiet (P : Nat → Prop) (s t : State) : Prop where
  dev : t.dev = s.dev
  regs : ∀ a, ¬P a → t.reg a = s.reg a
  pages : t.pages = s.pages
  mem : t.mem = s.mem

variable {P : Nat → Prop} {s u : State}

theorem Quiet.refl (P : Nat → Prop) (s : State) : Quiet P s s := ⟨rfl, fun _ _ => rfl, rfl, rfl⟩

theorem Quiet.trans {t : State} (h : Quiet P s t) (k : Quiet P t u) : Quiet P s u :=
  ⟨k.dev.trans h.dev, fun a ha => (k.regs a ha).trans (h.regs a ha), k.pages.trans h.pages, k.mem.trans h.mem⟩

theorem Quiet.mono {Q : Nat → Prop} (h : Quiet P s u) (k : ∀ a, P a → Q a) : Quiet Q s u :=
  ⟨h.dev, fun a ha => h.regs a (fun hp => ha (k a hp)), h.pages, h.mem⟩

/-- A change outside the registers, the page headers and the byte spaces. -/
theorem Quiet.other {t : State} (h : Quiet P s u) (h1 : t.regs = u.regs := by rfl) (h2 : t.dev = u.dev := by rfl)
    (h3 : t.pages = u.pages := by rfl) (h4 : t.mem = u.mem := by rfl) : Quiet P s t :=
  ⟨h2.trans h.dev, fun a ha => by rw [← h.regs a ha]; unfold State.reg; rw [h1, h2], h3.trans h.pages, h4.trans h.mem⟩

theorem Quiet.setReg (h : Quiet P s u) (a : Nat) (v : W32) (ha : P a) : Quiet P s (u.setReg a v) :=
  ⟨by simpa using h.dev, fun b hb => by rw [State.reg_setReg_other _ _ (fun e => hb (by rw [e]; exact ha)), h.regs b hb],
    by simpa using h.pages, by simpa using h.mem⟩

theorem Quiet.wr (h : Quiet P s u) (a v : Nat) (ha : P a) : Quiet P s (u.wr a v) := h.setReg a _ ha

theorem Quiet.setFld (h : Quiet P s u) (a hi lo v : Nat) (ha : P a) : Quiet P s (u.setFld a hi lo v) := h.wr a _ ha

theorem Quiet.setBit (h : Quiet P s u) (a i : Nat) (b : Bool) (ha : P a) : Quiet P s (u.setBit a i b) := h.wr a _ ha

theorem Quiet.addCnt (h : Quiet P s u) (a n : Nat) (ha : P a) : Quiet P s (u.addCnt a n) := h.wr a _ ha

theorem Quiet.inc (h : Quiet P s u) (a : Nat) (ha : P a) : Quiet P s (u.inc a) := h.wr a _ ha

theorem Quiet.incFld (h : Quiet P s u) (a hi lo : Nat) (ha : P a) : Quiet P s (u.incFld a hi lo) := h.wr a _ ha

theorem Quiet.wr64 (h : Quiet P s u) (lo hi v : Nat) (h1 : P lo) (h2 : P hi) : Quiet P s (u.wr64 lo hi v) :=
  (h.wr lo _ h1).wr hi _ h2

theorem Quiet.setBit64 (h : Quiet P s u) (lo hi i : Nat) (b : Bool) (h1 : P lo) (h2 : P hi) :
    Quiet P s (u.setBit64 lo hi i b) := by
  unfold State.setBit64; split
  · exact h.setBit lo _ _ h1
  · exact h.setBit hi _ _ h2

theorem Quiet.raise (h : Quiet P s u) (p i : Nat) (ha : P (Reg.INT_RAW p)) : Quiet P s (u.raise p i) := h.wr _ _ ha

theorem Quiet.emit (h : Quiet P s u) (e : Emission) : Quiet P s (u.emit e) := h.other

theorem Quiet.setEp (h : Quiet P s u) (q : Nat) (e : Endpoint) : Quiet P s (u.setEp q e) :=
  h.other (by simp) (by simp) (by simp) (by simp)

theorem Quiet.signalVec (h : Quiet P s u) (q v : Nat) : Quiet P s (u.signalVec q v) :=
  h.other (by simp) (by simp) (by simp) (by simp)

/-! Updates of one field. -/

theorem Quiet.with_pending (h : Quiet P s u) (x : List Instr) : Quiet P s { u with pending := x } := h.other
theorem Quiet.with_clk (h : Quiet P s u) (x : Nat) : Quiet P s { u with clk := x } := h.other
theorem Quiet.with_fresh (h : Quiet P s u) (x : Nat) : Quiet P s { u with fresh := x } := h.other
theorem Quiet.with_pend (h : Quiet P s u) (x : List (Nat × W32)) : Quiet P s { u with pend := x } := h.other
theorem Quiet.with_force (h : Quiet P s u) (x : List (Nat × W32)) : Quiet P s { u with force := x } := h.other
theorem Quiet.with_ep0 (h : Quiet P s u) (x : Endpoint) : Quiet P s { u with ep0 := x } := h.other
theorem Quiet.with_ep1 (h : Quiet P s u) (x : Endpoint) : Quiet P s { u with ep1 := x } := h.other
theorem Quiet.with_dtm (h : Quiet P s u) (x : Datum) : Quiet P s { u with dtm := x } := h.other
theorem Quiet.with_ing (h : Quiet P s u) (x : Ingest) : Quiet P s { u with ing := x } := h.other
theorem Quiet.with_atl (h : Quiet P s u) (x : Atlas) : Quiet P s { u with atl := x } := h.other
theorem Quiet.with_lay (h : Quiet P s u) (x : Layers) : Quiet P s { u with lay := x } := h.other
theorem Quiet.with_grt (h : Quiet P s u) (x : Graticule) : Quiet P s { u with grt := x } := h.other
theorem Quiet.with_link (h : Quiet P s u) (x : TileLinks) : Quiet P s { u with link := x } := h.other
theorem Quiet.with_hk (h : Quiet P s u) (x : Housekeep) : Quiet P s { u with hk := x } := h.other
theorem Quiet.with_queues (h : Quiet P s u) (x : List (Nat × DualQueue)) : Quiet P s { u with queues := x } := h.other
theorem Quiet.with_gwy (h : Quiet P s u) (x : Gangway) : Quiet P s { u with gwy := x } := h.other
theorem Quiet.with_bmk (h : Quiet P s u) (x : Benchmark) : Quiet P s { u with bmk := x } := h.other
theorem Quiet.with_tel (h : Quiet P s u) (x : Telemetry) : Quiet P s { u with tel := x } := h.other
theorem Quiet.with_cart (h : Quiet P s u) (x : Cartouche) : Quiet P s { u with cart := x } := h.other
theorem Quiet.with_log (h : Quiet P s u) (x : Logbook) : Quiet P s { u with log := x } := h.other
theorem Quiet.with_wear (h : Quiet P s u) (x : Wear) : Quiet P s { u with wear := x } := h.other
theorem Quiet.with_moor (h : Quiet P s u) (x : Mooring) : Quiet P s { u with moor := x } := h.other
theorem Quiet.with_ram (h : Quiet P s u) (x : MemSys) : Quiet P s { u with ram := x } := h.other
theorem Quiet.with_seq (h : Quiet P s u) (x : Sequencer) : Quiet P s { u with seq := x } := h.other
theorem Quiet.with_sent (h : Quiet P s u) (x : List Emission) : Quiet P s { u with sent := x } := h.other

theorem Quiet.ite {c : Prop} [Decidable c] {t : State} (h : c → Quiet P s t) (k : ¬c → Quiet P s u) :
    Quiet P s (if c then t else u) := by
  split
  · exact h ‹_›
  · exact k ‹_›

/-- The end of a meaning keeps a footprint. -/
theorem Quiet.finish (h : Quiet P s u) (b : State) : Quiet P s (Sys2Proof.Machine.finish b u) :=
  h.other (by simp) (by simp) (by simp) (by simp)

/-- A footprint as claims state it. -/
theorem Quiet.onlyRegs (h : Quiet P s u) : s.onlyRegs u P :=
  ⟨h.regs, fun q => by unfold State.page; rw [h.pages]⟩

theorem Quiet.sameMemory (h : Quiet P s u) : s.sameMemory u := h.mem

/-- A repeated operation keeps a footprint that each round keeps. -/
theorem Quiet.foldl {α : Type} (f : State → α → State) (l : List α) (hf : ∀ (t : State) (x : α), x ∈ l → Quiet P s t → Quiet P s (f t x))
    (h : Quiet P s u) : Quiet P s (l.foldl f u) := by
  induction l generalizing u with
  | nil => exact h
  | cons x l ih => exact ih (fun t y hy => hf t y (by simp [hy])) (hf u x (by simp) h)

end Sys2Proof.Machine
end

