-- ==== Sys2Proof/Laws/Datum.lean ====
section
/-! SUPPORT. The Datum: what entering a state, holdover and a newly selected master leave of its fields and registers. -/

namespace Sys2Proof.Machine

theorem State.enterHoldover_fields (s : State) : s.enterHoldover.dtm.foreign = s.dtm.foreign ∧ s.enterHoldover.dtm.master = s.dtm.master := by
  unfold State.enterHoldover State.clearJump State.withdrawApproval State.dtmEnter Datum.closeHist
  constructor <;> (dsimp only; repeat' split) <;> simp

theorem State.dtmEnter_dtm (s : State) (n : Nat) : (s.dtmEnter n).dtm = s.dtm := by
  unfold State.dtmEnter; dsimp only; repeat' split
  all_goals simp

theorem State.dtmEnter_state (s : State) (n : Nat) (h : n < 8) : (s.dtmEnter n).dtmState = n := by
  unfold State.dtmEnter
  split
  · assumption
  · dsimp only; unfold State.dtmState
    repeat' split
    all_goals (try rw [State.fld_raise_other _ _ _ _ _ (by decide)]); rw [State.fld_setFld_same _ _ _ _ _ (by decide) (by decide)]; omega

theorem State.enterHoldover_state (s : State) (h : s.dtmState ≠ 0) : s.enterHoldover.dtmState = 3 := by
  unfold State.enterHoldover
  split
  · omega
  · exact State.dtmEnter_state _ _ (by decide)

theorem State.dtmState_setBit (s : State) (i : Nat) (b : Bool) (h : 2 < i) (h2 : i < 32) : (s.setBit Reg.DTM_STATUS i b).dtmState = s.dtmState := by
  unfold State.dtmState; exact s.fld_setBit_disjoint _ _ _ _ _ h2 (by decide) (.inl h)

theorem State.takeUtc_state (s : State) (a : PtpAnnounce) : (s.takeUtc a).dtmState = s.dtmState := by
  unfold State.takeUtc
  have : (((s.setBit Reg.DTM_STATUS 4 a.utcValid).setBit Reg.DTM_STATUS 7 a.leap61).setBit Reg.DTM_STATUS 8 a.leap59).dtmState = s.dtmState := by
    rw [State.dtmState_setBit _ _ _ (by decide) (by decide), State.dtmState_setBit _ _ _ (by decide) (by decide), State.dtmState_setBit _ _ _ (by decide) (by decide)]
  have h2 : ∀ (u : State) v, (u.setFld Reg.DTM_UTC_OFFSET 15 0 v).dtmState = u.dtmState := by
    intro u v; unfold State.dtmState; exact State.fld_setFld_other _ _ _ _ _ _ (by decide)
  dsimp only
  repeat' split
  all_goals simp only [State.dtmState, State.fld_with_dtm] at *
  all_goals first | exact this | (rw [h2]; exact this)

theorem State.selectMaster_state (s : State) (f : ForeignMaster) (h : s.dtmState = 3) : (s.selectMaster f).dtmState = 3 := by
  unfold State.selectMaster
  rw [State.takeUtc_state, State.dtmState_setBit _ _ _ (by decide) (by decide)]
  have hw : ∀ (u : State) v, (u.wr64 Reg.DTM_GM_ID_LO Reg.DTM_GM_ID_HI v).dtmState = u.dtmState := by
    intro u v; unfold State.dtmState State.wr64; rw [State.fld_wr_other _ _ _ _ (by decide), State.fld_wr_other _ _ _ _ (by decide)]
  rw [hw]
  have hh : s.enterHoldover.dtmState = 3 := State.enterHoldover_state s (by omega)
  split
  · unfold State.dtmState at *; rw [State.fld_with_dtm]; split <;> assumption
  · split <;> assumption

theorem State.takeUtc_dtm (s : State) (a : PtpAnnounce) : (s.takeUtc a).dtm.foreign = s.dtm.foreign ∧ (s.takeUtc a).dtm.master = s.dtm.master := by
  unfold State.takeUtc; constructor <;> (dsimp only; repeat' split) <;> simp

theorem State.selectMaster_dtm (s : State) (f : ForeignMaster) : (s.selectMaster f).dtm.foreign = s.dtm.foreign ∧ (s.selectMaster f).dtm.master = some f.src := by
  unfold State.selectMaster
  have h := State.enterHoldover_fields s
  rw [(State.takeUtc_dtm _ _).1, (State.takeUtc_dtm _ _).2]
  simp only [State.setBit_dtm, State.wr64_dtm]
  constructor
  · repeat' split
    all_goals simp_all
  · by_cases hm : s.dtm.master = some f.src
    · split
      · rfl
      · split <;> simp_all
    · simp [hm]

theorem bestMaster_mem (clk : Nat) (l : List ForeignMaster) (b) (h : bestMaster clk l = some b) : b ∈ l := by
  unfold bestMaster at h
  have : ∀ (l : List ForeignMaster) (o : Option ForeignMaster) , l.foldl (fun b f => match b with
      | none => some f
      | some g => if annBetter f.ann g.ann then some f else some g) o = some b → b ∈ l ∨ o = some b := by
    intro l
    induction l with
    | nil => intro o h; exact .inr h
    | cons x l ih =>
      intro o h; rw [List.foldl_cons] at h
      rcases ih _ h with h | h
      · exact .inl (by simp [h])
      · cases o with
        | none => simp at h; left; simp [h]
        | some g => simp only at h; split at h <;> simp at h <;> simp [h]
  rcases this _ _ h with h | h
  · exact (List.mem_filter.mp h).1
  · simp at h

/-- The registers of the DTM page. -/
abbrev DtmOnly : Nat → Prop := fun a => a / 0x1000 = Page.DTM

variable {s u : State}

theorem Quiet.dtmEnter (h : Quiet DtmOnly s u) (n : Nat) : Quiet DtmOnly s (u.dtmEnter n) := by
  unfold State.dtmEnter
  have k : Quiet DtmOnly s (u.setFld Reg.DTM_STATUS 2 0 n) := h.setFld _ _ _ _ (by decide)
  refine Quiet.ite (fun _ => h) (fun _ => ?_)
  exact Quiet.ite (fun _ => k.raise _ _ (by decide)) (fun _ => Quiet.ite (fun _ => k.raise _ _ (by decide)) (fun _ =>
    Quiet.ite (fun _ => k.raise _ _ (by decide)) (fun _ => k)))

theorem Quiet.clearJump (h : Quiet DtmOnly s u) : Quiet DtmOnly s u.clearJump := by
  unfold State.clearJump State.withdrawApproval
  refine Quiet.wr64 ?_ _ _ _ (by decide) (by decide)
  split
  · exact h
  · exact Quiet.setBit (Quiet.with_dtm h _) _ _ _ (by decide)

theorem Quiet.enterFree (h : Quiet DtmOnly s u) : Quiet DtmOnly s u.enterFree := by
  unfold State.enterFree
  dsimp only
  refine Quiet.setBit (Quiet.setBit (Quiet.dtmEnter ?_ _) _ _ _ (by decide)) _ _ _ (by decide)
  apply Quiet.with_dtm
  exact h.clearJump

theorem Quiet.enterHoldover (h : Quiet DtmOnly s u) : Quiet DtmOnly s u.enterHoldover := by
  unfold State.enterHoldover
  split
  · exact h
  · dsimp only
    apply Quiet.dtmEnter
    apply Quiet.with_dtm
    split
    · exact h.clearJump
    · exact h

end Sys2Proof.Machine
end

