-- ==== Sys2Proof/Laws/Gangway.lean ====
section
/-! SUPPORT. What the end of a Gangway transfer changes (R417, R418). -/

namespace Sys2Proof.Machine

variable (s : State)

theorem State.reg_wr64_other {lo hi a : Nat} (v : Nat) (h1 : a ≠ lo) (h2 : a ≠ hi) : (s.wr64 lo hi v).reg a = s.reg a := by
  unfold State.wr64; rw [State.reg_wr_other _ _ h2, State.reg_wr_other _ _ h1]

theorem State.gwyError_form (n code x : Nat) (r : Bool) : ∃ y, s.gwyError n code x r = { s with regs := y } := by
  unfold State.gwyError State.gwyAddrEnd
  dsimp only
  repeat' split
  all_goals exact ⟨_, rfl⟩

/-- The end of a transfer changes registers of its channel's page only. -/
theorem State.reg_gwyError_other (n code x : Nat) (r : Bool) {a : Nat} (h : a / 0x1000 ≠ Page.GWY n) :
    (s.gwyError n code x r).reg a = s.reg a := by
  have e : ∀ off, off < 0x1000 → a ≠ 0x1000 * Page.GWY n + off := by intro off ho hc; apply h; omega
  have h1 : a ≠ Reg.GWY_ADDR_LO n := by have := e 0x48; unfold Reg.GWY_ADDR_LO Page.GWY at *; omega
  have h2 : a ≠ Reg.GWY_ADDR_HI n := by have := e 0x4c; unfold Reg.GWY_ADDR_HI Page.GWY at *; omega
  have h3 : a ≠ Reg.GWY_STATUS n := by have := e 0x58; unfold Reg.GWY_STATUS Page.GWY at *; omega
  have h4 : a ≠ Reg.GWY_ERR_ADDR_LO n := by have := e 0x68; unfold Reg.GWY_ERR_ADDR_LO Page.GWY at *; omega
  have h5 : a ≠ Reg.GWY_ERR_ADDR_HI n := by have := e 0x6c; unfold Reg.GWY_ERR_ADDR_HI Page.GWY at *; omega
  have h6 : a ≠ Reg.INT_RAW (Page.GWY n) := by have := e 0x10; unfold Reg.INT_RAW Page.GWY at *; omega
  unfold State.gwyError State.gwyAddrEnd
  dsimp only
  repeat' split
  all_goals
    simp only [State.reg_raise_other _ _ _ h6, State.reg_wr64_other _ _ h4 h5, State.reg_wr64_other _ _ h1 h2,
      State.reg_wr_other _ _ h3]

theorem State.gwyRecheckOne_cases (n : Nat) : s.gwyRecheckOne n = s ∨ ∃ x, s.gwyRecheckOne n = s.gwyError n 2 x := by
  unfold State.gwyRecheckOne
  dsimp only
  generalize (if (s.gwyChan n).len - s.rd (Reg.GWY_MOVED n) = 0 then 0 else _) = span
  split
  · exact .inr ⟨_, rfl⟩
  · exact .inl rfl

/-- Rechecking the transfers changes registers of the Gangway pages only. -/
theorem State.gwyRecheck_form : ∃ y, s.gwyRecheck = { s with regs := y } ∧
    ∀ a, (∀ n, n < 4 → a / 0x1000 ≠ Page.GWY n) → s.gwyRecheck.reg a = s.reg a := by
  unfold State.gwyRecheck
  have key : ∀ (l : List Nat), (∀ n ∈ l, n < 4) → ∀ s : State, ∃ y,
      l.foldl (fun (t : State) (n : Nat) => t.gwyRecheckOne n) s = { s with regs := y } ∧
      ∀ a, (∀ n, n < 4 → a / 0x1000 ≠ Page.GWY n) → aget (regReset s.dev a) a y = s.reg a := by
    intro l
    induction l with
    | nil => intro _ s; exact ⟨s.regs, rfl, fun _ _ => rfl⟩
    | cons n l ih =>
      intro hl s
      rw [List.foldl_cons]
      have hn := hl n (by simp)
      have hl' : ∀ m ∈ l, m < 4 := fun m hm => hl m (by simp [hm])
      rcases s.gwyRecheckOne_cases n with h0 | ⟨x, h0⟩
      · rw [h0]; exact ih hl' s
      · rw [h0]
        obtain ⟨y, hy, h⟩ := ih hl' (s.gwyError n 2 x)
        obtain ⟨z, hz⟩ := s.gwyError_form n 2 x true
        refine ⟨y, by rw [hy, hz], fun a ha => ?_⟩
        have := h a ha
        rw [s.reg_gwyError_other n 2 x true (ha n hn)] at this
        rw [← this, hz]
  obtain ⟨y, hy, h⟩ := key (List.range 4) (by simp) s
  exact ⟨y, hy, fun a ha => by rw [hy]; exact h a ha⟩

end Sys2Proof.Machine
end

