-- ==== Sys2Proof/Laws/HostWrites.lean ====
section
/-! SUPPORT. How a write of a page's owner reaches its register (R410, R422, R434, R462, R463). -/

namespace Sys2Proof.Machine

variable {s : State} {d : Dom}

/-- Counting a frame-scoped write changes one counter of the Mooring. -/
theorem State.countScoped_form (s : State) (a v : Nat) : ∃ n, s.countScoped a v = { s with moor := { s.moor with writes := n } } := by
  unfold State.countScoped; split
  · exact ⟨_, rfl⟩
  · exact ⟨s.moor.writes, rfl⟩

/-! What counting leaves alone. -/

@[simp] theorem State.countScoped_pending (s : State) (a v : Nat) : (s.countScoped a v).pending = s.pending := by
  obtain ⟨n, h⟩ := s.countScoped_form a v; rw [h]
@[simp] theorem State.countScoped_clk (s : State) (a v : Nat) : (s.countScoped a v).clk = s.clk := by
  obtain ⟨n, h⟩ := s.countScoped_form a v; rw [h]
@[simp] theorem State.countScoped_fresh (s : State) (a v : Nat) : (s.countScoped a v).fresh = s.fresh := by
  obtain ⟨n, h⟩ := s.countScoped_form a v; rw [h]
@[simp] theorem State.countScoped_dev (s : State) (a v : Nat) : (s.countScoped a v).dev = s.dev := by
  obtain ⟨n, h⟩ := s.countScoped_form a v; rw [h]
@[simp] theorem State.countScoped_regs (s : State) (a v : Nat) : (s.countScoped a v).regs = s.regs := by
  obtain ⟨n, h⟩ := s.countScoped_form a v; rw [h]
@[simp] theorem State.countScoped_pend (s : State) (a v : Nat) : (s.countScoped a v).pend = s.pend := by
  obtain ⟨n, h⟩ := s.countScoped_form a v; rw [h]
@[simp] theorem State.countScoped_force (s : State) (a v : Nat) : (s.countScoped a v).force = s.force := by
  obtain ⟨n, h⟩ := s.countScoped_form a v; rw [h]
@[simp] theorem State.countScoped_pages (s : State) (a v : Nat) : (s.countScoped a v).pages = s.pages := by
  obtain ⟨n, h⟩ := s.countScoped_form a v; rw [h]
@[simp] theorem State.countScoped_ep0 (s : State) (a v : Nat) : (s.countScoped a v).ep0 = s.ep0 := by
  obtain ⟨n, h⟩ := s.countScoped_form a v; rw [h]
@[simp] theorem State.countScoped_ep1 (s : State) (a v : Nat) : (s.countScoped a v).ep1 = s.ep1 := by
  obtain ⟨n, h⟩ := s.countScoped_form a v; rw [h]
@[simp] theorem State.countScoped_dtm (s : State) (a v : Nat) : (s.countScoped a v).dtm = s.dtm := by
  obtain ⟨n, h⟩ := s.countScoped_form a v; rw [h]
@[simp] theorem State.countScoped_ing (s : State) (a v : Nat) : (s.countScoped a v).ing = s.ing := by
  obtain ⟨n, h⟩ := s.countScoped_form a v; rw [h]
@[simp] theorem State.countScoped_atl (s : State) (a v : Nat) : (s.countScoped a v).atl = s.atl := by
  obtain ⟨n, h⟩ := s.countScoped_form a v; rw [h]
@[simp] theorem State.countScoped_lay (s : State) (a v : Nat) : (s.countScoped a v).lay = s.lay := by
  obtain ⟨n, h⟩ := s.countScoped_form a v; rw [h]
@[simp] theorem State.countScoped_grt (s : State) (a v : Nat) : (s.countScoped a v).grt = s.grt := by
  obtain ⟨n, h⟩ := s.countScoped_form a v; rw [h]
@[simp] theorem State.countScoped_link (s : State) (a v : Nat) : (s.countScoped a v).link = s.link := by
  obtain ⟨n, h⟩ := s.countScoped_form a v; rw [h]
@[simp] theorem State.countScoped_hk (s : State) (a v : Nat) : (s.countScoped a v).hk = s.hk := by
  obtain ⟨n, h⟩ := s.countScoped_form a v; rw [h]
@[simp] theorem State.countScoped_queues (s : State) (a v : Nat) : (s.countScoped a v).queues = s.queues := by
  obtain ⟨n, h⟩ := s.countScoped_form a v; rw [h]
@[simp] theorem State.countScoped_gwy (s : State) (a v : Nat) : (s.countScoped a v).gwy = s.gwy := by
  obtain ⟨n, h⟩ := s.countScoped_form a v; rw [h]
@[simp] theorem State.countScoped_bmk (s : State) (a v : Nat) : (s.countScoped a v).bmk = s.bmk := by
  obtain ⟨n, h⟩ := s.countScoped_form a v; rw [h]
@[simp] theorem State.countScoped_tel (s : State) (a v : Nat) : (s.countScoped a v).tel = s.tel := by
  obtain ⟨n, h⟩ := s.countScoped_form a v; rw [h]
@[simp] theorem State.countScoped_cart (s : State) (a v : Nat) : (s.countScoped a v).cart = s.cart := by
  obtain ⟨n, h⟩ := s.countScoped_form a v; rw [h]
@[simp] theorem State.countScoped_log (s : State) (a v : Nat) : (s.countScoped a v).log = s.log := by
  obtain ⟨n, h⟩ := s.countScoped_form a v; rw [h]
@[simp] theorem State.countScoped_wear (s : State) (a v : Nat) : (s.countScoped a v).wear = s.wear := by
  obtain ⟨n, h⟩ := s.countScoped_form a v; rw [h]
@[simp] theorem State.countScoped_ram (s : State) (a v : Nat) : (s.countScoped a v).ram = s.ram := by
  obtain ⟨n, h⟩ := s.countScoped_form a v; rw [h]
@[simp] theorem State.countScoped_mem (s : State) (a v : Nat) : (s.countScoped a v).mem = s.mem := by
  obtain ⟨n, h⟩ := s.countScoped_form a v; rw [h]
@[simp] theorem State.countScoped_seq (s : State) (a v : Nat) : (s.countScoped a v).seq = s.seq := by
  obtain ⟨n, h⟩ := s.countScoped_form a v; rw [h]
@[simp] theorem State.countScoped_sent (s : State) (a v : Nat) : (s.countScoped a v).sent = s.sent := by
  obtain ⟨n, h⟩ := s.countScoped_form a v; rw [h]
@[simp] theorem State.countScoped_moor_a (s : State) (a v : Nat) : (s.countScoped a v).moor.a = s.moor.a := by
  obtain ⟨n, h⟩ := s.countScoped_form a v; rw [h]
@[simp] theorem State.countScoped_moor_b (s : State) (a v : Nat) : (s.countScoped a v).moor.b = s.moor.b := by
  obtain ⟨n, h⟩ := s.countScoped_form a v; rw [h]
@[simp] theorem State.countScoped_moor_pwrgoodAt (s : State) (a v : Nat) : (s.countScoped a v).moor.pwrgoodAt = s.moor.pwrgoodAt := by
  obtain ⟨n, h⟩ := s.countScoped_form a v; rw [h]
@[simp] theorem State.countScoped_moor_resetLow (s : State) (a v : Nat) : (s.countScoped a v).moor.resetLow = s.moor.resetLow := by
  obtain ⟨n, h⟩ := s.countScoped_form a v; rw [h]
@[simp] theorem State.countScoped_moor_t0 (s : State) (a v : Nat) : (s.countScoped a v).moor.t0 = s.moor.t0 := by
  obtain ⟨n, h⟩ := s.countScoped_form a v; rw [h]
@[simp] theorem State.countScoped_moor_claimA (s : State) (a v : Nat) : (s.countScoped a v).moor.claimA = s.moor.claimA := by
  obtain ⟨n, h⟩ := s.countScoped_form a v; rw [h]
@[simp] theorem State.countScoped_moor_claimB (s : State) (a v : Nat) : (s.countScoped a v).moor.claimB = s.moor.claimB := by
  obtain ⟨n, h⟩ := s.countScoped_form a v; rw [h]
@[simp] theorem State.countScoped_moor_powerFree (s : State) (a v : Nat) : (s.countScoped a v).moor.powerFree = s.moor.powerFree := by
  obtain ⟨n, h⟩ := s.countScoped_form a v; rw [h]
@[simp] theorem State.countScoped_moor_window (s : State) (a v : Nat) : (s.countScoped a v).moor.window = s.moor.window := by
  obtain ⟨n, h⟩ := s.countScoped_form a v; rw [h]
@[simp] theorem State.countScoped_moor_heldClaim (s : State) (a v : Nat) : (s.countScoped a v).moor.heldClaim = s.moor.heldClaim := by
  obtain ⟨n, h⟩ := s.countScoped_form a v; rw [h]
@[simp] theorem State.countScoped_moor_lastHolder (s : State) (a v : Nat) : (s.countScoped a v).moor.lastHolder = s.moor.lastHolder := by
  obtain ⟨n, h⟩ := s.countScoped_form a v; rw [h]
@[simp] theorem State.countScoped_moor_lastFenced (s : State) (a v : Nat) : (s.countScoped a v).moor.lastFenced = s.moor.lastFenced := by
  obtain ⟨n, h⟩ := s.countScoped_form a v; rw [h]
@[simp] theorem State.countScoped_moor_sending (s : State) (a v : Nat) : (s.countScoped a v).moor.sending = s.moor.sending := by
  obtain ⟨n, h⟩ := s.countScoped_form a v; rw [h]
@[simp] theorem State.countScoped_moor_swapAtGate (s : State) (a v : Nat) : (s.countScoped a v).moor.swapAtGate = s.moor.swapAtGate := by
  obtain ⟨n, h⟩ := s.countScoped_form a v; rw [h]
@[simp] theorem State.countScoped_moor_swapWant (s : State) (a v : Nat) : (s.countScoped a v).moor.swapWant = s.moor.swapWant := by
  obtain ⟨n, h⟩ := s.countScoped_form a v; rw [h]
@[simp] theorem State.countScoped_moor_drill (s : State) (a v : Nat) : (s.countScoped a v).moor.drill = s.moor.drill := by
  obtain ⟨n, h⟩ := s.countScoped_form a v; rw [h]
@[simp] theorem State.countScoped_moor_watchEnd (s : State) (a v : Nat) : (s.countScoped a v).moor.watchEnd = s.moor.watchEnd := by
  obtain ⟨n, h⟩ := s.countScoped_form a v; rw [h]
@[simp] theorem State.countScoped_moor_ageFrom (s : State) (a v : Nat) : (s.countScoped a v).moor.ageFrom = s.moor.ageFrom := by
  obtain ⟨n, h⟩ := s.countScoped_form a v; rw [h]
@[simp] theorem State.countScoped_moor_revertFrom (s : State) (a v : Nat) : (s.countScoped a v).moor.revertFrom = s.moor.revertFrom := by
  obtain ⟨n, h⟩ := s.countScoped_form a v; rw [h]
@[simp] theorem State.countScoped_moor_reverts (s : State) (a v : Nat) : (s.countScoped a v).moor.reverts = s.moor.reverts := by
  obtain ⟨n, h⟩ := s.countScoped_form a v; rw [h]
@[simp] theorem State.countScoped_moor_afterSwap (s : State) (a v : Nat) : (s.countScoped a v).moor.afterSwap = s.moor.afterSwap := by
  obtain ⟨n, h⟩ := s.countScoped_form a v; rw [h]
@[simp] theorem State.countScoped_moor_hold (s : State) (a v : Nat) : (s.countScoped a v).moor.hold = s.moor.hold := by
  obtain ⟨n, h⟩ := s.countScoped_form a v; rw [h]
@[simp] theorem State.countScoped_moor_holdOver (s : State) (a v : Nat) : (s.countScoped a v).moor.holdOver = s.moor.holdOver := by
  obtain ⟨n, h⟩ := s.countScoped_form a v; rw [h]
@[simp] theorem State.countScoped_moor_held (s : State) (a v : Nat) : (s.countScoped a v).moor.held = s.moor.held := by
  obtain ⟨n, h⟩ := s.countScoped_form a v; rw [h]
@[simp] theorem State.countScoped_moor_bringUp (s : State) (a v : Nat) : (s.countScoped a v).moor.bringUp = s.moor.bringUp := by
  obtain ⟨n, h⟩ := s.countScoped_form a v; rw [h]
@[simp] theorem State.countScoped_moor_grtDone (s : State) (a v : Nat) : (s.countScoped a v).moor.grtDone = s.moor.grtDone := by
  obtain ⟨n, h⟩ := s.countScoped_form a v; rw [h]
@[simp] theorem State.countScoped_moor_discDone (s : State) (a v : Nat) : (s.countScoped a v).moor.discDone = s.moor.discDone := by
  obtain ⟨n, h⟩ := s.countScoped_form a v; rw [h]
@[simp] theorem State.countScoped_moor_memDone (s : State) (a v : Nat) : (s.countScoped a v).moor.memDone = s.moor.memDone := by
  obtain ⟨n, h⟩ := s.countScoped_form a v; rw [h]
@[simp] theorem State.countScoped_moor_logDone (s : State) (a v : Nat) : (s.countScoped a v).moor.logDone = s.moor.logDone := by
  obtain ⟨n, h⟩ := s.countScoped_form a v; rw [h]
@[simp] theorem State.countScoped_moor_wearDone (s : State) (a v : Nat) : (s.countScoped a v).moor.wearDone = s.moor.wearDone := by
  obtain ⟨n, h⟩ := s.countScoped_form a v; rw [h]
@[simp] theorem State.countScoped_moor_verify (s : State) (a v : Nat) : (s.countScoped a v).moor.verify = s.moor.verify := by
  obtain ⟨n, h⟩ := s.countScoped_form a v; rw [h]
@[simp] theorem State.countScoped_moor_fuse (s : State) (a v : Nat) : (s.countScoped a v).moor.fuse = s.moor.fuse := by
  obtain ⟨n, h⟩ := s.countScoped_form a v; rw [h]
@[simp] theorem State.reg_countScoped (s : State) (a v : Nat) (x : Nat) : (s.countScoped a v).reg x = s.reg x := by
  simp only [State.reg, State.countScoped_regs, State.countScoped_dev]
@[simp] theorem State.rd_countScoped (s : State) (a v : Nat) (x : Nat) : (s.countScoped a v).rd x = s.rd x := by
  simp only [State.rd, State.reg, State.countScoped_regs, State.countScoped_dev]
@[simp] theorem State.fld_countScoped (s : State) (a v : Nat) (x hi lo : Nat) : (s.countScoped a v).fld x hi lo = s.fld x hi lo := by
  simp only [State.fld, State.rd, State.reg, State.countScoped_regs, State.countScoped_dev]
@[simp] theorem State.bitAt_countScoped (s : State) (a v : Nat) (x i : Nat) : (s.countScoped a v).bitAt x i = s.bitAt x i := by
  simp only [State.bitAt, State.rd, State.reg, State.countScoped_regs, State.countScoped_dev]
@[simp] theorem State.page_countScoped (s : State) (a v p : Nat) : (s.countScoped a v).page p = s.page p := by
  simp only [State.page, State.countScoped_pages]

/-- A request that no hold catches is performed by a Landing. -/
theorem State.submit_open (h1 : s.moor.hold = false) (r : HostReq) :
    s.submit r = s.perform r true := by
  have hh : s.holds r = false := by unfold State.holds; simp [h1]
  unfold State.submit; simp [hh, h1]

/-- A whole-word write that `writable` allows passes every check before its place in the page is looked at (R422). -/
theorem State.submit_writable {a : Nat} (h : s.writable d (a / 0x1000)) (v : W32) (h4 : a % 4 = 0) :
    s.submit (.write { dom := d, addr := a, value := v, be := 15 }) =
      s.ownedWrite { dom := d, addr := a, value := v, be := 15 } := by
  obtain ⟨hp, hb, hd, hr, hh⟩ := h
  rw [State.submit_open hh]
  simp only [State.perform, State.regWrite, h4, hp]
  cases hf : s.basicFor d with
  | true => simp [hb hf]
  | false => simp [hd hf]

/-- A header write by the owner takes effect (R422, R425). -/
theorem State.submit_header {page off : Nat} (h : s.writable d page) (v : W32) (ho : off < 0x40) (h4 : off % 4 = 0) :
    s.submit (.write { dom := d, addr := 0x1000 * page + off, value := v, be := 15 }) =
      ((s.countScoped (0x1000 * page + off) v.toNat).headerWrite d (0x1000 * page + off) v.toNat) := by
  have e1 : (0x1000 * page + off) / 0x1000 = page := by omega
  have e2 : (0x1000 * page + off) % 0x1000 = off := by omega
  have e3 : (0x1000 * page + off) % 4 = 0 := by omega
  rw [State.submit_writable (by rw [e1]; exact h) v e3]
  have hr := h.2.2.2.1
  simp only [State.ownedWrite, e1, e2]
  rcases hr with hr | hr <;> simp [ho, hr]

/-- A window write by the owner reaches its register (R422, R434). -/
theorem State.submit_window {a : Nat} (h : s.writable d (a / 0x1000)) (ho : s.open a) (v : W32)
    (hoff : 0x40 ≤ a % 0x1000) (h4 : a % 4 = 0) (hrow : (rowAt a).isSome = true) :
    s.submit (.write { dom := d, addr := a, value := v, be := 15 }) =
      ((s.countScoped a v.toNat).windowWrite d a v.toNat) := by
  have hl : ¬(0x400 ≤ a % 0x1000 ∧ (s.page (a / 0x1000)).unlocked = false) := by
    rcases ho with ho | ho
    · omega
    · simp [ho]
  have hns : (rowAt a).isNone = false := by
    cases hr : rowAt a with
    | none => simp [hr] at hrow
    | some r => rfl
  rw [State.submit_writable h v h4]
  have hr := h.2.2.2.1
  simp only [State.ownedWrite, hns]
  simp only [Nat.not_lt.mpr hoff]
  rcases hr with hr | hr <;>
  · simp [hr]
    intro h1 h2; exact absurd ⟨h1, h2⟩ hl

/-- An admitted value reaches a writable register without its reserved bits (R13, R462). -/
theorem State.windowWrite_admitted {a : Nat} {v : W32} {r : RegRow} (s : State) (d : Dom) (hr : rowAt a = some r)
    (hacc : r.access = .rw ∨ r.access = .rwl) (ha : admits a v) :
    s.windowWrite d a v.toNat = s.applyWrite d a (kept a v) := by
  unfold admits at ha; rw [hr] at ha
  unfold State.windowWrite kept; rw [hr]
  rcases hacc with h | h <;> simp only [h, ha, if_true]

/-- A write of a WO or W1C register reaches it without its reserved bits (R12, R13). -/
theorem State.windowWrite_strobe {a : Nat} {v : W32} {r : RegRow} (s : State) (d : Dom) (hr : rowAt a = some r)
    (hacc : r.access = .wo ∨ r.access = .w1c ∨ r.access = .w1s) :
    s.windowWrite d a v.toNat = s.applyWrite d a (kept a v) := by
  unfold State.windowWrite kept; rw [hr]
  rcases hacc with h | h | h <;> simp only [h]

/-- A register write of the owner answers what its register's rule makes of it, once no request waits behind it. -/
theorem answers_header {page off : Nat} {v : W32} {P : State → Prop} {c : Instr} (h : s.writable d page)
    (ho : off < 0x40) (h4 : off % 4 = 0) (hc : exec c s = writeReq s d (0x1000 * page + off) v) {t : State}
    (ht : (s.countScoped (0x1000 * page + off) v.toNat).headerWrite d (0x1000 * page + off) v.toNat = t)
    (hP : P (finish s t)) : Answers c s P := by
  refine ⟨_, hc, ?_⟩
  rw [State.submit_header h v ho h4, ht]
  exact hP

theorem answers_window {a : Nat} {v : W32} {P : State → Prop} {c : Instr} (h : s.writable d (a / 0x1000)) (ho : s.open a)
    (hoff : 0x40 ≤ a % 0x1000) (h4 : a % 4 = 0) {r : RegRow} (hr : rowAt a = some r)
    (hc : exec c s = writeReq s d a v) {t : State} (ht : (s.countScoped a v.toNat).windowWrite d a v.toNat = t)
    (hP : P (finish s t)) : Answers c s P := by
  refine ⟨_, hc, ?_⟩
  rw [State.submit_window h ho v hoff h4 (by rw [hr]; rfl), ht]
  exact hP

/-- A write of an RW or RWL register with every field in range. -/
theorem answers_rw {a : Nat} {v : W32} {P : State → Prop} {c : Instr} (h : s.writable d (a / 0x1000)) (ho : s.open a)
    (hoff : 0x40 ≤ a % 0x1000) (h4 : a % 4 = 0) {r : RegRow} (hr : rowAt a = some r) (hacc : r.access = .rw ∨ r.access = .rwl)
    (ha : admits a v) (hc : exec c s = writeReq s d a v) {t : State}
    (ht : (s.countScoped a v.toNat).applyWrite d a (kept a v) = t)
    (hP : P (finish s t)) : Answers c s P :=
  answers_window h ho hoff h4 hr hc (t := t) (by rw [State.windowWrite_admitted _ d hr hacc ha, ht]) hP

/-- A write of a WO or W1C register. -/
theorem answers_strobe {a : Nat} {v : W32} {P : State → Prop} {c : Instr} (h : s.writable d (a / 0x1000)) (ho : s.open a)
    (hoff : 0x40 ≤ a % 0x1000) (h4 : a % 4 = 0) {r : RegRow} (hr : rowAt a = some r)
    (hacc : r.access = .wo ∨ r.access = .w1c ∨ r.access = .w1s)
    (hc : exec c s = writeReq s d a v) {t : State} (ht : (s.countScoped a v.toNat).applyWrite d a (kept a v) = t)
    (hP : P (finish s t)) : Answers c s P :=
  answers_window h ho hoff h4 hr hc (t := t) (by rw [State.windowWrite_strobe _ d hr hacc, ht]) hP

end Sys2Proof.Machine
end

