-- ==== Sys2Proof/Laws/Memory.lean ====
section
/-! SUPPORT. The byte spaces keep their canonical form under every operation that writes them, and read back what was written. -/

namespace Sys2Proof.Machine

variable {s : State}

/-- The canonical form, space by space. -/
theorem Spaces.wf_iff (m : Spaces) : m.wf = true ↔
    Memory.wf 0 m.dram = true ∧ Memory.wf 0 m.ctxTab = true ∧ Memory.wf 0 m.pmap = true ∧ Memory.wf 0 m.pane = true ∧
      Memory.wf 0 m.layd = true ∧ Memory.wf 0xFF m.flashA = true ∧ Memory.wf 0xFF m.flashB = true ∧
      awf (fun _ => 0) m.lines = true := by
  simp only [Spaces.wf, Bool.and_eq_true, and_assoc]

/-- A space of which nothing is listed is in the canonical form; so is all memory after reset. -/
theorem Memory.wf_nil (d : Byte) : Memory.wf d [] = true := rfl

theorem mem_wf_reset : State.reset.mem.wf = true := rfl

/-- Writing bytes keeps the canonical form. -/
theorem Memory.wf_asetMany (d : Byte) (k : Nat) (bs : List Byte) (m : List Host.Cell) (h : Memory.wf d m = true) :
    Memory.wf d (asetMany d k bs m) = true := awf_asetMany d bs k m h

/-- Erasing bytes keeps the canonical form. -/
theorem Memory.wf_adrop (d : Byte) (p : Nat → Bool) (m : List Host.Cell) (h : Memory.wf d m = true) :
    Memory.wf d (adrop p m) = true := awf_adrop _ p m h

/-- A line's state. -/
theorem State.mem_wf_setLine (l v : Nat) (h : s.mem.wf = true) : (s.setLine l v).mem.wf = true := by
  rw [Spaces.wf_iff] at h ⊢
  exact ⟨h.1, h.2.1, h.2.2.1, h.2.2.2.1, h.2.2.2.2.1, h.2.2.2.2.2.1, h.2.2.2.2.2.2.1, awf_aset (fun _ => 0) l v _ h.2.2.2.2.2.2.2⟩

theorem State.mem_wf_touchLine (l : Nat) (w : Bool) (h : s.mem.wf = true) : (s.touchLine l w).mem.wf = true := by
  unfold State.touchLine
  dsimp only
  split
  · split
    · refine State.mem_wf_setLine _ _ ?_
      have k := State.mem_wf_setLine (s := s) l (if w = true then 0 else if s.line l ≤ 1 then 0 else 3) h
      rw [Spaces.wf_iff] at k ⊢
      exact k
    · exact State.mem_wf_setLine _ _ h
  · exact State.mem_wf_setLine _ _ h

/-- A repeated operation keeps the form that each round keeps. -/
theorem State.mem_wf_foldl {α : Type} (f : State → α → State) (l : List α) (hf : ∀ t x, t.mem.wf = true → (f t x).mem.wf = true) :
    ∀ s : State, s.mem.wf = true → (l.foldl f s).mem.wf = true := by
  induction l with
  | nil => exact fun s h => h
  | cons x l ih => exact fun s h => ih _ (hf _ _ h)

theorem State.mem_wf_touchLines (a n : Nat) (h : s.mem.wf = true) : (s.touchLines a n).mem.wf = true :=
  State.mem_wf_foldl _ _ (fun _ _ ht => State.mem_wf_touchLine _ _ ht) _ h

/-- DRAM. -/
theorem State.mem_wf_dramPut (cls blk a : Nat) (bs : List Byte) (h : s.mem.wf = true) : (s.dramPut cls blk a bs).mem.wf = true := by
  unfold State.dramPut
  split
  · exact h
  split
  · simpa [State.addrErr] using h
  · have := State.mem_wf_touchLines (s := s) a bs.length h
    rw [Spaces.wf_iff] at this ⊢
    exact ⟨Memory.wf_asetMany _ _ _ _ this.1, this.2⟩

/-- The stream context table. -/
theorem State.mem_wf_setCtxF (i o n v : Nat) (h : s.mem.wf = true) : (s.setCtxF i o n v).mem.wf = true := by
  rw [Spaces.wf_iff] at h ⊢
  exact ⟨h.1, Memory.wf_asetMany _ _ _ _ h.2.1, h.2.2⟩

theorem State.mem_wf_setCtxState (i v : Nat) (h : s.mem.wf = true) : (s.setCtxState i v).mem.wf = true :=
  State.mem_wf_setCtxF _ _ _ _ h

/-- A Landing's flash. -/
theorem State.mem_wf_setFlash (l : Landing) (m : List Host.Cell) (hm : Memory.wf 0xFF m = true) (h : s.mem.wf = true) :
    (s.setFlash l m).mem.wf = true := by
  rw [Spaces.wf_iff] at h ⊢
  cases l
  · exact ⟨h.1, h.2.1, h.2.2.1, h.2.2.2.1, h.2.2.2.2.1, hm, h.2.2.2.2.2.2⟩
  · exact ⟨h.1, h.2.1, h.2.2.1, h.2.2.2.1, h.2.2.2.2.1, h.2.2.2.2.2.1, hm, h.2.2.2.2.2.2.2⟩

theorem State.flash_wf (l : Landing) (h : s.mem.wf = true) : Memory.wf 0xFF (s.flash l) = true := by
  rw [Spaces.wf_iff] at h
  cases l
  · exact h.2.2.2.2.2.1
  · exact h.2.2.2.2.2.2.1

theorem State.mem_wf_flashPut (l : Landing) (a : Nat) (bs : List Byte) (h : s.mem.wf = true) : (s.flashPut l a bs).mem.wf = true :=
  State.mem_wf_setFlash _ _ (Memory.wf_asetMany _ _ _ _ (State.flash_wf l h)) h

theorem State.mem_wf_flashErase (l : Landing) (a n : Nat) (h : s.mem.wf = true) : (s.flashErase l a n).mem.wf = true :=
  State.mem_wf_setFlash _ _ (Memory.wf_adrop _ _ _ (State.flash_wf l h)) h

/-- The pane store. -/
theorem State.mem_wf_panePut (a : Nat) (bs : List Byte) (h : s.mem.wf = true) : (s.panePut a bs).mem.wf = true := by
  rw [Spaces.wf_iff] at h ⊢
  exact ⟨h.1, h.2.1, h.2.2.1, Memory.wf_asetMany _ _ _ _ h.2.2.2.1, h.2.2.2.2⟩

/-- The panel map store: the load from flash. -/
theorem State.mem_wf_mapLoad (l : Landing) (h : s.mem.wf = true) : (s.mapLoad l).mem.wf = true := by
  rw [Spaces.wf_iff] at h ⊢
  generalize hb : s.flashBytes l (mapCopyAddr (s.mapCopyFor l))
    (if s.flashLe l (mapCopyAddr (s.mapCopyFor l) + 8) 4 ≤ 0x400000
      then max 256 (s.flashLe l (mapCopyAddr (s.mapCopyFor l) + 8) 4) else 256) = bs
  have e : (s.mapLoad l).mem =
      { s.mem with pmap := asetMany 0 0 bs (adrop (fun k => decide (k < 0x400000)) s.mem.pmap) } := by
    rw [← hb]; simp only [State.mapLoad, State.setBit_mem]
  rw [e]
  exact ⟨h.1, h.2.1, Memory.wf_asetMany 0 0 bs _ (Memory.wf_adrop 0 _ _ h.2.2.1), h.2.2.2⟩

/-- The descriptor RAM: banks without a copy. -/
theorem State.mem_wf_freeBanks (h : s.mem.wf = true) : s.freeBanks.mem.wf = true := by
  refine State.mem_wf_foldl _ _ (fun t k ht => ?_) _ h
  dsimp only
  generalize (List.range 128).map (fun i => BitVec.ofNat 8 (Config.freeNat (t.fresh + i))) = bs
  rw [Spaces.wf_iff] at ht ⊢
  refine ⟨ht.1, ht.2.1, ht.2.2.1, ht.2.2.2.1, ?_, ht.2.2.2.2.2⟩
  exact Memory.wf_asetMany 0 _ bs _ ht.2.2.2.2.1

/-- The descriptor RAM: banks from the copy of a take-over. -/
theorem State.mem_wf_copyBanks (c : List Host.Cell) (h : s.mem.wf = true) :
    ((List.range 32).foldl (fun (t : State) (k : Nat) =>
      let a := laydAddr k (1 - t.layBank k)
      { t with mem := { t.mem with layd := asetMany 0 a (agetMany 0 a 128 c) t.mem.layd } }) s).mem.wf = true := by
  refine State.mem_wf_foldl _ _ (fun t k ht => ?_) _ h
  dsimp only
  generalize agetMany 0 (laydAddr k (1 - t.layBank k)) 128 c = bs
  rw [Spaces.wf_iff] at ht ⊢
  refine ⟨ht.1, ht.2.1, ht.2.2.1, ht.2.2.2.1, ?_, ht.2.2.2.2.2⟩
  exact Memory.wf_asetMany 0 _ bs _ ht.2.2.2.2.1

/-! What a Gangway write leaves of memory. -/

theorem State.mem_foldl {α : Type} (f : State → α → State) (l : List α) (hf : ∀ t x, (f t x).mem = t.mem) :
    ∀ s : State, (l.foldl f s).mem = s.mem := by
  induction l with
  | nil => exact fun s => rfl
  | cons x l ih => exact fun s => (ih _).trans (hf _ _)

theorem State.layFail_mem (mask code layer detail : Nat) : (s.layFail mask code layer detail).mem = s.mem := by
  unfold State.layFail
  exact State.mem_foldl (fun (t : State) (k : Nat) => t.setLayer k { t.layer k with err := code, detail := detail }) _ (fun _ _ => rfl) _

theorem State.laySpaceCommit_mem (d : Dom) (k mask : Nat) : (s.laySpaceCommit d k mask).mem = s.mem := by
  unfold State.laySpaceCommit State.layCommit
  simp only [Bool.false_eq_true, if_false]
  split
  · split
    · rfl
    split
    · exact State.layFail_mem _ _ _ _
    split
    · exact State.layFail_mem _ _ _ _
    split
    · exact State.layFail_mem _ _ _ _
    · rfl
  · rfl

theorem State.laydTouched_mem (k : Nat) : (s.laydTouched k).mem = s.mem := by
  unfold State.laydTouched; split <;> [split; skip] <;> rfl

theorem State.mapTouched_mem (b : Nat) : (s.mapTouched b).mem = s.mem := by
  unfold State.mapTouched; dsimp only; split <;> rfl

theorem State.sheetTouched_mem (k b : Nat) : (s.sheetTouched k b).mem = s.mem := by
  unfold State.sheetTouched; dsimp only; split <;> [rfl; split] <;> rfl

/-- A Gangway write that a target takes keeps the canonical form. -/
theorem State.mem_wf_gwyStore (d : Dom) (n : Nat) (c : GwyChan) (bs : List Byte) (t : State)
    (e : s.gwyStore d n c bs = some t) (h : s.mem.wf = true) : t.mem.wf = true := by
  unfold State.gwyStore at e
  dsimp only at e
  split at e
  · split at e
    · cases e
    · cases e; unfold State.setFlashNext; split <;> exact h
  split at e
  · cases e
  split at e
  · cases e; exact State.mem_wf_dramPut _ _ _ _ h
  split at e
  · split at e
    · cases e
    · cases e
      rw [Spaces.wf_iff] at h ⊢
      refine ⟨h.1, ?_, h.2.2⟩
      have k : ∀ (l : List (Byte × Nat)) (m : List Host.Cell), Memory.wf 0 m = true → Memory.wf 0 (l.foldl
          (fun (m : List Host.Cell) (x : Byte × Nat) =>
            if s.ctxHostByte (c.addr / 64) (c.addr % 64 + x.2) then aset 0 (c.addr + x.2) x.1 m else m) m) = true := by
        intro l
        induction l with
        | nil => exact fun m hm => hm
        | cons x l ih =>
          intro m hm
          refine ih _ ?_
          dsimp only
          split
          · exact awf_aset (fun _ => (0 : Byte)) _ _ m hm
          · exact hm
      exact k _ _ h.2.1
  split at e
  · split at e
    · cases e
    · cases e
      rw [State.mapTouched_mem, Spaces.wf_iff]
      rw [Spaces.wf_iff] at h
      exact ⟨h.1, h.2.1, Memory.wf_asetMany 0 _ bs _ h.2.2.1, h.2.2.2⟩
  split at e
  · split at e
    · cases e
    · cases e
      rw [State.sheetTouched_mem]
      exact State.mem_wf_dramPut _ _ _ _ h
  split at e
  · split at e
    · split at e
      · cases e
      · cases e
        rw [State.laydTouched_mem, Spaces.wf_iff]
        rw [Spaces.wf_iff] at h
        exact ⟨h.1, h.2.1, h.2.2.1, h.2.2.2.1, Memory.wf_asetMany 0 _ bs _ h.2.2.2.2.1, h.2.2.2.2.2⟩
    · cases e
      split
      · rw [State.laySpaceCommit_mem]; exact h
      · exact h
  · cases e

/-- The resets keep the flashes, RESET_N also the pane store; the rest reads as reset memory. -/
theorem State.mem_wf_resetAll (a b pane : List Host.Cell) (bad : List Nat) (ha : Memory.wf 0xFF a = true)
    (hb : Memory.wf 0xFF b = true) (hp : Memory.wf 0 pane = true) :
    Spaces.wf { flashA := a, flashB := b, pane := pane, paneBad := bad } = true := by
  rw [Spaces.wf_iff]
  exact ⟨rfl, rfl, rfl, hp, rfl, ha, hb, rfl⟩

/-- Bytes written to DRAM within the capacity read back. -/
theorem State.dramBytes_dramPut (cls blk a : Nat) (bs : List Byte) (h : a + bs.length ≤ s.capacity) :
    (s.dramPut cls blk a bs).dramBytes a bs.length = bs := by
  unfold State.dramPut
  split
  · rename_i h0; subst h0; rfl
  · rw [if_neg (by omega)]
    exact agetMany_asetMany 0 bs a _

/-- Bytes written to a Landing's flash read back. -/
theorem State.flashBytes_flashPut (l : Landing) (a : Nat) (bs : List Byte) :
    (s.flashPut l a bs).flashBytes l a bs.length = bs := by
  cases l <;> exact agetMany_asetMany 0xFF bs a _

end Sys2Proof.Machine
end

