-- ==== Sys2Proof/Laws/Pages.lean ====
section
/-! SUPPORT. Page headers: the interrupt bits of a page, the reset of a page's registers, and the taking of a page's values. -/

namespace Sys2Proof.Machine

/-- No page has more interrupt bits than INT_RAW below its bit 31. -/
theorem PageFam.intSpan_le (f : PageFam) (i : Nat) : f.intSpan i ≤ 31 := by
  (cases f <;> simp [PageFam.intSpan]); split <;> decide

theorem intMask_lt (page : Nat) : intMask page < 2 ^ 32 := by
  unfold intMask
  split
  · next f i _ =>
    have := Nat.pow_le_pow_right (n := 2) (by decide) (PageFam.intSpan_le f i)
    generalize 2 ^ f.intSpan i = x at *
    norm_num at *; omega
  · norm_num

/-- On a page without side effects, SOFT_RESET of one register puts it at its reset value and leaves the others. -/
theorem State.resetReg_plain {page : Nat} {f : PageFam} {i : Nat} (hf : famOfPage page = some (f, i))
    (hm : f ∈ [PageFam.glb, .haws, .irq, .sft, .eth, .wbk]) (s : State) (d : Dom) (a : Nat) (ha : a / 0x1000 = page) :
    (s.resetReg d a).reg a = regReset s.dev a ∧ (s.resetReg d a).dev = s.dev ∧
      (∀ b, b ≠ a → (s.resetReg d a).reg b = s.reg b) := by
  have hap : ∀ (u : State) w, u.applyWrite d a w = u.wr a w := by
    intro u w; unfold State.applyWrite; rw [ha, hf]
    simp at hm; rcases hm with rfl | rfl | rfl | rfl | rfl | rfl <;> rfl
  have hb : ¬(Reg.BMK_TRIM 0 ≤ a ∧ a < Reg.BMK_TRIM 16) := by
    intro h
    have : page = 0x1C1 := by have := h.1; have := h.2; simp only [Reg.BMK_TRIM] at *; omega
    subst this
    have : famOfPage 0x1C1 = some (.bmk, 0) := by decide
    rw [this] at hf; simp at hf; obtain ⟨rfl, _⟩ := hf; simp at hm
  have hpci : ¬(page = Page.PCI 0 ∨ page = Page.PCI 1) := by
    rintro (h | h)
    · have : famOfPage (Page.PCI 0) = some (.pci, 0) := by decide
      rw [h, this] at hf; simp at hf; obtain ⟨rfl, _⟩ := hf; simp at hm
    · have : famOfPage (Page.PCI 1) = some (.pci, 1) := by decide
      rw [h, this] at hf; simp at hf; obtain ⟨rfl, _⟩ := hf; simp at hm
  unfold State.resetReg
  dsimp only
  rw [if_neg hb, ha, if_neg hpci]
  split
  · next h =>
    refine ⟨?_, rfl, fun _ _ => rfl⟩
    apply BitVec.eq_of_toNat_eq; exact h
  · have key : (s.wr a (regReset s.dev a).toNat).reg a = regReset s.dev a ∧ (s.wr a (regReset s.dev a).toNat).dev = s.dev ∧
      (∀ b, b ≠ a → (s.wr a (regReset s.dev a).toNat).reg b = s.reg b) :=
      ⟨by simp, by simp, fun b hb => State.reg_wr_other _ _ hb⟩
    split
    · exact key
    · rw [hap]; exact key

theorem State.resetRegs_plain {page : Nat} {f : PageFam} {i : Nat} (hf : famOfPage page = some (f, i))
    (hm : f ∈ [PageFam.glb, .haws, .irq, .sft, .eth, .wbk]) (d : Dom) (l : List Nat) :
    ∀ (s : State), (∀ a ∈ l, a / 0x1000 = page) → ∀ a, (a ∈ l ∨ s.reg a = regReset s.dev a) →
      (l.foldl (fun (u : State) (a : Nat) => u.resetReg d a) s).reg a = regReset s.dev a := by
  induction l with
  | nil => intro s _ a h; simpa using h
  | cons b l ih =>
    intro s hl a h
    rw [List.foldl_cons]
    obtain ⟨h1, h2, h3⟩ := State.resetReg_plain hf hm s d b (hl b (by simp))
    rw [← h2]
    apply ih _ (fun c hc => hl c (by simp [hc]))
    by_cases hab : a = b
    · subst hab; right; rw [h1, h2]
    · rcases h with h | h
      · simp [hab] at h; exact .inl h
      · right; rw [h3 a hab, h2, h]

/-- Values set one after the other stand at every key set. -/
theorem foldl_aset_mem {α : Type} [DecidableEq α] (f : Nat → α) (dflt : Nat → α) (l : List Nat) :
    ∀ (m : List (Nat × α)) a, (a ∈ l ∨ aget (dflt a) a m = f a) →
      aget (dflt a) a ((l.map (fun a => (a, f a))).foldl (fun m (x : Nat × α) => aset (dflt x.1) x.1 x.2 m) m) = f a := by
  induction l with
  | nil => intro m a h; simpa using h
  | cons b l ih =>
    intro m a h
    rw [List.map_cons, List.foldl_cons]
    apply ih
    by_cases hab : a = b
    · subst hab; right; simp
    · rcases h with h | h
      · simp [hab] at h; exact .inl h
      · right; rw [aget_aset_other _ _ _ _ hab]; exact h

end Sys2Proof.Machine
end

