-- ==== Sys2Proof/Machine/Package.lean ====
section
/-! DEFINITION. The package: which signal a ball carries, the rails and the ratings (R1, R437 to R459). Nothing here is state of
the block; voltages are in units of 0.1 mV, currents in mA. -/

namespace Sys2Proof.Machine

/-- The rails (R445). -/
inductive Rail where
  | vddGrt | vddSoc | vddLnda | vddLndb | vddq | vdd2h | vddSerdes | vddaSerdes | vddio | vddioSft
  deriving DecidableEq, Repr

/-- What a ball carries. A pair of balls carries P (or T) and N (or C); `neg` names the second one. -/
inductive Ball where
  | vss
  | rail (r : Rail)
  | tileTx (port lane : Nat) (neg : Bool)
  | tileBk (port : Nat) (neg : Bool)
  | trefclk (m : Nat) (neg : Bool)
  /-- A ball of memory channel `ch` by its place in the table of R439. -/
  | dram (ch row col : Nat)
  | ethTx (port lane : Nat) (neg : Bool)
  | ethRx (port lane : Nat) (neg : Bool)
  | erefclk (neg : Bool)
  | pcieTx (q lane : Nat) (neg : Bool)
  | pcieRx (q lane : Nat) (neg : Bool)
  | pcieRefclk (q : Nat) (neg : Bool)
  | perst (q : Nat)
  /-- One of the 50 signals of the signal region, by its place in the order of R440. -/
  | signal (i : Nat)
  deriving DecidableEq, Repr

/-- Signal `i` of the signal region (R440). -/
def signalNames : List String :=
  ["LNDA_REF", "LNDB_REF", "LNDA_SPI_CLK", "LNDA_SPI_CS_N", "LNDA_SPI_DQS", "LNDA_SPI_DQ0", "LNDA_SPI_DQ1", "LNDA_SPI_DQ2",
   "LNDA_SPI_DQ3", "LNDA_SPI_DQ4", "LNDA_SPI_DQ5", "LNDA_SPI_DQ6", "LNDA_SPI_DQ7", "LNDA_SPI_RESET_N"] ++
  ["LNDB_SPI_CLK", "LNDB_SPI_CS_N", "LNDB_SPI_DQS", "LNDB_SPI_DQ0", "LNDB_SPI_DQ1", "LNDB_SPI_DQ2", "LNDB_SPI_DQ3",
   "LNDB_SPI_DQ4", "LNDB_SPI_DQ5", "LNDB_SPI_DQ6", "LNDB_SPI_DQ7", "LNDB_SPI_RESET_N"] ++
  ["SFT_SCK", "SFT_CS_N", "SFT_MOSI", "SFT_MISO", "SFT_FAULT_N", "IRQ_S_N", "SMB_SCL", "SMB_SDA", "SMB_ALERT_N", "PPS_IN",
   "PPS_OUT", "FRAME_SYNC_OUT", "THERMTRIP_N", "PWRGOOD", "RESET_N", "LNDA_RESET_N", "LNDB_RESET_N", "JTAG_TCK", "JTAG_TMS",
   "JTAG_TDI", "JTAG_TDO", "JTAG_TRST_N", "VDD_GRT_SENSE", "VSS_GRT_SENSE"]

/-- A ball of memory channel names (R439), by row and column of the channel's block. -/
def dramNames : List (List String) :=
  [["DQ0", "DQ1", "DQ2", "DQ3", "DQ4", "DQ5", "DQ6", "DQ7"],
   ["DQ8", "DQ9", "DQ10", "DQ11", "DQ12", "DQ13", "DQ14", "DQ15"],
   ["DMI0", "DMI1", "RDQS0_T", "RDQS0_C", "RDQS1_T", "RDQS1_C", "WCK0_T", "WCK0_C"],
   ["WCK1_T", "WCK1_C", "CK_T", "CK_C", "CA0", "CA1", "CA2", "CA3"],
   ["CA4", "CA5", "CA6", "CS0", "CS1", "RESET_N", "VSS", "VSS"]]

/-- An odd row + column carries the rail, an even one VSS. -/
def checker (row col : Nat) (r : Rail) : Ball := if (row + col) % 2 = 1 then .rail r else .vss

/-- A ball of a tile port's block of 8 × 5 (R438). -/
def tileBall (port r c : Nat) : Ball :=
  if c = 0 then .tileTx port r false
  else if c = 1 then .tileTx port r true
  else if c = 2 then (if r = 6 then .tileBk port false else if r = 7 then .tileBk port true else .vss)
  else if c = 3 then .tileTx port (r + 8) false
  else .tileTx port (r + 8) true

/-- A ball of the edge columns: a tile reference clock, VDDA_SERDES or VSS (R438). -/
def edgeBall (row col : Nat) : Ball :=
  let top := decide (3 ≤ row) && decide (row ≤ 15) && decide ((row - 3) % 4 = 0)
  let low := decide (75 ≤ row) && decide (row ≤ 87) && decide ((row - 75) % 4 = 0)
  if (col = 1 ∨ col = 2) ∧ (top || low) = true then
    .trefclk (if top then (row - 3) / 4 else 4 + (row - 75) / 4) (decide (col = 2))
  else checker row col .vddaSerdes

/-- A ball of the memory regions (R439). -/
def memBall (row col : Nat) : Ball :=
  let right := decide (64 ≤ col)
  let i := (if right then col - 64 else col - 1) / 8
  let j := (row - 17) / 5
  let k := 3 * j + i
  if 31 < k then checker row col .vddq
  else
    let r := (row - 17) % 5
    let c := (if right then col - 64 else col - 1) % 8
    if r = 4 ∧ 6 ≤ c then .vss else .dram (if right then 32 + k else k) r c

/-- Place `n` of the Ethernet region's order (R440). -/
def ethBall (n : Nat) : Ball :=
  if n < 96 then
    let p := n / 24
    let m := n % 24
    if m % 3 = 2 then .vss
    else if m < 12 then .ethTx p (m / 3) (decide (m % 3 = 1))
    else .ethRx p ((m - 12) / 3) (decide (m % 3 = 1))
  else if n = 96 then .erefclk false
  else if n = 97 then .erefclk true
  else .vss

/-- Place `n` of the PCIe region's order (R440). -/
def pcieBall (n : Nat) : Ball :=
  if n < 96 then
    let q := n / 48
    let m := n % 48
    if m % 3 = 2 then .vss
    else if m < 24 then .pcieTx q (m / 3) (decide (m % 3 = 1))
    else .pcieRx q ((m - 24) / 3) (decide (m % 3 = 1))
  else if n < 102 then
    (if (n - 96) % 3 = 2 then .vss else .pcieRefclk ((n - 96) / 3) (decide ((n - 96) % 3 = 1)))
  else if n = 102 then .perst 0
  else if n = 103 then .perst 1
  else .vss

/-- A ball of rows 21 and 22 of the signal region (R440). -/
def signalBall (row col : Nat) : Ball :=
  let n := (row - 21) * 39 + (col - 25)
  if n < 50 then .signal n
  else if col ≤ 60 then (if col % 2 = 0 then .rail .vddio else .vss)
  else if col ≤ 62 then .rail .vddioSft
  else .vss

/-- A ball of the core power region (R441). -/
def coreBall (row col : Nat) : Ball :=
  if row ≤ 48 then checker row col .vddGrt
  else if row ≤ 60 then checker row col .vddSoc
  else if row ≤ 63 then checker row col .vddSerdes
  else if row ≤ 65 then checker row col .vddq
  else if row ≤ 66 then checker row col .vdd2h
  else if col ≤ 43 then checker row col .vddLnda
  else if col = 44 then .vss
  else checker row col .vddLndb

/-- What ball (row, column) carries, 1 to 87 each (R437). -/
def ballAt (row col : Nat) : Ball :=
  if row ≤ 16 ∨ 72 ≤ row then
    if 4 ≤ col ∧ col ≤ 83 then
      let up := if row ≤ 16 then row - 1 else row - 72 + 16
      tileBall (up / 8 * 16 + (col - 4) / 5) (up % 8) ((col - 4) % 5)
    else edgeBall row col
  else if col ≤ 24 ∨ 64 ≤ col then memBall row col
  else if row ≤ 20 then ethBall ((row - 17) * 39 + (col - 25))
  else if row ≤ 22 then signalBall row col
  else if row ≤ 67 then coreBall row col
  else pcieBall ((row - 68) * 39 + (col - 25))

/-- Lowest and highest operating voltage of a rail, and its most current (R445); VDDIO_SFT at 3.3 V or 1.8 V. -/
def railRange (sft3v3 : Bool) : Rail → Nat × Nat × Nat
  | .vddGrt => (7275, 7725, 110000)
  | .vddSoc => (7760, 8240, 100000)
  | .vddLnda | .vddLndb => (7760, 8240, 2500)
  | .vddq => (4750, 5250, 30000)
  | .vdd2h => (10185, 10815, 12000)
  | .vddSerdes => (8730, 9270, 45000)
  | .vddaSerdes => (11640, 12360, 15000)
  | .vddio => (17100, 18900, 2000)
  | .vddioSft => if sft3v3 then (31350, 34650, 50) else (17100, 18900, 50)

/-- Step of the power-up sequence at which a rail comes up (R447). -/
def railStep : Rail → Nat
  | .vddio | .vddioSft => 1
  | .vdd2h => 2
  | .vddSoc => 3
  | .vddLnda | .vddLndb => 4
  | .vddGrt | .vddSerdes | .vddaSerdes => 5
  | .vddq => 6

/-- Absolute maximum of a rail (R450). -/
def railMax : Rail → Nat
  | .vddGrt => 9000
  | .vddSoc | .vddLnda | .vddLndb => 9500
  | .vddq => 6500
  | .vddSerdes => 10500
  | .vdd2h | .vddaSerdes => 14000
  | .vddio => 21000
  | .vddioSft => 38000

/-- The reference clocks of R443: frequency in kHz and tolerance in ppm; the PCIe ones follow their own standard. -/
def refClocks : List (String × Nat × Option Nat) :=
  [("LNDA_REF", 25000, some 50), ("LNDB_REF", 25000, some 50), ("TREFCLK", 156250, some 100), ("EREFCLK", 156250, some 50),
   ("PCI0_REFCLK", 100000, none), ("PCI1_REFCLK", 100000, none)]

/-- Power budget by block in W (R456): Graticule, tile SerDes, memory, decoders, SRAM and fabric, Ethernet, PCIe, Landings and
housekeeping, other I/O. -/
def powerBudget : List Nat := [68, 40, 42, 18, 30, 8, 4, 3, 6]

/-- Hottest junction in 0.01 °C for a lid centre in 0.01 °C and a power in W (R457: 0.06 °C/W). -/
def junction (lid watts : Nat) : Nat := lid + 6 * watts

end Sys2Proof.Machine
end

