-- ==== Sys2Proof/Tests/Slice0.lean ====
section
/-! SUPPORT. Tests: the spec's check values and worked examples, single commands, commands that are not well formed, and for
every statement with hypotheses a state and operands that meet them, clause by clause. -/

open Sys2Proof Sys2Proof.Machine

namespace Sys2Proof.Tests

/-! States that the tests share. -/

/-- `s` with the registers of the list written. -/
def onRegs (l : List (Nat × Nat)) (s : State) : State := l.foldl (fun t x => t.wr x.1 x.2) s

/-- The block with its datapath running: Landing A active, Landing B standby. -/
def up : State := onRegs [(Reg.BOOT_STATUS, 3), (Reg.MOOR_STATUS, 0), (Reg.LND_STATUS 0, 4), (Reg.LND_STATUS 1, 3)] State.reset

/-- Channel `n` of every domain runs a transfer of 8 bytes at byte 4 of the megabyte that window n gives it. -/
def gwyUp (read : Bool) : State :=
  (List.range 4).foldl
    (fun t n => (onRegs [(Reg.GWY_STATUS n, 1), (Reg.DOM_DRAM_WIN_SIZE n, 1), (Reg.DOM_DRAM_WIN_BASE n, n),
        (Reg.DOM_DRAM_WIN_OWNER n, n)] t).setGwy n
      { read := read, len := 8, addr := n * 2 ^ 20 + 4 }) (onRegs [(Reg.DMG0_CAPACITY, 4)] up)

/-- Endpoint 1 can send; a page of its domain has a pending interrupt with vector 5, which the endpoint has acted on. -/
def waitingVec (unmasked : List Nat) : State :=
  let s := onRegs [(Reg.INT_ENABLE (Page.PCI 1), 1), (Reg.INT_RAW (Page.PCI 1), 1), (Reg.PCI_LINK_STATUS 1, 0x100)] up
  s.setEp 1 { s.ep1 with vecMap := [(Page.PCI 1, 5)], busMaster := true, unmasked := unmasked, told := [5] }

/-- The same, with the vector held back by a hold-off that has ended. -/
def heldVec : State :=
  { (waitingVec [5]) with clk := 1000, ep1 := { (waitingVec [5]).ep1 with heldBack := [5], lastMsg := [(5, 0)] } }

/-- The header of a PTP message of sequence 3 from port identity 7, as the reset settings of the Datum take it. -/
def hdr0 : PtpHdr := { port := 0, transport := 0, domain := 0, majorSdo := 0, minorSdo := 0, src := 7, seq := 3 }

/-- A Sync of that sequence, received at 0. -/
def sync0 : SyncRec := { seq := 3, src := 7, t2 := 0, base := 0, logInterval := 0 }

/-- An Announce of that master. -/
def ann0 : PtpAnnounce :=
  { hdr := hdr0, logInterval := 0, gmId := 1, priority1 := 128, clockClass := 6, accuracy := 0, variance := 0, priority2 := 128
    stepsRemoved := 0, utcOffset := 37, utcValid := true, leap61 := false, leap59 := false }

/-- The Datum follows that master over PTP: its Sync waits for the Follow_Up, and a Delay_Req for its Delay_Resp. -/
def ptpUp : State :=
  { (onRegs [(Reg.DTM_CTRL, 1), (Reg.DTM_SDO, 0)] up) with
    dtm := { up.dtm with master := some 7, syncWait := [sync0], delayReq := some ⟨3, 0, some sync0⟩, lastSync := some (0, 0)
                         foreign := [⟨7, ann0, [0]⟩] } }

/-- `s` with fields of context `c`'s entry written: offset, bytes, value. -/
def withCtx (c : Nat) (l : List (Nat × Nat × Nat)) (s : State) : State := l.foldl (fun t x => t.setCtxF c x.1 x.2.1 x.2.2) s

/-- Fields of an entry that OPEN accepts: port mask 0xF, UDP port 5000, 90 kHz, 64 × 64. -/
def ctxGood : List (Nat × Nat × Nat) :=
  [(0, 4, 0x1E0), (8, 2, 5000), (0xC, 4, 7), (0x10, 4, 90000), (0x30, 2, 64), (0x32, 2, 64)]

/-- Context 1023 is open for UDP port 5000 and SSRC 7 on Ethernet port 3, which is enabled. -/
def rtpUp : State :=
  withCtx 1023 [(0, 4, 0x100), (8, 2, 5000), (0xC, 4, 7), (0x38, 4, 1)]
    (onRegs [(Reg.ING_CTRL, 1), (Reg.ETH_CTRL 3, 1), (Reg.ETH_MAX_FRAME 3, 1522), (Reg.ETH_IPV4 3, 1), (Reg.ETH_MAC_LO 3, 2)] up)

/-- A datagram for that context, of the largest length. -/
def frame0 : EthFrame :=
  { port := 3, fcsOk := true, length := 1522, dmac := 2, pause := false, vlan := none, etherType := 0x0800, ipOk := true
    dstIp := 1, dstIpMulticast := false, udp := true, udpSum := 1, dstPort := 5000, ptpType := 0, ssrc := 7, rtcp := false
    stamp := 0 }

/-- An RTP packet of that context: a NAL unit of one byte. -/
def rtp0 : RtpPkt :=
  { port := 3, udpPort := 5000, ssrc := 7, version := 2, pt := 0, seq := 65535, ts := 0, marker := true, nalType := 49
    nals := [⟨true, true, false, true, 64, 1⟩], fuStart := true, fuEnd := true, bytes := 1, stamp := 0, srcMac := 0, srcIp := 0 }

/-- A picture with one slice, on core 31. -/
def job0 : DecJob :=
  { ts := 0, gen := 0, irap := true, slices := [⟨1, 64, 10, 0⟩], core := some 31, slot := none, ringWait := false, begun := true
    firstRx := 0, handed := none, partialPic := false, taint := false, poison := false, drop := 0 }

/-- Core 31 runs the slice of context 1023, of class 1, while a slice of context 5, of class 0, is ready for it. -/
def decUp : State :=
  (((withCtx 1023 [(0, 1, 0x08)] rtpUp).setCtx 5 { jobs := [job0] }).setCtx 1023 { jobs := [job0] }).setCore 31
    { run := some 1023 }

theorem aget_unlisted {α : Type} (d : α) (k : Nat) (m : List (Nat × α)) (h : ∀ x ∈ m, x.1 ≠ k) : aget d k m = d := by
  induction m with
  | nil => rfl
  | cons x m ih =>
    rw [aget, if_neg (h x (by simp)), ih (fun y hy => h y (by simp [hy]))]

theorem rtpUp_cells : ∀ x ∈ rtpUp.mem.ctxTab, 65472 ≤ x.1 ∧ x.1 < 65536 := by decide

/-- No context but 1023 is open there. -/
theorem rtpUp_open (i : Nat) (h : rtpUp.ctxState i = 1) : i = 1023 := by
  refine Decidable.byContradiction fun hi => ?_
  have z (o : Nat) (ho : o < 64) : aget 0#8 (64 * i + o) rtpUp.mem.ctxTab = 0#8 :=
    aget_unlisted _ _ _ fun x hx => by have := rtpUp_cells x hx; omega
  simp [State.ctxState, State.ctxF, agetLe, agetMany, z, Nat.add_assoc, leNat, bits] at h

/-- `up` with the expert window of a page unlocked. -/
def unlocked (p : Nat) : State := up.setPage p { up.page p with unlocked := true }

/-- Context 1023 is an Atlas stream for slot 63. -/
def atlUp : State :=
  { (onRegs [(Reg.ATL_SLOT_SIZE, 1), (Reg.DMG0_CAPACITY, 300), (Reg.ATL_UDP_MAX_FRAG, 1024)] (withCtx 1023 [(0, 1, 4)] rtpUp)) with
    force := [(Reg.ATL_SLOT_CFG 63, 0x03FF0003)] }

/-- A sheet of 64 bytes in one fragment. -/
def frag0 : AtlasFrag :=
  { port := 3, udpPort := 5000, magicOk := true, version := 1, streamId := 7, sheetSeq := 9, fragOffset := 0, totalSize := 64
    data := List.replicate 64 1, stamp := 0 }

/-- Layer 31 is a PLANE layer that may be flattened, and unchanged for two gates. -/
def insetUp : State :=
  let s := onRegs [(Reg.INS_CTRL, 1), (Reg.INS_STABLE_FRAMES, 2)] up
  { (s.setLayer 31 { quiet := 2 }) with
    seq := { s.seq with hasMap := true }
    mem := { s.mem with layd := [(laydAddr 31 0, 1), (laydAddr 31 0 + 1, 2)] } }

/-- A request frame of the safety port with its CRC. -/
def sft (cmd addr len : Nat) (payload : List Byte) : SafetyFrame :=
  let f : SafetyFrame := ⟨cmd, addr, len, payload, 0⟩
  { f with crc := crc32c ((frameStream f).take (frameSize f)) }

/-- A segment that engine 32 of column 31 has. -/
def seg0 : SegRun := { col := 31, engine := some 32, first := 0, count := 8, start := 0 }

/-- A frame of one line, FRAME_SEQ 7. -/
def fr0 : FrameSt :=
  { fs := 7, gate := 0, gateTime := 0, modeId := 0, tL := 1000, lines := 1, s0 := 0, tMin := 0, tMax := 0, layers := [], stale := 0
    part := 0, fresh := [], map := 0, background := 0, grtCtrl := 0, refWhite := 203, csc := [], depths := [], panes := none, gains := [], sheets := [] }

/-- `up` with one frame in flight. -/
def onFrame (f : FrameSt) : State := { up with seq := { up.seq with frames := [f] } }

/-- `s` with a panel map whose port 63 has a region of one line. -/
def onMap (s : State) : State :=
  { s with seq := { s.seq with hasMap := true }, mem := { s.mem with pmap := [(2022, 1), (2024, 1)] } }

/-- Column 31 tests its spare engine 32. -/
def spareUp : State := { up with grt := { up.grt with cols := [(31, { spare := some 32, testing := true })] } }

/-- Frame Gates run: a map is in use and the first gate has fired. -/
def gateUp : State := { up with seq := { up.seq with hasMap := true, started := true } }

/-- The Logbook is open on Landing A, with room in its bank. -/
def logUp : State := (onRegs [(Reg.LOGB_STATUS, 1)] up).setSide .a { cur := ⟨1, [16, 17], 0⟩ }

/-- 28 ns are the longest time after which a write is visible to the sequencer. -/
theorem visible_late (s : State) (t : Nat) (h : t + 28 ≤ s.clk) : s.visible t = true := by
  have := Nat.mod_lt Config.seqCrossing (show 17 > 0 by decide)
  simp only [State.visible, decide_eq_true_eq]
  omega

/-- The state a command leaves. -/
def after (c : Instr) (s : State) : State :=
  match exec c s with | .next t => t | .fault _ => s | .refused _ => s

/-- "123456789". -/
def digits : List Byte := [0x31, 0x32, 0x33, 0x34, 0x35, 0x36, 0x37, 0x38, 0x39]

/-- The bits of a string of zeros and ones. -/
def bitsOf (s : String) : List Bool := s.toList.filterMap (fun c => if c = '1' then some true else if c = '0' then some false else none)

/-! The check values and worked examples of the spec. -/

/-- R179 gives the check value of the CRC-32C. -/
theorem test_crc32c_check : crc32c digits = 0xE3069283 := by decide +kernel

/-- The LINE_END row of chapter 11 gives the check value of the CRC-16. -/
theorem test_crc16_check : crc16 digits = 0x29B1 := by decide +kernel

/-- R122: a DELTA block of Atlas samples whose rows run 0x40 to 0x47. -/
theorem test_atlas_delta_block :
    (readBlock 8 (bitsOf "01001010000001111111 1111111" ++ (List.replicate 7 (bitsOf "1011111111111111")).flatten)) =
      some ((List.replicate 8 [0x40, 0x41, 0x42, 0x43, 0x44, 0x45, 0x46, 0x47]).flatten, []) := by decide +kernel

/-- The tile of the worked example after R124: block columns 0 and 1 differ from 2 and 3 in B. -/
theorem test_atlas_tile_example :
    (decodeTile 8 false 1 0x4000 0x4000 [0x01, 0x00, 0xA0, 0x00, 0x72, 0x24, 0x00, 0x40, 0x10, 0x3C, 0x0F, 0x00, 0x40, 0x10,
        0x3C, 0x0F, 0x00, 0x40, 0x10, 0x3C, 0x0F, 0x00, 0x40, 0x10, 0x3C, 0x0F, 0x00]).map
      (fun t => (t.getD 0 []).map (fun c => (texelAt c 15 3, texelAt c 16 3))) =
    some [(0x4000, 0x4000), (0xC8, 0xC8), (0x20, 0x20), (0x10, 0xF0)] := by decide +kernel

/-- The depth of every texel of that tile, 8.192 mm, in units of 10^-6 mm. -/
theorem test_atlas_depth_example : sheetDepth 1000 (-8192) 0x4000 = 8192000 := by decide

/-- R254: the coded hogel of chapter 11 is 59 bits long, and decodes to its words. -/
def hogelCode : List Bool :=
  bitsOf "1 11 00100000 01000000 01100000 0 011 0 1 10 11 10 10 10 0100 10 10 0 0001001"

theorem test_coded_hogel :
    hogelCode.length = 59 ∧ readHogel false 4 4 0 hogelCode =
      some ((List.range 16).map (fun k => if k = 5 then 0x214060 else 0x204060), []) := by decide +kernel

/-- R292: the worked example of chapter 13: group 1, slot 14, offset 0x48D1_5890. -/
theorem test_address_example : addrMap 4096 0x78000000 true 0x1234567890 = (1, 14, 0x48D15890) := by decide

/-- R66: the capture time of camera A lies in the window that begins at 1,718,000,000,000,000,000 ns, that of camera B in the
next. -/
theorem test_window_example :
    windowStart 1000000 0 1718000000000514666 = 1718000000000000000 ∧
      windowStart 1000000 0 1718000000001000000 = 1718000000001000000 := by decide

/-- R424: the page header of TP37 in chapter 20. -/
theorem test_page_header_example :
    up.viewReg .p0 (0x125000) = 0x01002501 ∧ up.viewReg .p0 (0x125004) = 0x00250603 ∧ up.viewReg .p0 (0x125030) = 0 := by
  decide

/-- R31: ray (3000, 1500, 11, 2) is word 63,395 of its line. -/
theorem test_ray_example : 440 * (12 * 12) + rayIndex 12 11 2 = 63395 := by decide

/-- R77, R81: a new master 1.2 µs away. The Sync's receive stamp 6,500 ns, t1 = 0 and cS = 1,250 ns; the exchange ends in
JUMP_HELD with 0x04B0 pending, and the approval with that KEY is taken. -/
def masterAway : State :=
  { (onRegs [(Reg.DTM_CTRL, 1), (Reg.DTM_SDO, 0), (Reg.DTM_STATUS, 3), (Reg.DTM_EXT_RX_LAT 0, 18), (Reg.DTM_EXT_TX_LAT 0, 12)] up)
    with dtm := { up.dtm with master := some 7 } }

/-- Its Sync was received. -/
def masterSync : State :=
  after (.syncRx { hdr := hdr0, twoStep := false, t1 := 0, corr := 1250 * 65536, logInterval := 0, stamp := 6500 }) masterAway

/-- And the Delay_Resp of the Delay_Req sent at 31,250,000 ns. -/
def masterHeld : State :=
  after (.delayRespRx { hdr := { hdr0 with seq := 0 }, t4 := 31253980, corr := 1250 * 65536, logMinDelayReq := 0 })
    { masterSync with dtm := { masterSync.dtm with delayReq := some ⟨0, masterSync.txTime 0 31250000, masterSync.dtm.syncDone⟩ } }

theorem test_new_master_offset :
    masterHeld.dtmState = 4 ∧ masterHeld.rd Reg.DTM_JUMP_PEND_LO = 0x4B0 ∧ masterHeld.rd Reg.DTM_PATH_DELAY = 3800 := by decide +kernel

theorem test_new_master_approval :
    (after (.stepApprove .p0 0x04B00001) masterHeld).dtm.approved = some 0 ∧
      (after (.stepApprove .p0 0x04B10001) masterHeld).dtm.approved = none := by decide +kernel

/-! One command at a time. -/

/-- A step takes the front of the queue and leaves the rest. -/
theorem test_step_takes_the_front :
    (match step { up with pending := [.pageUnlock .p0 Page.GRT, .phaseTick] } with
      | .next t => decide (t.pending = [.phaseTick]) && (t.page Page.GRT).unlocked
      | _ => false) = true := by decide +kernel

/-- R410: a domain that does not own the page does not write it, and the write is counted. -/
theorem test_foreign_write :
    (after (.registerWrite ⟨.p1, Reg.GRT_LEAD_IN, 4, 15⟩) up).rd Reg.GRT_LEAD_IN = up.rd Reg.GRT_LEAD_IN ∧
      (after (.registerWrite ⟨.p1, Reg.GRT_LEAD_IN, 4, 15⟩) up).rd Reg.DOM_DENY_COUNT = 1 := by
  decide +kernel

/-- R462: MAX_FRAME below its range is not taken; a value in range is. -/
theorem test_range_check :
    (after (.registerWrite ⟨.p0, Reg.ETH_MAX_FRAME 1, 0, 15⟩) up).rd (Reg.ETH_MAX_FRAME 1) = up.rd (Reg.ETH_MAX_FRAME 1) ∧
      (after (.registerWrite ⟨.p0, Reg.ETH_MAX_FRAME 1, 1522, 15⟩) up).rd (Reg.ETH_MAX_FRAME 1) = 1522 := by decide +kernel

/-- R276, R277: the credit of a pop is back only after CREDIT_RETURN. -/
theorem test_queue_credit :
    let s := { (up.setQueue 0x020 { spent := 1, entries := [.item 5 0] }) with clk := 1 }
    let t := after (.queuePop 0x020) s
    (t.queue 0x020).entries = [] ∧ (t.queue 0x020).spent = 1 ∧ ((after (.creditReturn 0x020) t).queue 0x020).spent = 0 := by
  decide +kernel

/-- R411: a DRAM window above the capacity is refused. -/
theorem test_window_capacity :
    (after (.dramWindowWrite .p0 15 1 1) up).rd (Reg.DOM_DRAM_WIN_SIZE 15) = 0 := by decide +kernel

/-- R313, R314: one wrong symbol of a line is corrected; with two the line is uncorrectable, and poisoned. -/
theorem test_uncorrectable_read :
    let s := (onRegs [(Reg.DMG0_CAPACITY, 1)] up).setMemGroup 0 { reads := [⟨0, 0, 0⟩] }
    (after (.memReadReturn 0 1) s).mem.lines = [] ∧
      (after (.memReadReturn 0 2) s).mem.lines = [(0, 3)] := by decide +kernel

/-! Commands with an operand at its bound are not well formed: one for each bound. -/

theorem test_wf_refuses_1 :
        [.registerWrite ⟨.p0, 0x1000000, 0, 15⟩, .registerWrite ⟨.p0, 0, 0, 16⟩, .rcRead .p0 0x1000000, .pageUnlock .p0
      4096, .pageLock .p0 4096 0, .pageLock .p0 0 65536, .softReset .p0 4096, .pageCommit .p0 4096, .intForce .p0 4096 0,
      .intRawClear .p0 4096 0, .errCaptureClear .p0 4096, .ethLinkDown 4, .asmDeadline 1024, .rtcpRrSend 1024, .ctxOpen .p0
      1024, .ctxClose .p0 1024, .ctxDrainDone 1024, .groupCfgWrite .p0 64 0, .groupCloseIncomplete 64, .followUpTimeout
      0x10000, .paramSetDecoded 1024 ⟨.main, 0, 1, 8, 8, 64, 64, 1, 0⟩, .sliceDecoded 32 ⟨0, false, 0⟩, .slicePreempt 32,
      .pictureComplete 1024 [], .coreTimeout 32, .depthPairTimeout 1024].all (fun c : Instr => !c.wf) = true := by decide

theorem test_wf_refuses_2 :
        [.sheetCommit .p0 64, .sheetClear .p0 64, .sheetAsmTimeout 64, .slotCfgWrite .p0 64 0, .layerSpaceCommit .p0 32 0,
      .layOwnerWrite .p0 2 0, .insetFlattenStart 32, .insetFlattenDone 32 true, .pageRead ⟨0x10000, 0, 0, [], 0⟩, .pageRead
      ⟨0, 0x100000000, 0, [], 0⟩, .pageRead ⟨0, 0, 0x10000, [], 0⟩, .pageRead ⟨0, 0, 0, [], 0x100000000⟩, .pageWrite
      ⟨0x10000, 0, 0, [], 0⟩, .pageWrite ⟨0, 0x100000000, 0, [], 0⟩, .pageWrite ⟨0, 0, 0x10000, [], 0⟩, .pageWrite ⟨0, 0, 0,
      [], 0x100000000⟩, .paneUpload ⟨0x10000, 0, 0, [], 0⟩, .paneUpload ⟨0, 0x100000000, 0, [], 0⟩, .paneUpload ⟨0, 0,
      0x10000, [], 0⟩, .paneUpload ⟨0, 0, 0, [], 0x100000000⟩, .paneCommit ⟨0x10000, 0, 0, [], 0⟩, .paneCommit ⟨0,
      0x100000000, 0, [], 0⟩, .paneCommit ⟨0, 0, 0x10000, [], 0⟩, .paneCommit ⟨0, 0, 0, [], 0x100000000⟩, .paneRead
      ⟨0x10000, 0, 0, [], 0⟩ 0 [], .paneRead ⟨0, 0x100000000, 0, [], 0⟩ 0 []].all (fun c : Instr => !c.wf) = true := by
      decide

theorem test_wf_refuses_3 :
        [.paneRead ⟨0, 0, 0x10000, [], 0⟩ 0 [], .paneRead ⟨0, 0, 0, [], 0x100000000⟩ 0 [], .heartbeat ⟨0x10000, 0, 0, [],
      0⟩, .heartbeat ⟨0, 0x100000000, 0, [], 0⟩, .heartbeat ⟨0, 0, 0x10000, [], 0⟩, .heartbeat ⟨0, 0, 0, [], 0x100000000⟩,
      .faultQuery ⟨0x10000, 0, 0, [], 0⟩, .faultQuery ⟨0, 0x100000000, 0, [], 0⟩, .faultQuery ⟨0, 0, 0x10000, [], 0⟩,
      .faultQuery ⟨0, 0, 0, [], 0x100000000⟩, .faultClear ⟨0x10000, 0, 0, [], 0⟩, .faultClear ⟨0, 0x100000000, 0, [], 0⟩,
      .faultClear ⟨0, 0, 0x10000, [], 0⟩, .faultClear ⟨0, 0, 0, [], 0x100000000⟩, .segmentDone 0 64 0 0 ⟨[], [], [], [], 0⟩,
      .segmentDone 0 0 8192 0 ⟨[], [], [], [], 0⟩, .lineMiss 64, .linePacketEnd 64, .segmentTimeout 32 0, .segmentTimeout 0
      33, .gcolRetire .p0 32 0, .bistPeriod 32, .engineBistDone 32 true, .gcolBistNow .p0 32 0, .retrainDone 64 0, .alignRow
      64].all (fun c : Instr => !c.wf) = true := by decide

theorem test_wf_refuses_4 :
        [.laneWake 64, .ackRx 64 0, .rmsgCap 64 true [], .rmsgModeAck 64 true 0 true, .rmsgSwapAck 64 true, .rmsgStatus 64
      ⟨true, 0, 0, 0, [], 0⟩, .bkTimeout 64, .bkLock 64 0, .bkLost 64 0, .bkSlip .p0 64 0, .laneErrWindow 64, .laneSwapWrite
      .p0 64 0, .trainTimeEnd 64, .discTimeout 64, .queuePush 65536 (.item 0), .queuePop 65536, .creditReturn 65536,
      .packetLengthWrite 65536 0 0, .queuePointerMismatch 65536, .queueResetDone 65536, .memRequest 5 0 0 none, .memRequest
      0 0 (2 ^ 40) none, .memReadReturn (2 ^ 40) 0, .refreshDue 128 true true, .srEntry 8, .srExit 8 []].all (fun c : Instr
      => !c.wf) = true := by decide

theorem test_wf_refuses_5 :
        [.periodicTrainDone 128 0 [], .patrolScrub 8 0 none, .migCopyDone 8 [], .migMapSwitch 8, .perstAssert 2, .pcieReady
      2 0 0, .flashProgramDone 4 0, .fuseRevoke .p0 4, .fuseAdvance .p0 128, .wearResetPort .p0 64, .calDone 4 0 0 [],
      .calRetry 4 0, .hkpThresholdWrite .p0 64 true 0, .smbReadChannel 128 0, .smbReadChannel 0 256, .smbReadStatus 128,
      .smbReadHottest 128, .smbReadThrottle 128, .smbReadHours 128, .smbReadSerial 128, .smbAlertResponse 128, .smbWrite 128
      0 [], .smbWrite 0 256 [], .dramWindowWrite .p0 16 0 0, .dramWindowWrite .p0 0 3 0, .gangwayGo .p0 4 true].all (fun c :
      Instr => !c.wf) = true := by decide

theorem test_wf_refuses_6 :
        [.gangwayAbort .p0 4, .gangwayDataWrite .p0 4 0 none, .gangwayDataRead .p0 4 true, .apertureWrite .p0 1048576 []
      true, .apertureRead .p0 1048576 0, .gangwayDone 4, .barUnsupported 2 true, .d3hotEntry 2, .functionLevelReset 2,
      .pcieLinkDown 2, .vecEoi .p0 2 0, .vecEoi .p0 0 64, .msixVectorUnmask 2 .d0, .trefclkLoss 8, .pcieRefclkLoss 2,
      .ethLinkUp 4, .perstRelease 2, .localStoreUe 32 0, .localStoreUe 0 33, .rankPowerDown 128, .trefclkReturn 8,
      .msixHoldoffEnd 2 0, .msixHoldoffEnd 0 64].all (fun c : Instr => !c.wf) = true := by decide

/-! What meets the hypotheses of the statements. -/

theorem test_witness_StepRunsTheCommandInFront :
    (∃ (s : State) (c : Instr) (rest : List Instr), s.pending = c :: rest) ∧
    (∃ (s : State), s.pending = []) :=
  ⟨⟨{ up with pending := [.claimWindowEnd, .phaseTick] }, .claimWindowEnd, [.phaseTick], by decide⟩,
  ⟨up, by decide⟩⟩

theorem test_witness_ResetState :
    ∃ (q : Nat), q < 2 :=
  ⟨1, by decide⟩

theorem test_witness_NoPendingVectorIsMissed :
    ∃ (s : State) (t : State), s.allSignalled ∧ step s = Host.Outcome.next t :=
  ⟨up, { up with clk := up.clk + 2, dtm := up.dtm.cycle up.dtmFreq }, by decide, rfl⟩

theorem test_witness_NewPendingVectorIsSignalled :
    ∃ (s : State) (q : Nat) (page : Nat) (v : W32) (vec : Nat), q < 2 ∧ s.allSignalled ∧ s.writable (domOfPort q) page ∧
      (s.page page).owner = domOfPort q ∧ v.toNat &&& intMask page &&& s.rd (Reg.INT_ENABLE page) ≠ 0 ∧ vec = (s.ep
      q).vector page ∧ ¬vec ∈ s.pendingVecs q ∧ ¬vec ∈ (s.ep q).heldBack :=
  ⟨onRegs [(Reg.INT_ENABLE (Page.PCI 1), 1)] up, 1, Page.PCI 1, 1, up.ep1.vector (Page.PCI 1), by decide⟩

theorem test_witness_HeaderCommandsAndTheirFrame :
    (∃ (s : State) (d : Dom) (page : Nat) (key : Nat), s.writable d page ∧ key % 65536 ≠ 0 ∧ key % 65536 ≠ 24231) ∧
    (∃ (s : State) (d : Dom) (page : Nat), s.writable d page) :=
  ⟨⟨up, .p0, Page.GRT, 0x5EA6, by decide⟩,
  ⟨up, .p1, Page.PCI 1, by decide⟩⟩

theorem test_witness_SoftResetAndPageCommit :
    (∃ (s : State) (d : Dom) (page : Nat), s.writable d page ∧ commitPage page = true ∧ page ≠ Page.LAY ∧ page ≠ Page.SIG) ∧
    (∃ (s : State) (d : Dom) (page : Nat), s.writable d page ∧ commitPage page = false) :=
  ⟨⟨up, .p0, Page.SEQ, by decide⟩,
  ⟨up, .s, Page.SFT, by decide⟩⟩

theorem test_witness_RegisterWriteHoldsTheWrittenBits :
    ∃ (s : State) (d : Dom) (a : Nat) (v : W32) (r : RegRow) (f : PageFam) (i : Nat), s.writable d (a / 4096) ∧ s.open a ∧
      a % 4 = 0 ∧ 64 ≤ a % 4096 ∧ rowAt a = some r ∧ (r.access = Access.rw ∨ r.access = Access.rwl) ∧ admits a v ∧
      famOfPage (a / 4096) = some (f, i) ∧ f ∈ [PageFam.glb, PageFam.haws, PageFam.irq, PageFam.sft, PageFam.eth,
      PageFam.wbk] :=
  ⟨up, .p0, Reg.ETH_MAX_FRAME 1, 1522, _, .eth, 1, by decide, by decide, by decide, by decide, rfl, by decide, by decide,
    rfl, by decide⟩

theorem test_witness_ReadsReturnTheValue :
    (∃ (s : State) (d : Dom) (a : Nat), a % 4 = 0 ∧ populated (a / 4096) = true ∧ (s.basicFor d = true → basicPage d (a /
      4096) = true) ∧ (s.basicFor d = false → s.mayRead d a = true) ∧ s.moor.hold = false ∧ (∀ (n : Nat), n < 4 → a ≠
      Reg.GWY_DATA n ∧ a ≠ Reg.GWY_DATA_HI n)) ∧
    (∃ (s : State) (d : Dom) (a : Nat), a % 4 = 0 ∧ populated (a / 4096) = true ∧ (s.basicFor d = true → basicPage d (a /
      4096) = true) ∧ (s.basicFor d = false → s.mayRead d a = true) ∧ s.moor.hold = false ∧ a = Reg.DTM_TIME_LO) :=
  ⟨⟨up, .p0, Reg.GRT_STATUS, by decide⟩,
  ⟨up, .p0, Reg.DTM_TIME_LO, by decide⟩⟩

theorem test_witness_RefusedWritesAreRecorded :
    (∃ (s : State) (w : RegWrite), w.addr % 4 = 0 ∧ populated (w.addr / 4096) = true ∧ s.moor.hold = false ∧ s.basicFor
      w.dom = false ∧ (s.page (w.addr / 4096)).owner ≠ w.dom) ∧
    (∃ (s : State) (w : RegWrite), w.addr % 4 = 0 ∧ populated (w.addr / 4096) = true ∧ s.moor.hold = false ∧ s.basicFor
      w.dom = false ∧ (s.page (w.addr / 4096)).owner = w.dom ∧ (w.addr % 4096 < 64 ∨ (rowAt w.addr).isSome = true) ∧
      s.running = false ∧ earlyPage (w.addr / 4096) = false) ∧
    (∃ (s : State) (w : RegWrite), w.addr % 4 = 0 ∧ populated (w.addr / 4096) = true ∧ s.moor.hold = false ∧ s.basicFor
      w.dom = false ∧ (s.page (w.addr / 4096)).owner = w.dom ∧ (w.addr % 4096 < 64 ∨ (rowAt w.addr).isSome = true) ∧
      (s.running = true ∨ earlyPage (w.addr / 4096) = true) ∧ w.be % 16 ≠ 15) ∧
    (∃ (s : State) (w : RegWrite), w.addr % 4 = 0 ∧ populated (w.addr / 4096) = true ∧ s.moor.hold = false ∧ s.basicFor
      w.dom = false ∧ (s.page (w.addr / 4096)).owner = w.dom ∧ (w.addr % 4096 < 64 ∨ (rowAt w.addr).isSome = true) ∧
      (s.running = true ∨ earlyPage (w.addr / 4096) = true) ∧ w.be % 16 = 15 ∧ ¬s.open w.addr) ∧
    (∃ (s : State) (w : RegWrite) (r : RegRow), w.addr % 4 = 0 ∧ populated (w.addr / 4096) = true ∧ s.moor.hold = false ∧
      s.basicFor w.dom = false ∧ (s.page (w.addr / 4096)).owner = w.dom ∧ (w.addr % 4096 < 64 ∨ (rowAt w.addr).isSome =
      true) ∧ (s.running = true ∨ earlyPage (w.addr / 4096) = true) ∧ w.be % 16 = 15 ∧ s.open w.addr ∧ 64 ≤ w.addr % 4096
      ∧ rowAt w.addr = some r ∧ (r.access = Access.rw ∨ r.access = Access.rwl) ∧ ¬admits w.addr w.value) :=
  ⟨⟨up, ⟨.p1, Reg.GRT_LEAD_IN, 1, 15⟩, by decide⟩,
  ⟨State.reset, ⟨.p0, Reg.GRT_LEAD_IN, 1, 15⟩, by decide⟩,
  ⟨up, ⟨.p0, Reg.GRT_LEAD_IN, 1, 14⟩, by decide⟩,
  ⟨up, ⟨.p0, 0x87400, 1, 15⟩, by decide⟩,
  ⟨up, ⟨.p0, Reg.ETH_MAX_FRAME 1, 0, 15⟩, _, by decide, by decide, by decide, by decide, by decide, by decide, by decide,
    by decide, by decide, by decide, rfl, by decide, by decide⟩⟩

theorem test_witness_FirstErrorIsCaptured :
    (∃ (s : State) (page : Nat) (code : Nat) (source : Nat), code < 2 ^ 16 ∧ source < 8 ∧ s.bitAt (Reg.ERR_CAPTURE0 page)
      31 = false) ∧
    (∃ (s : State) (page : Nat) (d : Dom), s.writable d page) :=
  ⟨⟨up, Page.GRT, 0xFFFF, 7, by decide⟩,
  ⟨up, Page.GRT, .p0, by decide⟩⟩

theorem test_witness_OwnershipAndDramWindows :
    (∃ (s : State) (d : Dom) (v : W32) (page : Nat) (o : Dom), s.writable d Page.DOM ∧ bit (v.toNat) 31 = true ∧ page =
      bits (v.toNat) 11 0 ∧ o = Dom.ofCode (bits (v.toNat) 13 12)) ∧
    (∃ (s : State) (d : Dom) (v : W32), s.writable d Page.DOM ∧ s.open Reg.DOM_LOCK_ALL ∧ bit (v.toNat) 0 = true) ∧
    (∃ (s : State) (d : Dom) (w : Nat), s.writable d Page.DOM ∧ w < 16) :=
  ⟨⟨up, .p0, 0x80001051, 0x051, .p1, by decide⟩,
  ⟨up.setPage Page.DOM { up.page Page.DOM with unlocked := true }, .p0, 1, by decide⟩,
  ⟨up, .p0, 15, by decide⟩⟩

theorem test_witness_GangwayTransfersStartAndEnd :
    (∃ (s : State) (n : Nat) (d : Dom), n < 4 ∧ s.writable d (Page.GWY n) ∧ s.gwyState n ≠ 1) ∧
    (∃ (s : State) (n : Nat) (d : Dom), n < 4 ∧ s.writable d (Page.GWY n) ∧ s.gwyState n = 1) ∧
    (∃ (s : State) (n : Nat), n < 4 ∧ s.gwyState n = 1 ∧ s.rd (Reg.GWY_MOVED n) = (s.gwyChan n).len ∧ (s.gwyChan n).buf =
      []) ∧
    (∃ (n : Nat), n < 4) ∧
    (∃ (s : State) (n : Nat) (f : Nat) (a : Nat) (b : Byte) (rest : List (Nat × Nat × Byte)), n < 4 ∧ (s.gwyChan n).buf =
      (f, a, b) :: rest ∧ a % 65536 = 0) :=
  ⟨⟨up, 3, .f, by decide⟩,
  ⟨onRegs [(Reg.GWY_STATUS 3, 1)] up, 3, .f, by decide⟩,
  ⟨onRegs [(Reg.GWY_STATUS 3, 1)] up, 3, by decide⟩,
  ⟨3, by decide⟩,
  ⟨up.setGwy 3 { buf := [(1, 0x10000, 7)] }, 3, 1, 0x10000, 7, [], by decide⟩⟩

theorem test_witness_GangwayData :
    (∃ (s : State) (n : Nat) (lo : W32) (c : Instr), n < 4 ∧ s.moor.hold = false ∧ (s.page (Page.GWY n)).owner =
      Dom.ofCode n ∧ s.running = true ∧ s.gwyDramUnit n false ∧ (c = Instr.gangwayDataWrite (Dom.ofCode n) n lo none ∨ n <
      2 ∧ c = Instr.apertureWrite (Dom.ofCode n) (65536 * n + s.rd (Reg.GWY_MOVED n) % 65536) (leBytes 4 (BitVec.toNat
      lo)) false)) ∧
    (∃ (s : State) (n : Nat) (c : Instr), n < 4 ∧ s.moor.hold = false ∧ (s.page (Page.GWY n)).owner = Dom.ofCode n ∧
      s.gwyDramUnit n true ∧ s.dramPoison (s.gwyChan n).addr 4 = false ∧ (c = Instr.gangwayDataRead (Dom.ofCode n) n false
      ∨ n < 2 ∧ c = Instr.apertureRead (Dom.ofCode n) (65536 * n + s.rd (Reg.GWY_MOVED n) % 65536) 4)) ∧
    (∃ (s : State) (n : Nat) (o : Nat), n < 4 ∧ s.moor.hold = false ∧ (s.page (Page.GWY n)).owner = Dom.ofCode n ∧ n < 2 ∧
      o < 65536 ∧ s.gwyState n = 1) ∧
    (∃ (s : State) (n : Nat) (o : Nat) (m : Nat), n < 4 ∧ s.moor.hold = false ∧ (s.page (Page.GWY n)).owner = Dom.ofCode n
      ∧ n < 2 ∧ o < 65536 ∧ m < 4 ∧ m ≠ n) ∧
    (∃ (s : State) (n : Nat), n < 4 ∧ s.moor.hold = false ∧ (s.page (Page.GWY n)).owner = Dom.ofCode n ∧ s.gwyState n = 1
      ∧ (s.gwyChan n).inc = false ∧ (s.gwyChan n).addr % 8 ≠ 0) :=
  ⟨⟨gwyUp false, 3, 5, _, by decide, by decide, by decide, by decide, by decide, .inl rfl⟩,
  ⟨gwyUp true, 0, _, by decide, by decide, by decide, by decide, by decide, .inl rfl⟩,
  ⟨gwyUp false, 1, 0xFFFC, by decide⟩,
  ⟨up, 1, 0xFFFC, 3, by decide⟩,
  ⟨gwyUp false, 3, by decide⟩⟩

theorem test_witness_EndpointEvents :
    (∃ (s : State) (q : Nat), q < 2 ∧ (s.ep q).perst = true) ∧
    (∃ (s : State) (q : Nat), q < 2 ∧ (s.ep q).perst = false ∧ (s.ep q).ready = false ∧ s.moor.pwrgoodAt ≠ none ∧
      s.moor.resetLow = false) ∧
    (∃ (q : Nat) (c : Instr), q < 2 ∧ (c = Instr.pcieLinkDown q ∨ c = Instr.pcieRefclkLoss q)) :=
  ⟨⟨up.setEp 1 { up.ep1 with perst := true }, 1, by decide⟩,
  ⟨{ up with moor := { up.moor with pwrgoodAt := some 0, resetLow := false } }, 1, by decide⟩,
  ⟨1, .pcieLinkDown 1, by decide⟩⟩

theorem test_witness_MessagesThatWaited :
    (∃ (s : State) (q : Nat) (v : Nat) (d : Dom), q < 2 ∧ v < 64 ∧ s.writable d (Page.PCI q) ∧ s.allSignalled ∧ v ∈
      s.pendingVecs q ∧ s.canSend q = true ∧ v ∈ (s.ep q).unmasked ∧ List.find? (fun x => decide (x.fst = v)) (s.ep
      q).lastMsg = none) ∧
    (∃ (s : State) (q : Nat) (v : Nat) (t0 : Nat), q < 2 ∧ v < 64 ∧ v ∈ (s.ep q).heldBack ∧ List.find? (fun x => decide
      (x.fst = v)) (s.ep q).lastMsg = some (v, t0) ∧ t0 + 1000 * s.rd (Reg.PCI_VEC_HOLDOFF q) ≤ s.clk ∧ s.canSend q = true
      ∧ v ∈ (s.ep q).unmasked ∧ s.allSignalled) ∧
    (∃ (s : State) (q : Nat) (v : Nat), q < 2 ∧ v < 64 ∧ s.allSignalled ∧ s.canSend q = true ∧ (s.ep q).pba = [v] ∧ ¬v ∈
      (s.ep q).unmasked ∧ v ∈ s.pendingVecs q ∧ List.find? (fun x => decide (x.fst = v)) (s.ep q).lastMsg = none) ∧
    (∃ (q : Nat) (v : Nat) (speed : Nat) (width : Nat), q < 2 ∧ v < 64 ∧ speed < 8 ∧ width < 32) :=
  ⟨⟨waitingVec [5], 1, 5, .p1, by decide⟩,
  ⟨heldVec, 1, 5, 0, by decide⟩,
  ⟨{ waitingVec [] with ep1 := { (waitingVec []).ep1 with pba := [5] } }, 1, 5, by decide⟩,
  ⟨1, 63, 7, 31, by decide⟩⟩

theorem test_witness_PtpMessagesReachTheDatum :
    (∃ (s : State) (m : PtpSync), s.ptpForeign m.hdr = false ∧ s.ptpUsed m.hdr = true ∧ s.dtmSource = 0 ∧ s.dtm.master =
      some m.hdr.src) ∧
    (∃ (s : State) (m : PtpFollowUp) (r : SyncRec), s.ptpForeign m.hdr = false ∧ s.ptpUsed m.hdr = true ∧ List.find? (fun
      x => decide (x.seq = m.hdr.seq) && decide (x.src = m.hdr.src)) s.dtm.syncWait = some r ∧ s.rxTime m.hdr.port m.stamp
      ≤ r.t2 + 1000000000) ∧
    (∃ (s : State) (seq : Nat), ∃ r, r ∈ s.dtm.syncWait ∧ r.seq = seq ∧ r.t2 + 1000000000 < (s.now : Int)) ∧
    (∃ (s : State), s.dtmEn = true ∧ s.dtmSource = 0 ∧ s.dtm.master ≠ none ∧ s.dtm.delayNext ≤ s.clk) ∧
    (∃ (s : State) (m : PtpDelayResp) (q : DelayReqRec) (r : SyncRec), s.ptpForeign m.hdr = false ∧ s.ptpUsed m.hdr = true
      ∧ s.dtmSource = 0 ∧ s.dtm.master = some m.hdr.src ∧ s.dtm.delayReq = some q ∧ q.seq = m.hdr.seq ∧ q.sync = some r) ∧
    (∃ (s : State) (m : PtpAnnounce), s.ptpForeign m.hdr = false ∧ s.ptpUsed m.hdr = true) ∧
    (∃ (s : State) (id : Nat) (f : ForeignMaster), s.dtm.master = some id ∧ List.find? (fun f ↦ decide (f.src = id))
      s.dtm.foreign = some f ∧ f.times.headD 0 + s.rd Reg.DTM_ANN_TIMEOUT * log2Ns f.ann.logInterval < s.clk) ∧
    (∃ (s : State) (at_ : Nat) (k : Int), s.dtm.lastSync = some (at_, k) ∧ s.dtmEn = true ∧ s.dtmSource = 0 ∧ at_ + 4 *
      log2Ns k < s.clk ∧ s.dtmState ≠ 0) :=
  ⟨⟨ptpUp, { hdr := hdr0, twoStep := true, t1 := 0, corr := 0, logInterval := 0, stamp := 0 }, by decide⟩,
  ⟨ptpUp, { hdr := hdr0, t1 := 0, corr := 0, stamp := 1000000000 }, sync0, by decide⟩,
  ⟨{ ptpUp with dtm := { ptpUp.dtm with time := 1000000001 } }, 3, sync0, by decide⟩,
  ⟨ptpUp, by decide⟩,
  ⟨ptpUp, { hdr := hdr0, t4 := 0, corr := 0, logMinDelayReq := 0 }, ⟨3, 0, some sync0⟩, sync0, by decide⟩,
  ⟨ptpUp, ann0, by decide⟩,
  ⟨{ ptpUp with clk := 3000000001 }, 7, ⟨7, ann0, [0]⟩, by decide⟩,
  ⟨{ onRegs [(Reg.DTM_STATUS, 2)] ptpUp with clk := 4000000001 }, 0, 0, by decide⟩⟩

theorem test_witness_DatumPinsAndTimers :
    (∃ (s : State) (highNs : Nat), 100 ≤ highNs ∧ (∀ (e : Nat), s.dtm.lastEdge = some e → e + 500000000 ≤ s.clk)) ∧
    (∃ (s : State) (e : Nat), s.dtmEn = true ∧ s.dtmSource = 1 ∧ s.dtmState ≠ 0 ∧ s.dtm.lastEdge = some e ∧ s.dtm.ppsSince
      = none ∧ e + 1500000000 < s.clk) ∧
    (∃ (s : State), s.bitAt Reg.DTM_PPS_OUT_CFG 0 = true ∧ s.dtmState ≠ 0 ∧ s.dtm.ppsOutLast ≠ some (((s.now : Int) -
      (s.rd Reg.DTM_PPS_OUT_OFFSET : Int)) / 1000000000)) ∧
    (∃ (s : State) (at_ : Nat), s.dtm.fsyncAt = some at_ ∧ at_ ≤ s.now) ∧
    (∃ (s : State) (at_ : Nat), s.dtm.approved = some at_ ∧ at_ + 34000000 ≤ s.clk) ∧
    (∃ (s : State), s.rd Reg.DTM_PHASE_PERIOD ≠ 0 ∧ s.dtm.phaseIdx < s.phaseIndex s.now) ∧
    (∃ (s : State) (at_ : Nat) (new : Nat), s.dtm.leapAt = some (at_, new) ∧ at_ ≤ s.now) :=
  ⟨⟨{ up with clk := 500000000, dtm := { up.dtm with lastEdge := some 0 } }, 100, by decide, fun _ h => Option.some.inj h
    ▸ (by decide)⟩,
  ⟨{ onRegs [(Reg.DTM_CTRL, 0x81), (Reg.DTM_STATUS, 2)] up with clk := 1500000001, dtm := { up.dtm with lastEdge := some 0
    } }, 0, by decide⟩,
  ⟨{ onRegs [(Reg.DTM_PPS_OUT_CFG, 1), (Reg.DTM_STATUS, 2)] up with dtm := { up.dtm with time := 1000000000 } }, by
    decide⟩,
  ⟨{ up with dtm := { up.dtm with time := 5, fsyncAt := some 5 } }, 5, by decide⟩,
  ⟨{ up with clk := 34000000, dtm := { up.dtm with approved := some 0 } }, 0, by decide⟩,
  ⟨{ onRegs [(Reg.DTM_PHASE_PERIOD, 4167000)] up with dtm := { up.dtm with time := 4167000 } }, by decide⟩,
  ⟨{ up with dtm := { up.dtm with time := 5, leapAt := some (5, 38) } }, 5, 38, by decide⟩⟩

theorem test_witness_DatumControlWrites :
    (∃ (s : State) (d : Dom) (v : W32), s.writable d Page.DTM ∧ bit (v.toNat) 0 = true) ∧
    (∃ (s : State) (d : Dom) (v : W32), s.writable d Page.DTM ∧ admits Reg.DTM_CTRL v) ∧
    (∃ (s : State) (d : Dom), s.writable d Page.DTM ∧ s.dtmState = 0) ∧
    (∃ (s : State) (d : Dom) (v : W32), s.writable d Page.DTM ∧ (v.toNat = 0 ∨ 4167000 ≤ v.toNat ∧ v.toNat ≤ 33333333)) ∧
    (∃ (s : State) (d : Dom) (v : W32), s.writable d Page.DTM ∧ (¬(v.toNat = 0 ∨ 4167000 ≤ v.toNat ∧ v.toNat ≤ 33333333)))
      :=
  ⟨⟨up, .p0, 1, by decide⟩,
  ⟨up, .p0, 0, by decide⟩,
  ⟨up, .p0, by decide⟩,
  ⟨up, .p0, 33333333, by decide⟩,
  ⟨up, .p0, 4166999, by decide⟩⟩

theorem test_witness_EthernetPortsAndReference :
    (∃ (s : State) (p : Nat), s.bitAt (Reg.ETH_STATUS p) 0 = true) ∧
    (∃ (s : State) (p : Nat), s.bitAt (Reg.ETH_CTRL p) 0 = true ∧ s.dtm.erefclk = true) ∧
    (∃ (s : State) (f : EthFrame) (i : Nat), s.passesR51 f ∧ f.dstPort ≠ 319 ∧ f.dstPort ≠ 320 ∧ s.bitAt Reg.ING_CTRL 0 =
      true ∧ ((if f.rtcp = true then s.matchRtcp f.port f.dstPort f.ssrc else s.matchCtx f.port f.dstPort f.ssrc) = some
      i)) ∧
    (∃ (s : State) (f : EthFrame), s.passesR51 f ∧ (f.dstPort = 319 ∨ f.dstPort = 320) ∧ ptpUnsupported f.ptpType = false)
      ∧
    (∃ (s : State) (f : EthFrame), s.bitAt (Reg.ETH_CTRL f.port) 0 = true ∧ s.shut = false ∧ f.fcsOk = false ∧ f.port < 4)
      :=
  ⟨⟨onRegs [(Reg.ETH_STATUS 3, 1)] up, 3, by decide⟩,
  ⟨onRegs [(Reg.ETH_CTRL 3, 1)] up, 3, by decide⟩,
  ⟨rtpUp, { frame0 with dstPort := 5001, rtcp := true }, 1023, by decide⟩,
  ⟨rtpUp, { frame0 with dstPort := 320, ptpType := 11 }, by decide⟩,
  ⟨rtpUp, { frame0 with fcsOk := false }, by decide⟩⟩

theorem test_witness_DatagramsMatchTheirContext :
    (∃ (s : State) (f : EthFrame) (i : Nat), s.passesR51 f ∧ f.dstPort ≠ 319 ∧ f.dstPort ≠ 320 ∧ s.bitAt Reg.ING_CTRL 0 =
      true ∧ f.rtcp = false ∧ f.port < 4 ∧ s.ctxState i = 1 ∧ s.ctxPortOk i f.port = true ∧ s.ctxF i 8 2 = f.dstPort ∧
      s.ctxF i 12 4 = f.ssrc ∧ (∀ (j : Nat), j ≠ i → s.ctxState j = 1 → s.ctxPortOk j f.port = true → s.ctxF j 8 2 =
      f.dstPort → s.ctxF j 12 4 ≠ f.ssrc)) ∧
    (∃ (s : State) (f : EthFrame), s.passesR51 f ∧ f.dstPort ≠ 319 ∧ f.dstPort ≠ 320 ∧ s.bitAt Reg.ING_CTRL 0 = true ∧
      f.rtcp = false ∧ f.port < 4 ∧ (∀ (i : Nat), s.ctxState i = 1 → s.ctxPortOk i f.port = true → s.ctxF i 8 2 =
      f.dstPort → s.ctxF i 12 4 ≠ f.ssrc)) ∧
    (∃ (s : State) (d : Dom) (c : Nat) (j : Nat) (p : Nat), s.writable d Page.ING ∧ c < 1024 ∧ j ≠ c ∧ s.ctxState j = 1 ∧
      s.ctxPortOk c p = true ∧ s.ctxPortOk j p = true ∧ s.ctxF c 8 2 = s.ctxF j 8 2 ∧ s.ctxF c 12 4 = s.ctxF j 12 4) :=
  ⟨⟨rtpUp, frame0, 1023, by decide, by decide, by decide, by decide, by decide, by decide, by decide, by decide, by
    decide, by decide, fun j hj hs => absurd (rtpUp_open j hs) hj⟩,
  ⟨rtpUp, { frame0 with ssrc := 8 }, by decide, by decide, by decide, by decide, by decide, by decide, fun i hs _ _ => by
    rw [rtpUp_open i hs]; decide⟩,
  ⟨withCtx 0 [(0, 4, 0x1E0), (8, 2, 5000), (0xC, 4, 7)] rtpUp, .p0, 0, 1023, 3, by decide⟩⟩

theorem test_witness_ContextsAndGroups :
    (∃ (s : State) (d : Dom) (c : Nat), s.writable d Page.ING ∧ c < 1024 ∧ s.ctxOpenCode c = 0) ∧
    (∃ (s : State) (d : Dom) (c : Nat), s.writable d Page.ING ∧ c < 1024 ∧ s.ctxOpenCode c ≠ 0) ∧
    (∃ (s : State) (d : Dom) (c : Nat), s.writable d Page.ING ∧ c < 1024 ∧ s.ctxState c = 1) ∧
    (∃ (s : State) (d : Dom) (c : Nat), s.writable d Page.ING ∧ c < 1024 ∧ s.ctxState c ≠ 1) ∧
    (∃ (s : State) (d : Dom) (c : Nat), s.writable d Page.ING ∧ s.ctxState c = 2 ∧ (s.ctx c).drained = true) ∧
    (∃ (s : State) (d : Dom) (g : Nat) (v : W32), s.writable d Page.ING ∧ g < 64 ∧ s.open (Reg.ING_GROUP_CFG g) ∧ admits
      (Reg.ING_GROUP_CFG g) v) ∧
    (∃ (s : State) (d : Dom) (g : Nat), s.writable d Page.ING ∧ (∃ x, x ∈ (s.group g).opens ∧ x.deadline < (s.now : Int)))
      :=
  ⟨⟨withCtx 0 ctxGood up, .p0, 0, by decide⟩,
  ⟨withCtx 1023 [(0x38, 4, 1)] up, .p0, 1023, by decide⟩,
  ⟨rtpUp, .p0, 1023, by decide⟩,
  ⟨up, .p0, 1023, by decide⟩,
  ⟨withCtx 1023 [(0x38, 4, 2)] up, .p0, 1023, by decide⟩,
  ⟨up, .p0, 63, 0x800003E8, by decide⟩,
  ⟨State.setGroup { up with dtm := { up.dtm with time := 1 } } 63 { opens := [⟨0, 0, 0, [], false, 0, 0⟩] }, .p0, 63, by
    decide, ⟨⟨0, 0, 0, [], false, 0, 0⟩, by decide⟩⟩⟩

theorem test_witness_RtpReception :
    (∃ (s : State) (p : RtpPkt) (i : Nat), s.bitAt Reg.ING_CTRL 0 = true ∧ s.shut = false ∧ s.matchCtx p.port p.udpPort
      p.ssrc = some i ∧ s.ctxType i ≤ 1 ∧ p.version = 2 ∧ p.pt = bits (s.ctxF i 7 1) 6 0 ∧ p.nalType < 50) ∧
    (∃ (s : State) (p : RtpPkt) (i : Nat), s.bitAt Reg.ING_CTRL 0 = true ∧ s.shut = false ∧ s.matchCtx p.port p.udpPort
      p.ssrc = some i ∧ s.ctxType i ≤ 1 ∧ (p.version ≠ 2 ∨ p.pt ≠ bits (s.ctxF i 7 1) 6 0)) ∧
    (∃ (s : State) (c : Nat) (u : AccessUnit) (r : List AccessUnit), (s.ctx c).aus = u :: r ∧ u.deadline < s.now) ∧
    (∃ (s : State) (r : RtcpSr) (i : Nat), s.bitAt Reg.ING_CTRL 0 = true ∧ s.shut = false ∧
      s.matchRtcp r.port r.udpPort r.ssrc = some i ∧ s.ctxType i ≤ 1 ∧ s.ctxTsMap i = 0 ∧ (s.ctx i).srMapped = false) ∧
    (∃ (s : State) (c : Nat) (port : Nat) (mac : Nat) (ip : Nat), s.shut = false ∧ (s.ctx c).src = some (port, mac, ip) ∧
      s.ctxState c = 1 ∧ bit (s.ctxF c 0 4) 9 = true ∧ s.ctxF c 10 2 ≠ 0 ∧ (s.ctx c).rrAt ≤ s.clk) :=
  ⟨⟨rtpUp, rtp0, 1023, by decide⟩,
  ⟨rtpUp, { rtp0 with version := 1 }, 1023, by decide⟩,
  ⟨State.setCtx { up with dtm := { up.dtm with time := 1 } } 5 { aus := [⟨0, 0, 0, [], 0, 0⟩] }, 5, ⟨0, 0, 0, [], 0, 0⟩,
    [], by decide⟩,
  ⟨rtpUp, ⟨3, 5001, 7, 0, 0, 0, 0, 0, 0⟩, 1023, by decide⟩,
  ⟨(withCtx 1023 [(0, 4, 0x3E0), (10, 2, 1)] rtpUp).setCtx 1023 { src := some (3, 0, 0) }, 1023, 3, 0, 0, by decide⟩⟩

theorem test_witness_DecoderEvents :
    (∃ (s : State) (c : Nat), s.ctxState c = 1 ∧ s.ctxType c ≤ 1) ∧
    (∃ (s : State) (core : Nat) (r : SliceResult) (i : Nat) (j : DecJob) (rest : List DecJob), s.shut = false ∧ (s.core
      core).run = some i ∧ (s.ctx i).jobs = j :: rest ∧ s.ctxState i = 1 ∧ s.ctxGen i = j.gen ∧ r.code = 0) ∧
    (∃ (s : State) (core : Nat) (i : Nat) (n : Nat), awf (fun _ => { }) s.ing.ctxs = true ∧ s.shut = false ∧ (s.core
      core).run = some i ∧ s.nextSlice core = some n ∧ s.ctxClass i ≠ 0 ∧ s.ctxClass n = 0) ∧
    (∃ (s : State) (core : Nat) (i : Nat) (j : DecJob) (y : SliceD) (ys : List SliceD) (rest : List DecJob), core < 32 ∧
      s.shut = false ∧ (s.core core).run = some i ∧ (s.ctx i).jobs = j :: rest ∧ j.slices = y :: ys ∧ s.rd
      Reg.DEC0_CORE_TIMEOUT * sliceNs y.samples < y.activeNs + (s.clk - (s.core core).since)) ∧
    (∃ (s : State) (c : Nat) (j : DecJob) (rest : List DecJob) (cap : Nat) (k : Nat) (p : SpsRec), s.shut = false ∧ (s.ctx
      c).jobs = j :: rest ∧ j.handed = some cap ∧ j.slices = [] ∧ s.ctxState c = 1 ∧ s.ctxGen c = j.gen ∧ j.slot = some k
      ∧ (s.ctx c).sps = some p) ∧
    (∃ (s : State) (c : Nat) (w : PairWait), List.find? (fun w ↦ decide (w.deadline < s.clk)) (s.ctx c).pairWait = some w)
      :=
  ⟨⟨rtpUp, 1023, by decide⟩,
  ⟨decUp, 31, ⟨0, false, 10⟩, 1023, job0, [], by decide⟩,
  ⟨decUp, 31, 1023, 5, by decide⟩,
  ⟨{ decUp with clk := 10 ^ 9 }, 31, 1023, job0, ⟨1, 64, 10, 0⟩, [], [], by decide⟩,
  ⟨decUp.setCtx 1023 { jobs := [{ job0 with slices := [], handed := some 0, slot := some 2 }], sps := some ⟨64, 64, 1, 8,
    1, 0⟩ }, 1023, { job0 with slices := [], handed := some 0, slot := some 2 }, [], 0, 2, ⟨64, 64, 1, 8, 1, 0⟩, by
    decide⟩,
  ⟨State.setCtx { up with clk := 1 } 1023 { pairWait := [⟨2, 0, 0⟩] }, 1023, ⟨2, 0, 0⟩, by decide⟩⟩

theorem test_witness_PanelMapAndModeRequest :
    (∃ (s : State) (d : Dom) (v : W32), s.writable d Page.SEQ ∧ bit (v.toNat) 31 = true ∧ s.bitAt Reg.SEQ_PMAP_STATUS 3 =
      false) ∧
    (∃ (s : State) (d : Dom) (v : W32), s.writable d Page.SEQ ∧ (bit (v.toNat) 31 = false ∨ s.bitAt Reg.SEQ_PMAP_STATUS 3
      = true)) ∧
    (∃ (s : State) (b : Nat), b < 2 ∧ s.seq.validating = some b ∧ s.seq.bootMap = false) ∧
    (∃ (s : State) (d : Dom) (v : W32), s.writable d Page.SEQ ∧ bit (v.toNat) 31 = true ∧ s.modeReqCode (v.toNat % 2) = 0)
      ∧
    (∃ (s : State) (d : Dom) (v : W32), s.writable d Page.SEQ ∧ bit (v.toNat) 31 = true ∧ s.modeReqCode (v.toNat % 2) ≠ 0)
      ∧
    (∃ (s : State) (l : Landing), s.active = some l ∧ s.seq.persist = true ∧ s.seq.hasMap = true) :=
  ⟨⟨up, .p0, 0x80000001, by decide⟩,
  ⟨onRegs [(Reg.SEQ_PMAP_STATUS, 8)] up, .p0, 0x80000001, by decide⟩,
  ⟨{ up with seq := { up.seq with validating := some 1 } }, 1, by decide⟩,
  ⟨onRegs [(Reg.SEQ_PMAP_STATUS, 4)] up, .p0, 0x80000001, by decide⟩,
  ⟨up, .p0, 0x80000001, by decide⟩,
  ⟨{ up with seq := { up.seq with persist := true, hasMap := true } }, .a, by decide⟩⟩

theorem test_witness_SheetCommitsAndTheirValidation :
    (∃ (s : State) (d : Dom) (k : Nat), k < 64 ∧ s.writable d Page.ATL ∧ s.sheetBit k 2 = false ∧ s.bitAt
      Reg.ATL_SHEET_STATUS 0 = false ∧ s.sheetEn k = true ∧ s.sheetUdp k = false ∧ s.sheetBit k 3 = false) ∧
    (∃ (s : State) (d : Dom) (k : Nat) (c : Instr), k < 64 ∧ s.writable d Page.ATL ∧ s.sheetBit k 2 = true ∧ c ∈
      [Instr.sheetCommit d k, Instr.sheetClear d k]) ∧
    (∃ (s : State) (k : Nat) (rest : List Nat), k < 64 ∧ s.atl.validating = k :: rest) ∧
    (∃ (s : State) (d : Dom) (k : Nat) (v : W32), k < 64 ∧ s.writable d Page.ATL ∧ (¬(bit (v.toNat) 0 = true ∧ bit
      (v.toNat) 1 = true ∧ ∃ j, j < 64 ∧ j ≠ k ∧ s.bitAt (Reg.ATL_SLOT_CFG j) 0 = true ∧ s.bitAt (Reg.ATL_SLOT_CFG j) 1 =
      true ∧ s.fld (Reg.ATL_SLOT_CFG j) 25 16 = bits (v.toNat) 25 16))) :=
  ⟨⟨{ up with force := [(Reg.ATL_SLOT_CFG 63, 1)] }, .p0, 63, by decide⟩,
  ⟨onRegs [(Reg.ATL_SLOT_STATE 63, 4)] up, .p0, 63, .sheetClear .p0 63, by decide⟩,
  ⟨{ up with atl := { up.atl with validating := [63, 0] } }, 63, [0], by decide⟩,
  ⟨up, .p0, 63, 1, by decide⟩⟩

theorem test_witness_AtlasFragmentsAndTheirTimeout :
    (∃ (s : State) (f : AtlasFrag) (i : Nat) (k : Nat), s.bitAt Reg.ING_CTRL 0 = true ∧ s.shut = false ∧ s.matchCtx f.port
      f.udpPort f.streamId = some i ∧ s.ctxType i = 2 ∧ s.sheetSlotOf i = some k ∧ s.fragOk f = true ∧ s.sheetBit k 2 =
      false ∧ s.sheetBit k 3 = false ∧ f.sheetSeq ∉ (s.sheetSlot k).dead ∧ (s.sheetSlot k).asm = none ∧ (s.sheetSlot
      k).lastDone = none ∧ s.sheetBase k (s.inactiveBank k) + f.fragOffset + f.data.length ≤ s.capacity) ∧
    (∃ (s : State) (f : AtlasFrag) (i : Nat), s.bitAt Reg.ING_CTRL 0 = true ∧ s.shut = false ∧ s.matchCtx f.port f.udpPort
      f.streamId = some i ∧ s.ctxType i = 2 ∧ (s.sheetSlotOf i = none ∨ s.fragOk f = false)) ∧
    (∃ (s : State) (k : Nat) (a : SheetAsm), k < 64 ∧ (s.sheetSlot k).asm = some a ∧ a.deadline ≤ s.clk ∧ a.complete =
      false) :=
  ⟨⟨atlUp, frag0, 1023, 63, by decide⟩,
  ⟨atlUp, { frag0 with version := 2 }, 1023, by decide⟩,
  ⟨up.setSheetSlot 63 { asm := some ⟨9, 64, [], 0, 0, 0, false⟩ }, 63, ⟨9, 64, [], 0, 0, 0, false⟩, by decide⟩⟩

theorem test_witness_LayerCommitsAndOwners :
    (∃ (s : State) (d : Dom) (v : W32), s.writable d Page.LAY ∧ bit (v.toNat) 0 = true ∧ s.rd Reg.LAY_COMMIT_MASK ≠ 0 ∧
      s.bitAt Reg.LAY_STATUS 0 = false ∧ (∀ (k : Nat), k ∈ maskLayers (s.rd Reg.LAY_COMMIT_MASK) → s.layerOwner k = d ∧
      s.layPending k = false)) ∧
    (∃ (s : State) (d : Dom) (v : W32), s.writable d Page.LAY ∧ bit (v.toNat) 0 = true ∧ s.rd Reg.LAY_COMMIT_MASK ≠ 0 ∧
      s.bitAt Reg.LAY_STATUS 0 = true) ∧
    (∃ (s : State) (d : Dom) (k : Nat) (m : W32), k < 32 ∧ s.layerOwner k = d ∧ BitVec.toNat m ≠ 0 ∧ s.bitAt
      Reg.LAY_STATUS 0 = false ∧ (∀ (j : Nat), j ∈ maskLayers (BitVec.toNat m) → s.layerOwner j = d ∧ s.layPending j =
      false)) ∧
    (∃ (s : State) (d : Dom) (k : Nat), k < 32 ∧ s.layerOwner k ≠ d) ∧
    (∃ (s : State) (c : LayerCheck), s.lay.check = some c) ∧
    (∃ (s : State) (d : Dom) (h : Nat), h < 2 ∧ s.writable d Page.LAY) :=
  ⟨⟨onRegs [(Reg.LAY_COMMIT_MASK, 0x80000000)] up, .p0, 1, by decide⟩,
  ⟨onRegs [(Reg.LAY_COMMIT_MASK, 0x80000000), (Reg.LAY_STATUS, 1)] up, .p0, 1, by decide⟩,
  ⟨up, .p0, 31, 0x80000000, by decide⟩,
  ⟨up, .p1, 31, by decide⟩,
  ⟨{ up with lay := { up.lay with check := some ⟨0x80000000, true, [], false⟩ } }, ⟨0x80000000, true, [], false⟩, by
    decide⟩,
  ⟨up, .p0, 1, by decide⟩⟩

theorem test_witness_InsetWritebackAndSignatureCommit :
    (∃ (s : State) (layer : Nat) (ls : List Nat), s.bitAt Reg.INS_CTRL 0 = true ∧ s.seq.hasMap = true ∧ s.insetSet layer =
      some ls ∧ (∀ (j : Nat), j ∈ ls → s.rd Reg.INS_STABLE_FRAMES ≤ (s.layer j).quiet) ∧ (∀ (x : FlatSet), x ∈ s.lay.sets
      → x.st ≠ 3 → ∀ (j : Nat), j ∈ x.members → ¬j ∈ ls)) ∧
    (∃ (s : State) (layer : Nat) (x : FlatSet), List.find? (fun x => decide (x.st = 0) && x.members.contains layer)
      s.lay.sets = some x) ∧
    (∃ (s : State) (d : Dom), s.writable d Page.INS ∧ s.open Reg.INS_FORCE_UNFLAT) ∧
    (∃ (s : State) (w : WbkFrame) (rest : List WbkFrame), s.lay.wbk = w :: rest ∧ w.buf < 3) ∧
    (∃ (s : State) (d : Dom) (v : W32), s.writable d Page.SIG ∧ bit (v.toNat) 0 = true ∧ s.sigBadRegion = none) ∧
    (∃ (s : State) (d : Dom) (v : W32) (r : Nat), s.writable d Page.SIG ∧ bit (v.toNat) 0 = true ∧ r < 16 ∧
      s.bitAt (Reg.SIGR_CFG r) 0 = true ∧ s.sigRegionOk (sigRect (fun a hi lo => s.fld a hi lo) r) = false) :=
  ⟨⟨insetUp, 31, [31], by decide⟩,
  ⟨{ up with lay := { up.lay with sets := [⟨[31], 1, 0, 0⟩] } }, 31, ⟨[31], 1, 0, 0⟩, by decide⟩,
  ⟨unlocked Page.INS, .p0, by decide⟩,
  ⟨{ up with lay := { up.lay with wbk := [⟨2, 7, 0, 0, 64, 64, 256, 0, 0, 0, 0, 0, (0, 0, 0, 0), fr0⟩] } }, ⟨2, 7, 0, 0, 64, 64, 256, 0, 0, 0, 0, 0, (0, 0, 0, 0), fr0⟩, [], by decide⟩,
  ⟨up, .p0, 1, by decide⟩,
  ⟨up.wr (Reg.SIGR_CFG 15) 1, .p0, 1, 15, by decide⟩⟩

theorem test_witness_CartoucheEvents :
    (∃ (s : State) (c : PaneCommit), s.cart.validating = some c) ∧
    (∃ (s : State) (r : Nat), s.cart.timer = some r ∧ r + 1000000 * s.rd Reg.CART_DEADLINE < s.clk ∧ s.cart.hbLate =
      false) ∧
    (∃ (s : State) (d : Dom) (v : W32), s.writable d Page.CART ∧ admits Reg.CART_DEADLINE v) ∧
    (∃ (s : State) (d : Dom) (v : W32), s.writable d Page.CART ∧ s.open Reg.CART_HB_RESYNC ∧ bit (v.toNat) 0 = true) ∧
    (∃ (s : State) (fs : Nat) (b : Nat), s.cart.check = some (fs, b)) ∧
    (∃ (s : State) (r : ProbeRun) (rest : List ProbeRun), s.cart.probes = r :: rest) :=
  ⟨⟨{ up with cart := { up.cart with validating := some ⟨1, 0, 0, 0, 0⟩ } }, ⟨1, 0, 0, 0, 0⟩, by decide⟩,
  ⟨{ onRegs [(Reg.CART_DEADLINE, 100)] up with clk := 100000001, cart := { up.cart with timer := some 0 } }, 0, by
    decide⟩,
  ⟨up, .s, 100, by decide⟩,
  ⟨unlocked Page.CART, .s, 1, by decide⟩,
  ⟨{ up with cart := { up.cart with check := some (7, 1) } }, 7, 1, by decide⟩,
  ⟨{ up with cart := { up.cart with probes := [⟨7, 0, false, 1, false⟩] } }, ⟨7, 0, false, 1, false⟩, [], by decide⟩⟩

theorem test_witness_SafetyPortFrames :
    (∃ (s : State) (f : SafetyFrame), frameComplete f = true ∧ frameCrcOk f = true ∧ s.safetyCheck f = 0 ∧ s.moor.hold =
      false ∧ f.cmd = 257 ∧ f.len = 4 ∧ (∀ (n : Nat), n < 4 → f.addr ≠ Reg.GWY_DATA n ∧ f.addr ≠ Reg.GWY_DATA_HI n) ∧
      s.mayRead Dom.s f.addr = true ∧ s.basicFor Dom.s = false) ∧
    (∃ (s : State) (f : SafetyFrame) (v : W32) (r : RegRow) (fam : PageFam) (i : Nat), frameComplete f = true ∧ frameCrcOk
      f = true ∧ s.safetyCheck f = 0 ∧ s.moor.hold = false ∧ f.cmd = 258 ∧ f.len = 4 ∧ f.payload = leBytes 4 (v.toNat) ∧
      s.writable Dom.s (f.addr / 4096) ∧ s.open f.addr ∧ 64 ≤ f.addr % 4096 ∧ rowAt f.addr = some r ∧ (r.access =
      Access.rw ∨ r.access = Access.rwl) ∧ admits f.addr v ∧ famOfPage (f.addr / 4096) = some (fam, i) ∧ fam ∈
      [PageFam.glb, PageFam.haws, PageFam.irq, PageFam.sft, PageFam.eth, PageFam.wbk]) ∧
    (∃ (s : State) (f : SafetyFrame), frameComplete f = true ∧ frameCrcOk f = true ∧ s.safetyCheck f = 0 ∧ s.moor.hold =
      false ∧ f.cmd = 513 ∧ f.payload.length = f.len ∧ s.paneLocked (f.addr / 2097152) = false) ∧
    (∃ (s : State) (f : SafetyFrame), frameComplete f = true ∧ frameCrcOk f = true ∧ s.safetyCheck f = 0 ∧ s.moor.hold =
      false ∧ f.cmd = 513 ∧ s.paneLocked (f.addr / 2097152) = true) ∧
    (∃ (s : State) (f : SafetyFrame), frameComplete f = true ∧ frameCrcOk f = true ∧ s.safetyCheck f = 0 ∧ s.moor.hold =
      false ∧ f.cmd = 514 ∧ s.bitAt Reg.CART_STATUS 3 = false) ∧
    (∃ (s : State) (f : SafetyFrame), frameComplete f = true ∧ frameCrcOk f = true ∧ s.safetyCheck f = 0 ∧ s.moor.hold =
      false ∧ f.cmd = 515 ∧ s.paneHurt f.addr f.len = false) ∧
    (∃ (s : State) (f : SafetyFrame), frameComplete f = true ∧ frameCrcOk f = true ∧ s.safetyCheck f = 0 ∧ s.moor.hold =
      false ∧ f.cmd = 769 ∧ s.hbAccepts f.addr = true) ∧
    (∃ (s : State) (f : SafetyFrame), frameComplete f = true ∧ frameCrcOk f = true ∧ s.safetyCheck f = 0 ∧ s.moor.hold =
      false ∧ f.cmd = 769 ∧ s.hbAccepts f.addr = false) ∧
    (∃ (s : State) (f : SafetyFrame), frameComplete f = true ∧ frameCrcOk f = true ∧ s.safetyCheck f = 0 ∧ s.moor.hold =
      false ∧ f.cmd = 1025) ∧
    (∃ (s : State) (f : SafetyFrame), frameComplete f = true ∧ frameCrcOk f = true ∧ s.safetyCheck f = 0 ∧ s.moor.hold =
      false ∧ f.cmd = 1026) ∧
    (∃ (s : State) (f : SafetyFrame) (corrected : Nat) (bad : List Nat) (c : Instr), c ∈ [Instr.pageRead f,
      Instr.pageWrite f, Instr.paneUpload f, Instr.paneCommit f, Instr.paneRead f corrected bad, Instr.heartbeat f,
      Instr.faultQuery f, Instr.faultClear f] ∧ frameComplete f = true ∧ frameCrcOk f = false ∧ s.moor.hold = false) ∧
    (∃ (f : SafetyFrame) (corrected : Nat) (bad : List Nat) (c : Instr), c ∈ [Instr.pageRead f, Instr.pageWrite f,
      Instr.paneUpload f, Instr.paneCommit f, Instr.paneRead f corrected bad, Instr.heartbeat f, Instr.faultQuery f,
      Instr.faultClear f] ∧ frameComplete f = false) :=
  ⟨⟨up, sft 0x0101 Reg.CART_STATUS 4 [], by decide +kernel⟩,
  ⟨unlocked Page.SFT, sft 0x0102 Reg.SFT_MISO_DRIVE 4 [1, 0, 0, 0], 1, _, .sft, 0, by decide, by decide +kernel, by
    decide, by decide, by decide, by decide, by decide, by decide, by decide, by decide, rfl, by decide, by decide, rfl,
    by decide⟩,
  ⟨up, sft 0x0201 0x3FFFFC 4 [1, 2, 3, 4], by decide +kernel⟩,
  ⟨onRegs [(Reg.CART_STATUS, 3)] up, sft 0x0201 0x3FFFFC 4 [1, 2, 3, 4], by decide +kernel⟩,
  ⟨up, sft 0x0202 0 12 [1, 0, 0, 0, 0, 0, 0, 0, 0, 0, 0, 0], by decide +kernel⟩,
  ⟨up, sft 0x0203 0x3FFFFC 4 [], by decide +kernel⟩,
  ⟨up, sft 0x0301 65535 0 [], by decide +kernel⟩,
  ⟨{ up with cart := { up.cart with hbAny := false } }, sft 0x0301 65535 0 [], by decide +kernel⟩,
  ⟨up, sft 0x0401 0 0 [], by decide +kernel⟩,
  ⟨up, sft 0x0402 0 4 [0xFF, 0, 0, 0], by decide +kernel⟩,
  ⟨up, ⟨0x0401, 0, 0, [], 0⟩, 0, [], .faultQuery ⟨0x0401, 0, 0, [], 0⟩, by decide +kernel⟩,
  ⟨⟨0x0402, 0, 4, [], 0⟩, 0, [], .faultClear ⟨0x0402, 0, 4, [], 0⟩, by decide +kernel⟩⟩

theorem test_witness_EngineRetirement :
    (∃ (s : State) (col : Nat) (e : Nat) (f : FrameSt) (r : Nat × LineRun) (x : SegRun), col < 32 ∧ e ≤ 32 ∧ s.retired col
      e = false ∧ f ∈ s.seq.frames ∧ r ∈ f.rows ∧ x ∈ r.snd.segs ∧ x.col = col ∧ x.engine = some e ∧ x.words = none ∧
      x.start + 4 * f.tL < s.clk) ∧
    (∃ (s : State) (col : Nat) (e : Nat), col < 32 ∧ e ≤ 32 ∧ s.retired col e = false ∧ (s.col col).spare = some e ∧
      (s.col col).testing = true) ∧
    (∃ (s : State) (col : Nat) (e : Nat) (d : Dom) (v : W32), col < 32 ∧ e ≤ 32 ∧ s.retired col e = false ∧ s.writable d
      (Page.GCOL col) ∧ s.open (Reg.GCOL_RETIRE col) ∧ bit (v.toNat) 31 = true ∧ bits (v.toNat) 5 0 = e) :=
  ⟨⟨{ onFrame { fr0 with rows := [(rowKey 0 0, { segs := [seg0] })] } with clk := 4001 }, 31, 32, { fr0 with rows :=
    [(rowKey 0 0, { segs := [seg0] })] }, (rowKey 0 0, { segs := [seg0] }), seg0, by decide⟩,
  ⟨spareUp, 31, 32, by decide⟩,
  ⟨unlocked (Page.GCOL 31), 31, 32, .p0, 0x80000020, by decide⟩⟩

theorem test_witness_ColumnTestsAndAssignment :
    (∃ (s : State) (col : Nat) (e : Nat), (s.col col).spare = some e ∧ s.rd Reg.GRT_BIST_PERIOD ≠ 0 ∧ (s.col col).bistFrom
      + 60000000000 * s.rd Reg.GRT_BIST_PERIOD ≤ s.clk) ∧
    (∃ (s : State) (col : Nat) (e : Nat), col < 32 ∧ (s.col col).spare = some e ∧ (s.col col).testing = true) ∧
    (∃ (s : State) (d : Dom) (col : Nat) (v : W32), col < 32 ∧ s.writable d (Page.GCOL col) ∧ s.open (Reg.GCOL_BIST_NOW
      col) ∧ bit (v.toNat) 0 = true) ∧
    (∃ (s : State) (d : Dom) (v : W32), s.writable d Page.GRT ∧ s.open Reg.GRT_REBALANCE ∧ bit (v.toNat) 0 = true ∧ bit
      (v.toNat) 1 = false ∧ s.seq.hasMap = true) ∧
    (∃ (s : State) (d : Dom) (v : W32), s.writable d Page.GRT ∧ s.open Reg.GRT_REBALANCE ∧ bit (v.toNat) 0 = true ∧
      s.seq.hasMap = false) :=
  ⟨⟨{ onRegs [(Reg.GRT_BIST_PERIOD, 1)] spareUp with clk := 60000000000 }, 31, 32, by decide⟩,
  ⟨spareUp, 31, 32, by decide⟩,
  ⟨unlocked (Page.GCOL 31), .p0, 31, 1, by decide⟩,
  ⟨{ unlocked Page.GRT with seq := { up.seq with hasMap := true } }, .p0, 1, by decide⟩,
  ⟨unlocked Page.GRT, .p0, 3, by decide⟩⟩

theorem test_witness_FramesInFlight :
    (∃ (s : State) (fs : Nat) (slot : Nat) (f : FrameSt), s.frameOf fs = some f ∧ f.nextSlot = slot ∧ slot < f.lines ∧
      f.slotStart slot ≤ s.clk ∧ s.shut = false) ∧
    (∃ (s : State) (fs : Nat) (port : Nat) (line : Nat) (seg : Nat) (f : FrameSt) (r : LineRun) (x : SegRun) (e : Nat) (j
      : Nat) (z : SegRun), s.frameOf fs = some f ∧ f.row (rowKey port line) = some r ∧ r.segs[seg]? = some x ∧ x.engine =
      some e ∧ x.words = none ∧ r.segs[j]? = some z ∧ j ≠ seg ∧ z.words = none) ∧
    (∃ (s : State) (port : Nat) (f : FrameSt) (n : Nat), port ∈ s.portsOn ∧ s.dueLine port = some (f, n) ∧ lineDeadline
      (s.pmapLe f.map) f port n < s.clk) ∧
    (∃ (s : State) (port : Nat), (s.tile port).inPacket = true) ∧
    (∃ (s : State) (fs : Nat) (f : FrameSt), s.frameOf fs = some f ∧ f.synth = false ∧ s.allLines f = true) :=
  ⟨⟨onFrame fr0, 7, 0, fr0, by decide⟩,
  ⟨onFrame { fr0 with rows := [(rowKey 63 0, { segs := [seg0, seg0] })] }, 7, 63, 0, 1, { fr0 with rows := [(rowKey 63 0,
    { segs := [seg0, seg0] })] }, { segs := [seg0, seg0] }, seg0, 32, 0, seg0, by decide⟩,
  ⟨{ onMap (onFrame { fr0 with nextSlot := 1 }) with clk := 10 ^ 9 }, 63, { fr0 with nextSlot := 1 }, 0, by decide⟩,
  ⟨up.setTile 63 { inPacket := true }, 63, by decide⟩,
  ⟨onMap (onFrame { fr0 with rows := [(rowKey 63 0, { segs := [], complete := true })] }), 7, { fr0 with rows := [(rowKey
    63 0, { segs := [], complete := true })] }, by decide⟩⟩

theorem test_witness_FrameGates :
    (∃ (s : State), s.moor.held = [] ∧ s.gatesRun = true ∧ s.seq.started = true ∧ s.crossGateDue = false ∧ s.crossDue =
      false ∧ s.gateReady = true) ∧
    (∃ (s : State), s.moor.held = [] ∧ s.gatesRun = true ∧ s.seq.started = true ∧ s.crossGateDue = false ∧ s.crossDue =
      false ∧ s.gateReady = false ∧ s.gateMax = true ∧ s.forceSeen = false) ∧
    (∃ (s : State) (d : Dom) (v : W32), s.moor.held = [] ∧ s.gatesRun = true ∧ s.seq.started = true ∧ s.crossGateDue =
      false ∧ s.crossDue = false ∧ s.writable d Page.SEQ ∧ s.open Reg.SEQ_GATE_FORCE ∧ bit (v.toNat) 0 = true) :=
  ⟨⟨gateUp, by decide⟩,
  ⟨{ gateUp with force := [(Reg.SEQ_GATE_CFG, 1)] }, by decide⟩,
  ⟨{ (unlocked Page.SEQ) with seq := gateUp.seq }, .p0, 1, by decide⟩⟩

theorem test_witness_FrameCounterAndItsComparison :
    (∃ (s : State), s.rd Reg.SEQ_FRAME_SEQ = 4294967295) ∧
    (∃ (a : Nat) (b : Nat), a < 2 ^ 32 ∧ b < 2 ^ 32) :=
  ⟨⟨onRegs [(Reg.SEQ_FRAME_SEQ, 4294967295)] up, by decide⟩,
  ⟨0x80000000, 0, by decide⟩⟩

theorem test_witness_ModeCrossing :
    (∃ (s : State), s.moor.held = [] ∧ s.gatesRun = true ∧ s.seq.started = true ∧ s.crossDue = true ∧ s.tEarly ≤
      s.elapsed) ∧
    (∃ (s : State) (b : Nat) (at_ : Nat) (l : Landing), s.moor.held = [] ∧ b < 2 ∧ s.seq.switch = some (b, false, at_) ∧
      s.active = some l ∧ s.visible at_ = true ∧ s.seq.hasMap = true ∧ s.crossing = true ∧ s.oldLinesDone = true) ∧
    (∃ (s : State) (p : Nat), s.moor.held = [] ∧ p ∈ s.seq.retrain ∧ (∃ q, q ∈ s.seq.retrain ∧ q ≠ p)) ∧
    (∃ (s : State) (at_ : Nat), s.moor.held = [] ∧ s.seq.crossApplied = some at_ ∧ at_ + 1000000 * s.rd
      Reg.SEQ_RETRAIN_LIMIT ≤ s.clk ∧ s.seq.retrain ≠ []) :=
  ⟨⟨{ onRegs [(Reg.SEQ_MODE_STATUS, 2)] gateUp with clk := 28, seq := { gateUp.seq with switch := some (1, false, 0) } },
    by decide, by decide, by decide, (Bool.and_eq_true _ _).mpr ⟨visible_late _ _ (by decide), by decide⟩, by decide⟩,
  ⟨{ onRegs [(Reg.SEQ_MODE_STATUS, 4)] gateUp with clk := 28, seq := { gateUp.seq with switch := some (1, false, 0) } },
    1, 0, .a, by decide, by decide, by decide, by decide, visible_late _ _ (by decide), by decide, by decide, by decide⟩,
  ⟨{ up with seq := { up.seq with retrain := [0, 63] } }, 63, by decide, by decide, ⟨0, by decide⟩⟩,
  ⟨{ up with clk := 10 ^ 10, seq := { up.seq with crossApplied := some 0, retrain := [63] } }, 0, by decide⟩⟩

theorem test_witness_TilePortDiscovery :
    (∃ (s : State) (d : Dom) (v : W32), s.writable d Page.TLG ∧ bit (v.toNat) 0 = true ∧ s.bitAt Reg.TLG_DISC_STATUS 0 =
      false) ∧
    (∃ (s : State) (p : Nat), (s.tile p).phase = 1 ∧ (s.tile p).trainFrom + 1000000 * s.rd Reg.TLG_TRAIN_TIME ≤ s.clk ∧ ¬p
      / 8 ∈ s.link.noRef) ∧
    (∃ (s : State) (p : Nat), p < 64 ∧ (s.tile p).phase = 2) ∧
    (∃ (s : State) (p : Nat), p < 64 ∧ (s.tile p).phase = 3) ∧
    (∃ (s : State) (p : Nat), p < 64 ∧ s.inDisc p = true ∧ (s.tile p).runFrom + 30000000 ≤ s.clk ∧ ¬p ∈ s.link.waiting) ∧
    (∃ (s : State), s.rd Reg.TLG_REDISCOVER ≠ 0 ∧ s.link.rediscAt + 1000000000 * s.rd Reg.TLG_REDISCOVER ≤ s.clk ∧ s.bitAt
      Reg.TLG_DISC_STATUS 0 = false ∧ s.link.single = none) ∧
    (∃ (m : Nat), m < 8) :=
  ⟨⟨up, .p0, 1, by decide⟩,
  ⟨{ up.setTile 63 { phase := 1 } with clk := 10 ^ 10 }, 63, by decide⟩,
  ⟨up.setTile 63 { phase := 2 }, 63, by decide⟩,
  ⟨up.setTile 63 { phase := 3 }, 63, by decide⟩,
  ⟨{ up.setTile 63 { phase := 3 } with clk := 30000000 }, 63, by decide⟩,
  ⟨{ onRegs [(Reg.TLG_REDISCOVER, 1)] up with clk := 1000000000 }, by decide⟩,
  ⟨7, by decide⟩⟩

theorem test_witness_TilePortTraffic :
    (∃ (s : State) (p : Nat), p < 64 ∧ s.tx p ≠ 0) ∧
    (∃ (s : State) (p : Nat) (n : Nat), p < 64 ∧ (s.tx p = 2 ∧ n = 32 ∨ s.tx p = 1 ∧ n = 512)) ∧
    (∃ (p : Nat) (r : Nat), p < 64 ∧ (r = 1 ∨ r = 2)) ∧
    (∃ (p : Nat) (block : List Byte) (modeId : Nat) (accept : Bool) (c : Instr), p < 64 ∧ c ∈ [Instr.rmsgSwapAck p false,
      Instr.rmsgCap p false block, Instr.rmsgModeAck p false modeId accept]) ∧
    (∃ (p : Nat) (st : TileStatus), p < 64 ∧ st.crcOk = true) ∧
    (∃ (s : State) (p : Nat), p < 64 ∧ (s.tile p).trained = true ∧ (s.tile p).statusAt + 5000000 < s.clk ∧ s.bkQuiet p =
      false ∧ s.bitAt (Reg.TP_STATUS p) 10 = false) ∧
    (∃ (s : State) (p : Nat), p < 64 ∧ s.bitAt (Reg.TP_BK_STATUS p) 0 = true ∧ s.bkQuiet p = false) ∧
    (∃ (s : State) (p : Nat) (d : Dom) (v : W32), p < 64 ∧ s.writable d (Page.TP p) ∧ bit (v.toNat) 0 = true) ∧
    (∃ (s : State) (p : Nat), p < 64 ∧ (s.tile p).trained = true ∧ (s.tile p).winFrom + 1000000 * s.fld
      (Reg.TP_LANE_ERR_LIMIT p) 31 16 ≤ s.clk) ∧
    (∃ (s : State) (p : Nat) (d : Dom) (v : W32) (i : Nat), p < 64 ∧ s.writable d (Page.TP p) ∧ s.open (Reg.TP_LANE_SWAP
      p) ∧ bit (v.toNat) 31 = true ∧ (s.tile p).spareOk = true ∧ s.logicalOf p (v.toNat % 16) = some i ∧ ¬v.toNat % 16 ∈
      (s.tile p).retired) :=
  ⟨⟨onRegs [(Reg.TP_STATUS 63, 1)] up, 63, by decide⟩,
  ⟨onRegs [(Reg.TP_STATUS 63, 1)] up, 63, 512, by decide⟩,
  ⟨63, 2, by decide⟩,
  ⟨63, [], 0, true, .rmsgModeAck 63 false 0 true, by decide⟩,
  ⟨63, ⟨true, 0, 0, 0, [], 0⟩, by decide⟩,
  ⟨{ up.setTile 63 { trained := true } with clk := 5000001 }, 63, by decide⟩,
  ⟨onRegs [(Reg.TP_BK_STATUS 63, 1)] up, 63, by decide⟩,
  ⟨up, 63, .p0, 1, by decide⟩,
  ⟨{ up.setTile 63 { trained := true } with clk := 10 ^ 12 }, 63, by decide⟩,
  ⟨(unlocked (Page.TP 63)).setTile 63 { spareOk := true }, 63, .p0, 0x80000000, 0, by decide⟩⟩

theorem test_witness_LinkCodingRoundTrips :
    (∃ (l : List Bool) (p : Nat), p < l.length) ∧
    (∃ (bs : List Nat) (i : Nat), i < bs.length) ∧
    (∃ (bit10 : Bool) (u : Nat) (v : Nat) (k : Nat) (hs : List (List Nat)), k < 64 ∧ (∀ (ws : List Nat), ws ∈ hs →
      ws.length = u * v ∧ ∀ (w : Nat), w ∈ ws → w < 2 ^ rayWidth bit10)) :=
  ⟨⟨[true], 0, by decide⟩,
  ⟨[0, 1], 1, by decide⟩,
  ⟨true, 1, 2, 63, [[1, 2]], by decide⟩⟩

theorem test_witness_DualClockQueues :
    (∃ (s : State) (q : Nat) (n : Nat), s.queueDepth q = some n ∧ (s.queue q).resetting = false ∧ (s.queue q).spent < n) ∧
    (∃ (s : State) (q : Nat) (n : Nat), s.queueDepth q = some n ∧ n ≤ (s.queue q).spent) ∧
    (∃ (s : State) (q : Nat) (n : Nat) (v : Nat) (l : List QueueEntry), (s.queue q).resetting = false ∧ (s.queue
      q).entries = QueueEntry.item v n :: l ∧ n < s.clk) ∧
    (∃ (s : State) (q : Nat), (s.queue q).entries = []) ∧
    (∃ (s : State) (q : Nat) (n : Nat), (s.queue q).returning = n + 1) ∧
    (∃ (s : State) (q : Nat) (w : W32) (m : Nat) (b : List Nat) (d : Bool) (l : List QueueEntry), bit (BitVec.toNat w) 31
      = true ∧ (s.queue q).entries = QueueEntry.packet m b none d :: l) ∧
    (∃ (s : State) (q : Nat) (n : Nat), s.queueDepth q = some n ∧ s.queueStopped q = false ∧ s.moor.held = []) ∧
    (∃ (s : State) (q : Nat), (s.queue q).resetting = true) :=
  ⟨⟨up.setQueue 0x020 { spent := 7 }, 0x020, 8, by decide⟩,
  ⟨up.setQueue 0x020 { spent := 8 }, 0x020, 8, by decide⟩,
  ⟨{ up.setQueue 0x020 { entries := [.item 5 0] } with clk := 1 }, 0x020, 0, 5, [], by decide⟩,
  ⟨up, 0x020, by decide⟩,
  ⟨up.setQueue 0x020 { returning := 1 }, 0x020, 0, by decide⟩,
  ⟨up.setQueue 0x020 { entries := [.packet 4 [1] none false] }, 0x020, 0x80000001, 4, [1], false, [], by decide⟩,
  ⟨up, 0x020, 8, by decide⟩,
  ⟨up.setQueue 0x020 { resetting := true }, 0x020, by decide⟩⟩

theorem test_witness_MemoryRequestsAndReturns :
    (∃ (s : State) (addr : Nat), addr < s.capacity) ∧
    (∃ (s : State) (addr : Nat) (bs : List Byte), bs ≠ [] ∧ addr % 64 + bs.length ≤ 64 ∧ addr + bs.length ≤ s.capacity) ∧
    (∃ (s : State) (addr : Nat), s.capacity ≤ addr) ∧
    (∃ (s : State) (addr : Nat) (x : MemRead), addr < s.capacity ∧ x ∈ (s.memGroup (s.home addr).fst).reads ∧ x.line =
      addr / 64) :=
  ⟨⟨onRegs [(Reg.DMG0_CAPACITY, 1)] up, 1048575, by decide⟩,
  ⟨onRegs [(Reg.DMG0_CAPACITY, 1)] up, 1048575, [1], by decide⟩,
  ⟨onRegs [(Reg.DMG0_CAPACITY, 1)] up, 1048576, by decide⟩,
  ⟨(onRegs [(Reg.DMG0_CAPACITY, 1)] up).setMemGroup 0 { reads := [⟨0, 0, 0⟩] }, 63, ⟨0, 0, 0⟩, by decide⟩⟩

theorem test_witness_RankUpkeep :
    (∃ (s : State) (r : Nat), r < 128 ∧ s.selfRefresh (r / 16) = false ∧ 3904 ≤ (s.clk - (s.rank r).refAt) * 2 ^ s.refMul
      r ∧ s.refDebt r < s.debtLimit r) ∧
    (∃ (s : State) (p : Mr4Poll), p.rank < 128 ∧ p.rate < 3 ∧ s.ram.pollAt + 16000000 ≤ s.clk ∧ s.selfRefresh (p.rank /
      16) = false) ∧
    (∃ (s : State) (g : Nat), g < 8 ∧ s.selfRefresh g = false ∧ (s.memGroup g).lastReq + 1000 * s.rd (Reg.DMG_SR_IDLE g) ≤
      s.clk ∧ (∀ (k : Nat), k < 16 → s.refDebt (16 * g + k) = 0) ∧ 2000 + 1000 * s.rd (Reg.DMG_SR_MARGIN g) < s.tEff ∧
      (s.memGroup g).mig = none ∧ s.groupTraining g = false ∧ s.bitAt (Reg.DMG_SR_DISABLE g) 0 = false) ∧
    (∃ (s : State) (g : Nat), g < 8 ∧ s.selfRefresh g = true ∧ ((s.memGroup g).wake = true ∨ s.tEff ≤ 2000 + 1000 * s.rd
      (Reg.DMG_SR_MARGIN g))) ∧
    (∃ (s : State) (r : Nat), r < 128 ∧ (s.rank r).powerDown = false ∧ s.selfRefresh (r / 16) = false ∧ 256000 ≤ (s.clk -
      (s.rank r).lastUse) * s.rd Reg.DMG0_DATA_RATE) ∧
    (∃ (s : State) (r : Nat), r < 128 ∧ s.bitAt (Reg.DCH_STATUS (chanOf r).fst) 2 = true ∧ s.switching = false ∧
      s.crossing = false ∧ (s.memGroup (r / 16)).mig = none ∧ ¬192 + (chanOf r).fst ∈ s.bmk.running) :=
  ⟨⟨{ up with clk := 3904 }, 127, by decide⟩,
  ⟨{ up with clk := 16000000 }, ⟨127, 0, 2⟩, by decide⟩,
  ⟨{ onRegs [(Reg.DMG0_LAT_TOL, 10 ^ 9)] up with clk := 10 ^ 10 }, 7, by decide⟩,
  ⟨onRegs [(Reg.DMG_STATUS 7, 4)] up, 7, by decide⟩,
  ⟨{ onRegs [(Reg.DMG0_DATA_RATE, 1)] up with clk := 256000 }, 127, by decide⟩,
  ⟨onRegs [(Reg.DCH_STATUS 63, 4)] up, 127, by decide⟩⟩

theorem test_witness_ScrubbingAndMigration :
    (∃ (s : State) (g : Nat), g < 8 ∧ s.patrolOn g = true ∧ (s.memGroup g).visited < 15 * s.rankLines) ∧
    (∃ (s : State), s.bitAt Reg.RAS_CTRL 0 = true ∧ s.ram.scrubFrom + 3600000000000 * s.ram.scrubHours ≤ s.clk) ∧
    (∃ (s : State) (d : Dom) (v : W32) (r : Nat) (g : Nat), s.writable d Page.RAS ∧ s.open Reg.RAS_MIG_CMD ∧ bit (v.toNat)
      31 = true ∧ r = v.toNat % 128 ∧ g = r / 16 ∧ s.migRefused r = false ∧ (s.rank r).inPlace = false ∧ s.crossing =
      false) ∧
    (∃ (s : State) (d : Dom) (v : W32), s.writable d Page.RAS ∧ s.open Reg.RAS_MIG_CMD ∧ bit (v.toNat) 31 = true ∧
      s.migRefused (v.toNat % 128) = true) ∧
    (∃ (s : State) (g : Nat) (x : Migration), (s.memGroup g).mig = some x ∧ x.copied = false) ∧
    (∃ (s : State) (g : Nat) (x : Migration), g < 8 ∧ (s.memGroup g).mig = some x ∧ x.copied = true ∧ x.slot < 15 ∧ 1000 *
      s.rd (Reg.DMG_RT_URGENT g) ≤ s.tEff) ∧
    (∃ (s : State) (d : Dom) (v : W32), s.writable d Page.RAS ∧ s.open Reg.RAS_INJECT_HI ∧ admits Reg.RAS_INJECT_HI v) ∧
    (∃ (s : State) (d : Dom), s.writable d Page.RAS ∧ s.open Reg.RAS_INJECT_LO) :=
  ⟨⟨onRegs [(Reg.RAS_CTRL, 1), (Reg.DMG0_CAPACITY, 1)] up, 7, by decide⟩,
  ⟨{ onRegs [(Reg.RAS_CTRL, 1)] up with clk := 86400000000000 }, by decide⟩,
  ⟨onRegs [(Reg.DMG_RANK_MAP_LO 7, 15)] (unlocked Page.RAS), .p0, 0x8000007F, 127, 7, by decide⟩,
  ⟨(unlocked Page.RAS).setRank 127 { out := true }, .p0, 0x8000007F, by decide⟩,
  ⟨up.setMemGroup 7 { mig := some ⟨0, 127, false⟩ }, 7, ⟨0, 127, false⟩, by decide⟩,
  ⟨(onRegs [(Reg.DMG0_LAT_TOL, 10 ^ 9)] up).setMemGroup 7 { mig := some ⟨14, 127, true⟩ }, 7, ⟨14, 127, true⟩, by decide⟩,
  ⟨unlocked Page.RAS, .p0, 0xA00000FF, by decide⟩,
  ⟨unlocked Page.RAS, .p0, by decide⟩⟩

theorem test_witness_HeartbeatsAndMisses :
    (∃ (s : State) (l : Landing), s.beats l = true) ∧
    (∃ (s : State) (l : Landing) (mail : Bool), s.beats l = true ∧ ((if mail = true then (s.land l).hbMail else (s.land
      l).hbHaws) + 55000 ≤ s.clk)) :=
  ⟨⟨up, .b, by decide⟩,
  ⟨{ up with clk := 55000 }, .b, true, by decide⟩⟩

theorem test_witness_LeasesClaimsAndFences :
    (∃ (s : State) (l : Landing) (t0 : Nat), s.moor.held = [] ∧ (s.land l).lease = some t0 ∧ t0 + 200000 ≤ s.clk) ∧
    (∃ (s : State) (l : Landing), s.moor.held = [] ∧ s.beats l = true ∧ s.landState l ≠ 5 ∧ ((s.land l).noClaim = false ∨
      s.holder ≠ some l.other) ∧ (s.holder.isSome = true ∨ s.moor.powerFree = false)) ∧
    (∃ (s : State) (l : Landing) (c : Nat) (h : Landing), s.moor.held = [] ∧ s.claimOf l = some c ∧ s.holder = some h ∧ c
      + 300000 ≤ s.clk ∧ (s.land h).lease ≠ none) ∧
    (∃ (s : State) (l : Landing), s.moor.held = [] ∧ s.landState l ≠ 0 ∧ s.landState l ≠ 6) :=
  ⟨⟨{ up.setLand .a { lease := some 0 } with clk := 200000 }, .a, 0, by decide⟩,
  ⟨{ up with moor := { up.moor with powerFree := false } }, .b, by decide⟩,
  ⟨{ up with clk := 300000, moor := { up.moor with claimB := some 0, a := { lease := some 299999 } } }, .b, 0, .a, by
    decide⟩,
  ⟨up, .b, by decide⟩⟩

theorem test_witness_HelmTokenGrantsAndHeldRequests :
    (∃ (s : State) (l : Landing) (e : Nat), s.moor.held = [] ∧ s.moor.window = some (l, e) ∧ e ≤ s.clk) ∧
    (∃ (s : State) (l : Landing) (t0 : Nat), s.moor.held = [] ∧ s.moor.heldClaim = some l ∧ s.moor.pwrgoodAt = some t0 ∧
      t0 + 20000000 ≤ s.clk ∧ s.holder = none) ∧
    (∃ (s : State) (d : Dom), s.moor.hold = true ∧ s.holdDue d = true ∧ (∀ (x : Nat × HostReq), x ∈ s.moor.held → ∃ e a,
      x.snd = HostReq.read e a)) :=
  ⟨⟨{ up with clk := 5, moor := { up.moor with window := some (.b, 5) } }, .b, 5, by decide⟩,
  ⟨{ State.reset with clk := 20000000, moor := { State.reset.moor with heldClaim := some .b, pwrgoodAt := some 0 } }, .b,
    0, by decide⟩,
  ⟨{ up with clk := 500000, moor := { up.moor with hold := true, held := [(0, .read .f 0)] } }, .f, by decide, by decide,
    fun _ hx => List.mem_singleton.mp hx ▸ ⟨.f, 0, rfl⟩⟩⟩

theorem test_witness_HawserLaneAndCopies :
    ∃ (s : State) (c : StateCopy) (h : Landing), s.moor.held = [] ∧ s.moor.sending = some c ∧ s.active = some h ∧
      s.landState h.other = 3 :=
  ⟨{ up with moor := { up.moor with sending := some ⟨7, 0, 0, [], [], [], [], [], [], 0⟩ } }, ⟨7, 0, 0, [], [], [], [],
    [], [], 0⟩, .a, by decide⟩

theorem test_witness_DrillsAndReverts :
    (∃ (s : State) (d : Dom) (v : W32) (h : Landing), s.writable d Page.MOOR ∧ bit (v.toNat) 0 = true ∧ 1 ≤ bits (v.toNat)
      31 16 ∧ bits (v.toNat) 31 16 ≤ 3600 ∧ s.moor.drill = none ∧ s.holder = some h) ∧
    (∃ (s : State) (d : Dom) (v : W32), s.writable d Page.MOOR ∧ bit (v.toNat) 0 = true ∧ 1 ≤ bits (v.toNat) 31 16 ∧ bits
      (v.toNat) 31 16 ≤ 3600 ∧ s.moor.drill.isSome = true) ∧
    (∃ (s : State) (e : Nat) (o : Landing) (ret : Bool) (w : Nat), s.moor.watchEnd = some e ∧ s.moor.drill = some (o, ret,
      w) ∧ e ≤ s.clk) ∧
    (∃ (s : State), s.moor.ageFrom + 3600000000000 ≤ s.clk) ∧
    (∃ (s : State) (t0 : Nat), s.moor.revertFrom = some t0 ∧ t0 + 1000000000 * s.rd Reg.MOOR_REVERT_HOLDOFF ≤ s.clk ∧
      s.moor.swapWant = 0) :=
  ⟨⟨up, .p0, 0x0E100001, .a, by decide⟩,
  ⟨{ up with moor := { up.moor with drill := some (.a, true, 1) } }, .p0, 0x00010001, by decide⟩,
  ⟨{ up with clk := 5, moor := { up.moor with drill := some (.a, true, 1), watchEnd := some 5 } }, 5, .a, true, 1, by
    decide⟩,
  ⟨{ up with clk := 3600000000000 }, by decide⟩,
  ⟨{ up with clk := 10 ^ 13, moor := { up.moor with revertFrom := some 0 } }, 0, by decide⟩⟩

theorem test_witness_LandingResetsAndRestarts :
    (∃ (s : State) (l : Landing) (d : Dom), s.writable d (Page.LND l.idx) ∧ s.holder ≠ some l) ∧
    (∃ (s : State) (l : Landing) (d : Dom), s.writable d (Page.LND l.idx) ∧ s.holder = some l) ∧
    (∃ (s : State) (l : Landing), (s.land l).resetLow = true) ∧
    (∃ (s : State) (l : Landing), (s.land l).railLow = true) ∧
    (∃ (s : State) (l : Landing), s.moor.held = [] ∧ s.landState l ≠ 0 ∧ s.landState l ≠ 6) :=
  ⟨⟨up, .b, .p0, by decide⟩,
  ⟨up, .a, .p0, by decide⟩,
  ⟨up.setLand .b { resetLow := true }, .b, by decide⟩,
  ⟨up.setLand .b { railLow := true }, .b, by decide⟩,
  ⟨up, .b, by decide⟩⟩

theorem test_witness_BootAttempts :
    (∃ (s : State) (l : Landing), s.moor.held = [] ∧ s.landState l = 1) ∧
    (∃ (s : State) (l : Landing), s.moor.held = [] ∧ s.landState l = 2) ∧
    (∃ (s : State) (l : Landing) (t0 : Nat), s.moor.held = [] ∧ (s.land l).attemptAt = some t0 ∧ t0 + 10000000000 ≤ s.clk
      ∧ s.bootOkSet l = false) ∧
    (∃ (s : State) (l : Landing) (d : Dom), s.writable d Page.BOOT ∧ s.open Reg.BOOT_SLIPWAY_CMD ∧ s.landState l = 5) ∧
    (∃ (s : State) (l : Landing) (d : Dom), s.writable d Page.BOOT ∧ s.open Reg.BOOT_SLIPWAY_CMD ∧ (s.landState l = 2 ∨
      s.landState l = 3) ∧ s.holder ≠ some l) :=
  ⟨⟨onRegs [(Reg.LND_STATUS 1, 1)] up, .b, by decide⟩,
  ⟨onRegs [(Reg.LND_STATUS 1, 2)] up, .b, by decide⟩,
  ⟨{ up.setLand .b { attemptAt := some 0 } with clk := 10000000000 }, .b, 0, by decide⟩,
  ⟨onRegs [(Reg.LND_STATUS 1, 5)] (unlocked Page.BOOT), .b, .p0, by decide⟩,
  ⟨unlocked Page.BOOT, .b, .p0, by decide⟩⟩

theorem test_witness_BringUpCompletes :
    (∃ (s : State) (l : Landing) (g : Nat), s.active = some l ∧ s.moor.bringUp = true ∧ s.moor.held = [] ∧ s.moor.memDone
      = false ∧ g = s.fld Reg.DMG0_TRAIN_STATUS 3 0 ∧ g ≤ 7) ∧
    (∃ (s : State) (l : Landing), s.active = some l ∧ s.moor.bringUp = true ∧ s.moor.grtDone = false) ∧
    (∃ (s : State) (l : Landing), s.active = some l ∧ s.moor.bringUp = true ∧ s.moor.logDone = false) ∧
    (∃ (s : State) (l : Landing), s.active = some l ∧ s.moor.bringUp = true ∧ s.moor.memDone = true ∧ s.moor.logDone =
      true ∧ (s.seq.hasMap = true ∨ s.bitAt Reg.SEQ_PMAP_STATUS 4 = true) ∧ s.moor.wearDone = false) :=
  ⟨⟨{ onRegs [(Reg.DMG0_TRAIN_STATUS, 7)] up with moor := { up.moor with bringUp := true } }, .a, 7, by decide⟩,
  ⟨{ up with moor := { up.moor with bringUp := true } }, .a, by decide⟩,
  ⟨{ up with moor := { up.moor with bringUp := true } }, .a, by decide⟩,
  ⟨{ gateUp with moor := { up.moor with bringUp := true, memDone := true, logDone := true } }, .a, by decide⟩⟩

theorem test_witness_FlashChecksAndFuses :
    (∃ (s : State) (d : Dom) (v : W32), s.writable d Page.BOOT ∧ bit (v.toNat) 31 = true ∧ s.moor.verify = none ∧ s.active
      ≠ none) ∧
    (∃ (s : State) (l : Landing), s.moor.verify = some l) ∧
    (∃ (s : State) (d : Dom) (op : Nat) (arg : Nat) (c : Instr), s.writable d Page.SEC ∧ s.open Reg.SEC_FUSE_CMD ∧ arg <
      128 ∧ (op = 1 ∧ c = Instr.fuseRevoke d arg ∨ op = 2 ∧ c = Instr.fuseAdvance d arg ∨ op = 3 ∧ arg = 0 ∧ c =
      Instr.fuseLockJtag d)) ∧
    (∃ (s : State) (op : Nat) (arg : Nat), s.moor.fuse = some (op, arg) ∧ arg ≤ 64) :=
  ⟨⟨up, .p0, 0x80000001, by decide⟩,
  ⟨{ up with moor := { up.moor with verify := some .b } }, .b, by decide⟩,
  ⟨unlocked Page.SEC, .p0, 1, 127, .fuseRevoke .p0 127, by decide⟩,
  ⟨{ up with moor := { up.moor with fuse := some (2, 64) } }, 2, 64, by decide⟩⟩

theorem test_witness_PowerGoodAndResetN :
    (∃ (s : State), s.moor.pwrgoodAt = none) ∧
    (∃ (s : State), s.moor.resetLow = true) :=
  ⟨⟨State.reset, by decide⟩,
  ⟨{ up with moor := { up.moor with resetLow := true } }, by decide⟩⟩

theorem test_witness_LogbookRecordsAndCompaction :
    (∃ (s : State) (l : Landing), s.log.hoursAt ≤ s.clk ∧ s.active = some l) ∧
    (∃ (s : State) (l : Landing) (d : Dom) (v : W32), s.writable d Page.LOGB ∧ bit (v.toNat) 0 = true ∧ s.logReady l 9
      (notePayload 255 s.frameSeq (List.map (fun j ↦ s.rd (Reg.LOGB_NOTE j)) (List.range 4)))) ∧
    (∃ (s : State) (l : Landing) (r : LogRec) (rest : List (Option LogRec)), s.active = some l ∧ s.mirrorUp l.other = true ∧
      s.log.mirror = some r :: rest) ∧
    (∃ (s : State) (l : Landing) (rest : List (Option LogRec)), s.active = some l ∧ s.mirrorUp l.other = true ∧
      s.log.mirror = none :: rest) ∧
    (∃ (s : State) (l : Landing) (d : Dom) (v : W32), s.writable d Page.LOGB ∧ s.open Reg.LOGB_COMPACT_NOW ∧ bit (v.toNat)
      0 = true ∧ s.active = some l ∧ s.compacting = false ∧ s.switching = false) ∧
    (∃ (s : State) (l : Landing) (b : LogBank), s.active = some l ∧ s.compacting = true ∧ (s.side l).target = some b ∧
      s.log.waiting = []) :=
  ⟨⟨up, .a, by decide⟩,
  ⟨logUp, .a, .p0, 1, by decide⟩,
  ⟨onRegs [(Reg.HAWS_STATUS, 1)] { up with log := { up.log with mirror := [some ⟨9, 1, []⟩] } }, .a, ⟨9, 1, []⟩, [], by decide⟩,
  ⟨onRegs [(Reg.HAWS_STATUS, 1)] { up with log := { up.log with mirror := [none] } }, .a, [], by decide⟩,
  ⟨unlocked Page.LOGB, .a, .p0, 1, by decide⟩,
  ⟨(onRegs [(Reg.LOGB_STATUS, 3)] up).setSide .a { target := some ⟨1, [20], 0⟩ }, .a, ⟨1, [20], 0⟩, by decide⟩⟩

theorem test_witness_WearCapturesAndCommands :
    (∃ (s : State), s.wearReady = true ∧ s.wear.deltaAt ≤ s.clk ∧ s.wearFits 7 s.deltaPayload = true) ∧
    (∃ (s : State), s.wearReady = true ∧ s.wear.snapAt ≤ s.clk ∧ s.wearFits 8 (s.snapshotPayload s.ledger) = true) ∧
    (∃ (s : State) (c : WearCapture), s.wear.capture = some c) ∧
    (∃ (s : State) (d : Dom) (c : Instr) (p : Nat), s.writable d Page.WEAR ∧ p < 64 ∧ (c = Instr.wearSnapshotNow d ∨ c =
      Instr.wearAdopt d ∨ c = Instr.wearResetPort d p) ∧ (s.wear.cmd = true ∨ s.wear.capture.isSome = true)) ∧
    (∃ (s : State) (d : Dom), s.writable d Page.WEAR ∧ s.wear.cmd = false ∧ s.wear.capture = none ∧ s.wear.geom.isSome =
      true) ∧
    (∃ (s : State) (d : Dom), s.writable d Page.WEAR ∧ s.wear.cmd = false ∧ s.wear.capture = none ∧ s.seq.hasMap = true) ∧
    (∃ (s : State) (d : Dom) (p : Nat), s.writable d Page.WEAR ∧ s.wear.cmd = false ∧ s.wear.capture = none ∧ p < 64 ∧ p ∈
      s.portsOn) ∧
    (∃ (s : State) (d : Dom) (p : Nat), s.writable d Page.WEAR ∧ s.wear.cmd = false ∧ s.wear.capture = none ∧ p < 64 ∧ ¬p
      ∈ s.portsOn) :=
  ⟨⟨onRegs [(Reg.WEAR_STATUS, 1), (Reg.LOGB_STATUS, 1)] up, by decide⟩,
  ⟨onRegs [(Reg.WEAR_STATUS, 1), (Reg.LOGB_STATUS, 1)] up, by decide⟩,
  ⟨{ up with wear := { up.wear with capture := some ⟨true, [], 0⟩ } }, ⟨true, [], 0⟩, by decide⟩,
  ⟨{ up with wear := { up.wear with cmd := true } }, .p0, .wearResetPort .p0 63, 63, by decide⟩,
  ⟨{ up with wear := { up.wear with geom := some (1, 1, 1) } }, .p0, by decide⟩,
  ⟨gateUp, .p0, by decide⟩,
  ⟨onMap up, .p0, 63, by decide⟩,
  ⟨onMap up, .p0, 62, by decide⟩⟩

theorem test_witness_HousekeepingRound :
    (∃ (s : State), s.hk.roundAt ≤ s.clk) ∧
    (∃ (s : State) (d : Dom), s.writable d Page.HKP ∧ (s.page Page.HKP).unlocked = true) :=
  ⟨⟨up, by decide⟩,
  ⟨unlocked Page.HKP, .p0, by decide⟩⟩

theorem test_witness_ShutdownThresholds :
    (∃ (s : State) (d : Dom) (ch : Nat) (v : W32), s.writable d Page.HKP ∧ (s.page Page.HKP).unlocked = true ∧ ch < 64 ∧
      ch ≤ 47 ∧ bit (v.toNat) 26 = true ∧ signedOf 16 (bits (v.toNat) 15 0) ≤ signedOf 16 (s.shutDefault ch)) ∧
    (∃ (s : State) (d : Dom) (ch : Nat) (v : W32), s.writable d Page.HKP ∧ (s.page Page.HKP).unlocked = true ∧ ch < 64 ∧
      ch ≤ 47 ∧ (bit (v.toNat) 26 = false ∨ signedOf 16 (s.shutDefault ch) < signedOf 16 (bits (v.toNat) 15 0))) ∧
    (∃ (s : State) (d : Dom) (ch : Nat), s.writable d Page.HKP ∧ (s.page Page.HKP).unlocked = true ∧ ch < 64 ∧ 47 < ch) :=
  ⟨⟨unlocked Page.HKP, .p0, 47, BitVec.ofNat 32 (2 ^ 26 + up.shutDefault 47), by decide⟩,
  ⟨unlocked Page.HKP, .p0, 47, 0, by decide⟩,
  ⟨unlocked Page.HKP, .p0, 48, by decide⟩⟩

theorem test_witness_Calibrations :
    (∃ (s : State) (fn : Nat) (inst : Nat), fn ≤ 2 ∧ inst < 64 ∧ 64 * fn + inst ∈ s.bmk.running ∧ s.switching = false ∧
      s.crossing = false) ∧
    (∃ (s : State) (fn : Nat) (inst : Nat) (t0 : Nat), (s.cal (64 * fn + inst)).retryAt = some t0 ∧ t0 ≤ s.clk) ∧
    (∃ (s : State) (d : Dom) (v : W32), s.writable d Page.BMK ∧ bit (v.toNat) 31 = true ∧ bits (v.toNat) 14 8 < calCount
      (bits (v.toNat) 1 0)) :=
  ⟨⟨{ up with bmk := { up.bmk with running := [191] } }, 2, 63, by decide⟩,
  ⟨up.setCal 255 { retryAt := some 0 }, 3, 63, 0, by decide⟩,
  ⟨up, .p0, 0x80003F03, by decide⟩⟩

theorem test_witness_TelemetryAndSmbus :
    (∃ (s : State), s.bitAt Reg.TEL_CTRL 0 = true ∧ s.tel.nextAt ≤ s.clk) ∧
    (∃ (s : State) (addr : Nat) (c : Nat), addr = s.fld Reg.TEL_SMB_ADDR 6 0 ∧ c < 64) ∧
    (∃ (s : State) (addr : Nat) (c : Nat), addr = s.fld Reg.TEL_SMB_ADDR 6 0 ∧ c ≤ 68) ∧
    (∃ (s : State) (addr : Nat) (c : Nat) (data : List Byte), addr = s.fld Reg.TEL_SMB_ADDR 6 0 ∧ (68 < c ∨ data ≠ [])) ∧
    (∃ (s : State), s.hk.alert = true) ∧
    (∃ (ms : Nat), 25 ≤ ms) :=
  ⟨⟨onRegs [(Reg.TEL_CTRL, 1)] up, by decide⟩,
  ⟨up, up.fld Reg.TEL_SMB_ADDR 6 0, 63, by decide⟩,
  ⟨up, up.fld Reg.TEL_SMB_ADDR 6 0, 68, by decide⟩,
  ⟨up, up.fld Reg.TEL_SMB_ADDR 6 0, 69, [], by decide⟩,
  ⟨{ up with hk := { up.hk with alert := true } }, by decide⟩,
  ⟨25, by decide⟩⟩

end Sys2Proof.Tests
end

section
/-! What a Frame Gate keeps while it does its work (R225). The gate writes its record (counter, time, cause, period)
first and then runs commits, content, planning, copies and boot bookkeeping. `GateKept s t` says that from `s` to `t` no
clock time passed and no register of that record changed; each operation of the gate's work has one lemma, so that the
frame of the whole gate follows its text from the outside in. -/

namespace Sys2Proof.Machine

/-- The registers in which a gate is recorded: its number, time, cause, period, and the gating layers that were late. -/
def gateRecord : List Nat :=
  [Reg.SEQ_FRAME_SEQ, Reg.SEQ_GATE_TIME_LO, Reg.SEQ_GATE_TIME_HI, Reg.SEQ_GATE_CAUSE, Reg.SEQ_LAST_PERIOD,
    Reg.SEQ_LATE_MASK, Reg.SEQ_LATE_COUNT]

/-- From `s` to `t` no time passed and no register of the gate's record changed. -/
structure GateKept (s t : State) : Prop where
  clk : t.clk = s.clk
  rd : ∀ a ∈ gateRecord, t.rd a = s.rd a

/-! Addresses: which register families lie outside the record. -/

/-- A register whose offset in its page is below 0x48 is not in the record. -/
theorem not_mem_gateRecord_of_offset_lt {page off : Nat} (h : off < 0x48) : 0x1000 * page + off ∉ gateRecord := by
  simp only [gateRecord, List.mem_cons, List.not_mem_nil, or_false, Reg.SEQ_FRAME_SEQ, Reg.SEQ_GATE_TIME_LO,
    Reg.SEQ_GATE_TIME_HI, Reg.SEQ_GATE_CAUSE, Reg.SEQ_LAST_PERIOD, Reg.SEQ_LATE_MASK, Reg.SEQ_LATE_COUNT]
  omega

/-- Neither is a register outside the page of the sequencer. -/
theorem not_mem_gateRecord_of_page_ne {a : Nat} (h : a / 0x1000 ≠ Page.SEQ) : a ∉ gateRecord := by
  have all : ∀ b ∈ gateRecord, b / 0x1000 = Page.SEQ := by decide
  exact fun ha => h (all a ha)

variable {s u : State}

/-! Updates outside the registers and the clock, and the operations on the registers. -/

theorem GateKept.refl (s : State) : GateKept s s := ⟨rfl, fun _ _ => rfl⟩

theorem GateKept.with_log (h : GateKept s u) (x : Logbook) : GateKept s { u with log := x } := ⟨h.clk, h.rd⟩
theorem GateKept.with_lay (h : GateKept s u) (x : Layers) : GateKept s { u with lay := x } := ⟨h.clk, h.rd⟩
theorem GateKept.with_cart (h : GateKept s u) (x : Cartouche) : GateKept s { u with cart := x } := ⟨h.clk, h.rd⟩
theorem GateKept.with_wear (h : GateKept s u) (x : Wear) : GateKept s { u with wear := x } := ⟨h.clk, h.rd⟩
theorem GateKept.with_grt (h : GateKept s u) (x : Graticule) : GateKept s { u with grt := x } := ⟨h.clk, h.rd⟩
theorem GateKept.with_dtm (h : GateKept s u) (x : Datum) : GateKept s { u with dtm := x } := ⟨h.clk, h.rd⟩
theorem GateKept.with_hk (h : GateKept s u) (x : Housekeep) : GateKept s { u with hk := x } := ⟨h.clk, h.rd⟩
theorem GateKept.with_moor (h : GateKept s u) (x : Mooring) : GateKept s { u with moor := x } := ⟨h.clk, h.rd⟩
theorem GateKept.with_ing (h : GateKept s u) (x : Ingest) : GateKept s { u with ing := x } := ⟨h.clk, h.rd⟩
theorem GateKept.with_seq (h : GateKept s u) (x : Sequencer) : GateKept s { u with seq := x } := ⟨h.clk, h.rd⟩
theorem GateKept.with_tel (h : GateKept s u) (x : Telemetry) : GateKept s { u with tel := x } := ⟨h.clk, h.rd⟩

theorem GateKept.wr (h : GateKept s u) (a v : Nat) (ha : a ∉ gateRecord) : GateKept s (u.wr a v) :=
  ⟨h.clk, fun b hb => by rw [State.rd_wr_other _ _ fun e : b = a => ha (e ▸ hb), h.rd b hb]⟩

theorem GateKept.setFld (h : GateKept s u) (a hi lo v : Nat) (ha : a ∉ gateRecord) :
    GateKept s (u.setFld a hi lo v) := h.wr a _ ha

theorem GateKept.setBit (h : GateKept s u) (a i : Nat) (b : Bool) (ha : a ∉ gateRecord) :
    GateKept s (u.setBit a i b) := h.wr a _ ha

theorem GateKept.addCnt (h : GateKept s u) (a n : Nat) (ha : a ∉ gateRecord) : GateKept s (u.addCnt a n) :=
  h.wr a _ ha

theorem GateKept.inc (h : GateKept s u) (a : Nat) (ha : a ∉ gateRecord) : GateKept s (u.inc a) := h.wr a _ ha

theorem GateKept.setBit64 (h : GateKept s u) (lo hi i : Nat) (b : Bool) (hlo : lo ∉ gateRecord)
    (hhi : hi ∉ gateRecord) : GateKept s (u.setBit64 lo hi i b) := by
  unfold State.setBit64
  split
  · exact h.setBit lo _ _ hlo
  · exact h.setBit hi _ _ hhi

theorem GateKept.raise (h : GateKept s u) (p i : Nat) : GateKept s (u.raise p i) :=
  h.setBit _ _ _ (not_mem_gateRecord_of_offset_lt (by omega))

theorem GateKept.captureDev (h : GateKept s u) (p code detail : Nat) : GateKept s (u.captureDev p code detail) := by
  have header {off : Nat} (ho : off < 0x48) : 0x1000 * p + off ∉ gateRecord := not_mem_gateRecord_of_offset_lt ho
  unfold State.captureDev State.capture State.captureAt
  split
  · exact ⟨h.clk, h.rd⟩
  · exact ((((h.wr _ _ (header (by omega))).wr _ _ (header (by omega))).wr _ _ (header (by omega))).wr _ _
      (header (by omega))).raise _ _

theorem GateKept.ite {c : Prop} [Decidable c] {t : State} (h : c → GateKept s t) (k : ¬c → GateKept s u) :
    GateKept s (if c then t else u) := by
  split
  · exact h ‹_›
  · exact k ‹_›

/-- A repeated operation keeps what each round keeps. -/
theorem GateKept.foldl {α : Type} {f : State → α → State} {l : List α} (h : GateKept s u)
    (hf : ∀ t x, x ∈ l → GateKept s t → GateKept s (f t x)) : GateKept s (l.foldl f u) :=
  List.foldlRecOn (motive := GateKept s) l f h fun t ht x hx => hf t x hx ht

/-! Byte spaces. -/

theorem GateKept.touchLines (h : GateKept s u) (a n : Nat) : GateKept s (u.touchLines a n) := by
  refine h.foldl fun t i _ ht => ?_
  unfold State.touchLine
  dsimp only
  repeat' split
  all_goals exact ⟨ht.clk, ht.rd⟩

theorem GateKept.dramPut (h : GateKept s u) (cls blk a : Nat) (bs : List Byte) :
    GateKept s (u.dramPut cls blk a bs) := by
  unfold State.dramPut
  split
  · exact h
  split
  · exact (((h.inc _ (by decide)).wr _ _ (by decide)).wr _ _ (by decide)).raise _ _
  · have ht := h.touchLines a bs.length
    exact ⟨ht.clk, ht.rd⟩

theorem GateKept.setFlash (h : GateKept s u) (l : Landing) (m : List Host.Cell) : GateKept s (u.setFlash l m) := by
  cases l <;> exact ⟨h.clk, h.rd⟩

theorem GateKept.flashPut (h : GateKept s u) (l : Landing) (a : Nat) (bs : List Byte) :
    GateKept s (u.flashPut l a bs) := h.setFlash _ _

end Sys2Proof.Machine
end

section
/-! The Logbook and the boot index (R371 to R377): records go to flash, and the Landing's registers follow them. -/

namespace Sys2Proof.Machine

variable {s u : State}

theorem GateKept.setSide (h : GateKept s u) (l : Landing) (x : LogSide) : GateKept s (u.setSide l x) := by
  cases l <;> exact ⟨h.clk, h.rd⟩

theorem GateKept.allocSector (h : GateKept s u) (l : Landing) (b : LogBank) : GateKept s (u.allocSector l b).1 := by
  unfold State.allocSector
  split
  · exact h
  · exact h.flashPut _ _ _

theorem GateKept.growBank (h : GateKept s u) (l : Landing) (b : LogBank) (n : Nat) :
    GateKept s (u.growBank l b n).1 :=
  List.foldlRecOn (motive := fun x : State × LogBank => GateKept s x.1) _ _ h fun x hx _ _ => hx.allocSector l x.2

theorem GateKept.streamPut (h : GateKept s u) (l : Landing) (b : LogBank) (pos : Nat) (bs : List Byte) :
    GateKept s (u.streamPut l b pos bs) := by
  refine h.foldl fun t x _ ht => ?_
  dsimp only
  split
  · exact ht
  · exact ht.flashPut _ _ _

theorem GateKept.bankAppend (h : GateKept s u) (l : Landing) (b : LogBank) (r : LogRec) :
    GateKept s (u.bankAppend l b r).1 :=
  (h.growBank l b _).streamPut l _ _ _

theorem GateKept.bankAppendAll (h : GateKept s u) (l : Landing) (b : LogBank) (rs : List LogRec) :
    GateKept s (u.bankAppendAll l b rs).1 :=
  List.foldlRecOn (motive := fun x : State × LogBank => GateKept s x.1) _ _ h fun x hx r _ => hx.bankAppend l x.2 r

theorem GateKept.compactBegin (h : GateKept s u) (l : Landing) (snapshot : List Byte) :
    GateKept s (u.compactBegin l snapshot) :=
  (h.bankAppendAll l _ _).setSide l _

theorem GateKept.compactStart (h : GateKept s u) : GateKept s u.compactStart := by
  unfold State.compactStart
  split
  · exact h
  next l _ =>
  split
  · exact h
  · have ha := h.compactBegin l (u.snapshotPayload u.journal)
    exact ((GateKept.ite (fun _ => ha.compactBegin l.other _) (fun _ => ha)).with_log _).setBit _ _ _ (by decide)

theorem GateKept.bankFull (h : GateKept s u) : GateKept s u.bankFull := by
  have hf : GateKept s (if u.bitAt Reg.LOGB_STATUS 3 then u else (u.setBit Reg.LOGB_STATUS 3 true).raise Page.LOGB 2) :=
    .ite (fun _ => h) (fun _ => (h.setBit _ _ _ (by decide)).raise _ _)
  exact .ite (fun _ => hf) (fun _ => hf.compactStart)

theorem GateKept.sideAppend (h : GateKept s u) (l : Landing) (r : LogRec) : GateKept s (u.sideAppend l r) :=
  (h.bankAppend l _ r).setSide l _

theorem GateKept.logRegs (h : GateKept s u) (l : Landing) : GateKept s (u.logRegs l) :=
  ((h.wr _ _ (by decide)).wr _ _ (by decide)).setFld _ _ _ _ (by decide)

theorem GateKept.setMirror (h : GateKept s u) (b : Bool) : GateKept s (u.setMirror b) :=
  GateKept.setBit (.ite (fun _ => h.raise _ _) (fun _ => h)) _ _ _ (by decide)

theorem GateKept.logAppend (h : GateKept s u) (l : Landing) (ty : Nat) (payload : List Byte) :
    GateKept s (u.logAppend l ty payload) := by
  have hm := fun r => ((h.sideAppend l r).logRegs l).setMirror false
  exact .ite (fun _ => (hm _).with_log _) (fun _ => hm _)

theorem GateKept.logWait (h : GateKept s u) (ty : Nat) (payload : List Byte) : GateKept s (u.logWait ty payload) := by
  unfold State.logWait
  split
  · exact (h.inc _ (by decide)).raise _ _
  · exact ⟨h.clk, h.rd⟩

theorem GateKept.logRecord (h : GateKept s u) (ty : Nat) (payload : List Byte) :
    GateKept s (u.logRecord ty payload) := by
  unfold State.logRecord
  split
  · exact h.logWait _ _
  next l _ =>
  split
  · exact h.logWait _ _
  split
  · exact h.bankFull.logWait _ _
  · exact .ite (fun _ => (h.logAppend l ty payload).compactStart) (fun _ => h.logAppend l ty payload)

theorem GateKept.faultKind (h : GateKept s u) (page kind d0 d1 : Nat) : GateKept s (u.faultKind page kind d0 d1) :=
  h.logRecord _ _

theorem GateKept.flushWaiting (h : GateKept s u) : GateKept s u.flushWaiting :=
  (h.with_log _).foldl fun _ r _ ht => ht.logRecord r.1 r.2

theorem GateKept.setLand (h : GateKept s u) (l : Landing) (x : LandingSt) : GateKept s (u.setLand l x) := by
  cases l <;> exact ⟨h.clk, h.rd⟩

theorem GateKept.bootRecord (h : GateKept s u) (l : Landing) (phase cause stage detail : Nat) :
    GateKept s (u.bootRecord l phase cause stage detail) := by
  unfold State.bootRecord
  dsimp only
  split
  · exact h.flashPut _ _ _
  split
  · exact h.flashPut _ _ _
  · exact h

theorem GateKept.idxTidy (h : GateKept s u) (l : Landing) : GateKept s (u.idxTidy l) :=
  h.foldl fun _ _ _ ht => ht.setFlash _ _

theorem GateKept.bootOk (h : GateKept s u) (l : Landing) : GateKept s (u.bootOk l) := by
  have hl : bootStateReg l ∉ gateRecord := by cases l <;> decide
  exact .ite (fun _ => h) fun _ =>
    ((((h.setBit _ _ _ hl).setFld _ _ _ _ hl).setLand l _).bootRecord l _ _ _ _).idxTidy l

theorem GateKept.runStage (h : GateKept s u) : GateKept s u.runStage := by
  unfold State.runStage
  split
  · exact h
  dsimp only
  split
  · exact (h.setFld _ _ _ _ (by decide)).bootOk _
  · exact h.setFld _ _ _ _ (by decide)

end Sys2Proof.Machine
end

section
/-! The Datum's approved step (R81) and the decoder's ring slots (R99, R104) at a gate. -/

namespace Sys2Proof.Machine

variable {s u : State}

/-! The step of the Datum. -/

theorem GateKept.dtmEnter (h : GateKept s u) (n : Nat) : GateKept s (u.dtmEnter n) := by
  have hf := h.setFld Reg.DTM_STATUS 2 0 n (by decide)
  exact .ite (fun _ => h) fun _ => .ite (fun _ => hf.raise _ _) fun _ => .ite (fun _ => hf.raise _ _) fun _ =>
    .ite (fun _ => hf.raise _ _) fun _ => hf

theorem GateKept.closeInst (h : GateKept s u) (g : Nat) (x : GroupInst) : GateKept s (u.closeInst g x) :=
  .ite (fun _ => ⟨h.clk, h.rd⟩) (fun _ => ⟨h.clk, h.rd⟩)

theorem GateKept.shiftIngestDeadlines (h : GateKept s u) (delta : Int) : GateKept s (u.shiftIngestDeadlines delta) :=
  ((h.with_ing _).foldl fun _ x _ ht => ht.foldl fun _ y _ hv => hv.closeInst x.1 y).with_ing _

theorem GateKept.stepDatum (h : GateKept s u) (theta : Int) : GateKept s (u.stepDatum theta) :=
  ((h.with_dtm _).shiftIngestDeadlines _).with_dtm _

theorem GateKept.enterAcquire (h : GateKept s u) : GateKept s u.enterAcquire :=
  (h.with_dtm _).dtmEnter 1

theorem GateKept.applyStep (h : GateKept s u) : GateKept s u.applyStep :=
  (((h.with_dtm _).stepDatum _).with_dtm _).enterAcquire.raise _ _

theorem GateKept.stepAtGate (h : GateKept s u) : GateKept s u.stepAtGate := by
  unfold State.stepAtGate
  split
  · exact h.applyStep
  · exact h

theorem GateKept.armFrameSync (h : GateKept s u) (time : Nat) : GateKept s (u.armFrameSync time) :=
  .ite (fun _ => h.with_dtm _) (fun _ => h)

/-! Ring slots. -/

theorem GateKept.putRecord (h : GateKept s u) (i k : Nat) : GateKept s (u.putRecord i k) := by
  unfold State.putRecord
  exact (h.dramPut _ _ _ _).dramPut _ _ _ _

theorem GateKept.setSlot (h : GateKept s u) (i k : Nat) (r : RingSlot) : GateKept s (u.setSlot i k r) := h.with_ing _

theorem GateKept.putSlot (h : GateKept s u) (i k : Nat) (r : RingSlot) : GateKept s (u.putSlot i k r) :=
  (h.setSlot i k r).putRecord i k

theorem GateKept.holdSlot (h : GateKept s u) (i k fs : Nat) : GateKept s (u.holdSlot i k fs) :=
  .ite (fun _ => (h.putSlot _ _ _).putSlot _ _ _) (fun _ => h.putSlot _ _ _)

theorem GateKept.updJob (h : GateKept s u) (i : Nat) (f : DecJob → DecJob) : GateKept s (u.updJob i f) := by
  unfold State.updJob
  dsimp only
  split
  · exact h
  · exact ⟨h.clk, h.rd⟩

theorem GateKept.decError (h : GateKept s u) (i k code : Nat) : GateKept s (u.decError i k code) := by
  have errs : Reg.DEC_CORE_ERRS (k / 4 % 8) (k % 4) ∉ gateRecord :=
    not_mem_gateRecord_of_page_ne (by simp only [Reg.DEC_CORE_ERRS, Page.SEQ]; omega)
  exact (((h.captureDev _ _ _).wr _ _ (by decide)).inc _ errs).raise _ _

theorem GateKept.startJob (h : GateKept s u) (i : Nat) : GateKept s (u.startJob i) := by
  have hj := h.updJob i
  unfold State.startJob
  dsimp only
  split
  · exact h
  split
  · exact h
  split
  · exact h
  split
  · exact hj _
  split
  · exact ((hj _).updJob _ _).inc _ (by decide)
  split
  · exact (((hj _).updJob _ _).decError _ _ _).inc _ (by decide)
  split
  · exact hj _
  split
  · exact (((hj _).updJob _ _).decError _ _ _).inc _ (by decide)
  split
  · exact GateKept.putSlot (.ite (fun _ => ((hj _).updJob _ _).inc _ (by decide)) (fun _ => (hj _).updJob _ _)) _ _ _
  · exact .ite (fun _ => hj _) fun _ => (((hj _).updJob _ _).inc _ (by decide)).raise _ _

theorem GateKept.kick (h : GateKept s u) (k : Nat) : GateKept s (u.kick k) := by
  unfold State.kick
  dsimp only
  split
  · exact h
  split
  · exact h
  · exact GateKept.updJob (h.with_ing _) _ _

theorem GateKept.advance (h : GateKept s u) (i : Nat) : GateKept s (u.advance i) := by
  unfold State.advance
  dsimp only
  split
  · split
    · exact (h.startJob i).kick _
    · exact h.startJob i
  · exact h.startJob i

theorem GateKept.releaseSlots (h : GateKept s u) (fs : Nat) : GateKept s (u.releaseSlots fs) := by
  refine h.foldl fun t i _ ht => ?_
  dsimp only
  set r := List.foldl _ t (List.range 3) with hr
  have hk : GateKept s r := by
    rw [hr]
    exact ht.foldl fun v k _ hv => .ite (fun _ => hv.putSlot _ _ _) (fun _ => hv.setSlot _ _ _)
  split
  · exact .ite (fun _ => hk.advance i) (fun _ => hk)
  · exact hk

theorem GateKept.takeLayer (h : GateKept s u) (fs k : Nat) (late skip : Bool) :
    GateKept s (u.takeLayer fs k late skip).1 := by
  have hl (v : LayerSt) : GateKept s (u.setLayer k v) := h.with_lay _
  unfold State.takeLayer
  dsimp only
  split
  · split
    · exact hl _
    split
    · exact h
    · split
      · exact h
      · exact hl _
  · split
    · exact h
    · split
      · exact h
      · exact hl _
  · exact hl _
  · exact hl _

theorem GateKept.takeContent (h : GateKept s u) (fs late : Nat) (skip : Bool) :
    GateKept s (u.takeContent fs late skip).st := by
  unfold State.takeContent
  dsimp only
  apply GateKept.releaseSlots
  refine List.foldlRecOn (motive := fun r : Taken => GateKept s r.st) _ _ h fun r hr k _ => ?_
  split
  · split
    · exact hr.takeLayer _ _ _ _
    · exact hr
  · exact (hr.takeLayer _ _ _ _).foldl fun v p _ hv => .ite (fun _ => hv.holdSlot _ _ _) (fun _ => hv)

end Sys2Proof.Machine
end

section
/-! What takes effect at a gate (R225 step 3): wear, page commits, layers, sheets, sets, Cartouche and Graticule. -/

namespace Sys2Proof.Machine

variable {s u : State}

/-! Wear. -/

theorem GateKept.setFrame (h : GateKept s u) (f : FrameSt) : GateKept s (u.setFrame f) := h.with_seq _

theorem GateKept.wearAdd (h : GateKept s u) (i sum rays t : Nat) : GateKept s (u.wearAdd i sum rays t) :=
  .ite (fun _ => h) (fun _ => h.with_wear _)

theorem GateKept.wearMaxRegs (h : GateKept s u) : GateKept s u.wearMaxRegs := (h.wr _ _ (by decide)).wr _ _ (by decide)

theorem GateKept.wearAccumulate (h : GateKept s u) (lines : List (Nat × List Nat)) (period : Nat) :
    GateKept s (u.wearAccumulate lines period) :=
  GateKept.with_wear (.ite (fun _ => h) fun _ => (h.foldl fun _ _ _ ht => ht.wearAdd _ _ _ _).wearMaxRegs) _

theorem GateKept.wearGateFrames (h : GateKept s u) (now : Nat) : GateKept s (u.wearGateFrames now) :=
  h.foldl fun _ _ _ ht => (ht.wearAccumulate _ _).setFrame _

theorem GateKept.setGains (h : GateKept s u) (g : List (Nat × Nat)) : GateKept s (u.setGains g) :=
  (h.with_wear _).wr _ _ (by decide)

theorem GateKept.setLimited (h : GateKept s u) : GateKept s u.setLimited :=
  GateKept.setBit (.ite (fun _ => h.raise _ _) (fun _ => h)) _ _ _ (by decide)

theorem GateKept.regain (h : GateKept s u) : GateKept s u.regain :=
  .ite (fun _ => h) (fun _ => h.setLimited.with_wear _)

theorem GateKept.wearGate (h : GateKept s u) (fs : Nat) : GateKept s (u.wearGate fs) := by
  unfold State.wearGate
  split
  · exact h
  · exact .ite (fun _ => h) fun _ => (((h.with_wear _).setGains _).wr _ _ (by decide)).raise _ _

theorem GateKept.wearGeomCheck (h : GateKept s u) : GateKept s u.wearGeomCheck := by
  unfold State.wearGeomCheck
  split
  · exact .ite (fun _ => h.with_wear _) (fun _ => h)
  split
  · exact .ite (fun _ => (h.setBit _ _ _ (by decide)).regain) (fun _ => h)
  · exact .ite (fun _ => h) fun _ => (((h.with_wear _).setGains _).setBit _ _ _ (by decide)).raise _ _

/-! Page commits and layers. -/

theorem GateKept.setForce (h : GateKept s u) (a : Nat) (v : W32) : GateKept s (u.setForce a v) := ⟨h.clk, h.rd⟩

theorem GateKept.commitTake (h : GateKept s u) (page fs : Nat) : GateKept s (u.commitTake page fs) := by
  unfold State.commitTake
  split
  · exact h
  · have ht : GateKept s ((frameScoped page).foldl (fun (t : State) (a : Nat) =>
        t.setForce a (aget (regReset u.dev a) a u.pend)) u) := h.foldl fun _ _ _ hv => hv.setForce _ _
    refine GateKept.wr ?_ _ _ (not_mem_gateRecord_of_offset_lt (by omega))
    exact ⟨ht.clk, ht.rd⟩

theorem GateKept.seqCommit (h : GateKept s u) (fs : Nat) : GateKept s (u.seqCommit fs) :=
  have hc := h.commitTake Page.SEQ fs
  .ite (fun _ => hc) fun _ => ((hc.setForce _ _).captureDev _ _ _).raise _ _

theorem GateKept.setLayer (h : GateKept s u) (k : Nat) (v : LayerSt) : GateKept s (u.setLayer k v) := h.with_lay _

theorem GateKept.syncOwners (h : GateKept s u) : GateKept s u.syncOwners :=
  h.foldl fun _ _ _ ht => .ite (fun _ => ht) (fun _ => ht.setLayer _ _)

theorem GateKept.layGate (h : GateKept s u) (fs : Nat) : GateKept s (u.layGate fs) := by
  refine GateKept.syncOwners (GateKept.commitTake (h.foldl fun t k _ ht => ?_) _ _)
  have hs (v : LayerSt) (b : Bool) (n : Nat) : GateKept s
      (((t.setFld Reg.LAY_ACTIVE_BANK k k n).setLayer k v).setBit Reg.LAY_TAPS_REDUCED k b) :=
    ((ht.setFld _ _ _ _ (by decide)).setLayer _ _).setBit _ _ _ (by decide)
  exact .ite (fun _ => .ite (fun _ => (hs _ _ _).raise _ _) (fun _ => hs _ _ _)) (fun _ => ht.setLayer _ _)

theorem GateKept.recheckLayers (h : GateKept s u) : GateKept s u.recheckLayers := by
  refine h.foldl fun t k _ ht => ?_
  split
  · exact ht
  split
  · exact (ht.wr _ _ (by decide)).setLayer _ _
  · have hs := fun v b => (ht.setLayer k v).setBit Reg.LAY_TAPS_REDUCED k b (by decide)
    exact .ite (fun _ => (hs _ _).raise _ _) (fun _ => hs _ _)

/-! Sheets and flattened sets. -/

theorem GateKept.setSheetSlot (h : GateKept s u) (k : Nat) (v : AtlasSlot) : GateKept s (u.setSheetSlot k v) :=
  ⟨h.clk, h.rd⟩

theorem GateKept.sheetSlotGate (h : GateKept s u) (fs : Nat) (finished : Bool) {k : Nat} (hk : k < 64) :
    GateKept s (u.sheetSlotGate fs finished k) := by
  have st : Reg.ATL_SLOT_STATE k ∉ gateRecord :=
    not_mem_gateRecord_of_page_ne (by simp only [Reg.ATL_SLOT_STATE, Page.SEQ]; omega)
  have seq : Reg.ATL_SLOT_COMMIT_SEQ k ∉ gateRecord :=
    not_mem_gateRecord_of_page_ne (by simp only [Reg.ATL_SLOT_COMMIT_SEQ, Page.SEQ]; omega)
  unfold State.sheetSlotGate
  extract_lets cfg off s1 _ s2 slot shown bank version s3 s4
  have h1 : GateKept s s1 := ⟨h.clk, h.rd⟩
  have h2 : GateKept s s2 := .ite (fun _ => (h1.setBit _ _ _ st).setSheetSlot _ _) (fun _ => h1)
  have h3 : GateKept s s3 :=
    ((((h2.setBit _ _ _ st).setBit _ _ _ st).setBit _ _ _ st).setBit _ _ _ st).setFld _ _ _ _ st
  have h4 : GateKept s s4 := (h3.setBit _ _ _ st).wr _ _ seq
  exact .ite (fun _ => h2) fun _ =>
    .ite (fun _ => (((h2.setBit _ _ _ st).setBit _ _ _ st).wr _ _ seq).setSheetSlot _ _) fun _ => h4.setSheetSlot _ _

theorem GateKept.sheetGate (h : GateKept s u) (fs : Nat) (finished : Bool) : GateKept s (u.sheetGate fs finished) :=
  h.foldl fun _ _ hk ht => ht.sheetSlotGate fs finished (List.mem_range.mp hk)

theorem GateKept.setSets (h : GateKept s u) (l : List FlatSet) : GateKept s (u.setSets l) :=
  ((h.with_lay _).wr _ _ (by decide)).wr _ _ (by decide)

theorem GateKept.unflatten (h : GateKept s u) (lastFs : Nat) (finished : Bool) (cut : FlatSet → Bool) :
    GateKept s (u.unflatten lastFs finished cut) :=
  (h.setSets _).addCnt _ _ (by decide)

theorem GateKept.insetGate (h : GateKept s u) (fs : Nat) (finished : Bool) : GateKept s (u.insetGate fs finished) :=
  ((h.unflatten _ _ _).with_lay _).setSets _

/-! Cartouche. -/

theorem GateKept.cartLatch (h : GateKept s u) (m : Nat) : GateKept s (u.cartLatch m) := by
  unfold State.cartLatch
  extract_lets old new s1 s2 _ s3
  have h1 : GateKept s s1 := .ite (fun _ => h.wr _ _ (by decide)) (fun _ => h)
  have h2 : GateKept s s2 := h1.foldl fun _ _ _ ht => ht.setBit _ _ _ (by decide)
  have h3 : GateKept s s3 := GateKept.raise (.ite (fun _ => h2.with_cart _) (fun _ => h2)) _ _
  exact .ite (fun _ => h) fun _ => h3.foldl fun _ _ _ ht => ht.faultKind _ _ _ _

theorem GateKept.cartGate (h : GateKept s u) (fs : Nat) (finished : Bool) : GateKept s (u.cartGate fs finished) := by
  unfold State.cartGate
  extract_lets first _ s1 _ s2 fault stale s3
  have h1 : GateKept s s1 := by
    unfold s1
    split
    · exact h
    · refine .ite (fun _ => h) fun _ => ?_
      extract_lets t v w
      have ht : GateKept s t := h.with_cart _
      have hv : GateKept s v :=
        ((((ht.setFld _ _ _ _ (by decide)).setBit _ _ _ (by decide)).setBit _ _ _ (by decide)).wr _ _ (by decide)).wr
          _ _ (by decide)
      have hw : GateKept s w := (hv.wr _ _ (by decide)).raise _ _
      exact .ite (fun _ => hw.with_cart _) (fun _ => hw)
  have h2 : GateKept s s2 := .ite (fun _ => h1.with_cart _) (fun _ => h1)
  have h3 : GateKept s s3 := (h2.setBit _ _ _ (by decide)).cartLatch _
  exact h3.with_cart _

/-! Graticule. -/

theorem GateKept.setCol (h : GateKept s u) (c : Nat) (g : GratCol) : GateKept s (u.setCol c g) := h.with_grt _

/-- The registers of the columns are not in the gate's record. -/
theorem gcol_not_mem_gateRecord {c : Nat} (hc : c < 32) : Reg.GCOL_STATUS c ∉ gateRecord ∧
    Reg.GCOL_BIST_STATUS c ∉ gateRecord ∧ Reg.GCOL_GANGS c ∉ gateRecord := by
  refine ⟨?_, ?_, ?_⟩ <;> refine not_mem_gateRecord_of_page_ne ?_
  · simp only [Reg.GCOL_STATUS, Page.SEQ]; omega
  · simp only [Reg.GCOL_BIST_STATUS, Page.SEQ]; omega
  · simp only [Reg.GCOL_GANGS, Page.SEQ]; omega

theorem GateKept.grtRegs (h : GateKept s u) : GateKept s u.grtRegs := by
  refine GateKept.setBit (GateKept.setFld (h.foldl fun t c hc ht => ?_) _ _ _ _ (by decide)) _ _ _ (by decide)
  obtain ⟨st, -, gangs⟩ := gcol_not_mem_gateRecord (List.mem_range.mp hc)
  exact (((ht.setFld _ _ _ _ st).setBit _ _ _ st).setFld _ _ _ _ st).wr _ _ gangs

theorem GateKept.rotate (h : GateKept s u) {c : Nat} (hc : c < 32) : GateKept s (u.rotate c) := by
  obtain ⟨-, bist, -⟩ := gcol_not_mem_gateRecord hc
  unfold State.rotate
  dsimp only
  split
  · exact .ite (fun _ => h) fun _ => (h.setCol _ _).setFld _ _ _ _ bist
  · exact h

theorem GateKept.grtGate (h : GateKept s u) : GateKept s u.grtGate := by
  refine GateKept.grtRegs ?_
  set t := List.foldl _ u (List.range 32) with ht
  have hr : GateKept s t := by
    rw [ht]
    exact h.foldl fun _ _ hc hv => (hv.setCol _ _).rotate (List.mem_range.mp hc)
  dsimp only
  split
  · exact .ite (fun _ => hr.with_grt _) (fun _ => hr)
  · exact hr

theorem GateKept.grtAdopt (h : GateKept s u) (b : Nat) : GateKept s (u.grtAdopt b) := (h.with_grt _).grtRegs

/-! The step as a whole. -/

theorem GateKept.gapGate (h : GateKept s u) : GateKept s u.gapGate := h.setFld _ _ _ _ (by decide)

theorem GateKept.adoptMap (h : GateKept s u) (b : Nat) : GateKept s (u.adoptMap b) :=
  (((((h.with_seq _).setFld _ _ _ _ (by decide)).setBit _ _ _ (by decide)).wr _ _ (by decide)).wr _ _
    (by decide)).wr _ _ (by decide)

theorem GateKept.mapSwitch (h : GateKept s u) (b fs : Nat) (finished : Bool) : GateKept s (u.mapSwitch b fs finished) :=
  ((((h.adoptMap b).grtAdopt b).recheckLayers.unflatten _ _ _).wearGeomCheck).with_seq _

theorem GateKept.hitlessGate (h : GateKept s u) (fs : Nat) (finished : Bool) :
    GateKept s (u.hitlessGate fs finished) := by
  unfold State.hitlessGate
  split
  · exact .ite (fun _ => (h.mapSwitch _ _ _).setFld _ _ _ _ (by decide)) (fun _ => h)
  · exact h

theorem GateKept.commitsGate (h : GateKept s u) (fs : Nat) (finished : Bool) :
    GateKept s (u.commitsGate fs finished) := by
  have pages := ((h.hitlessGate fs finished).seqCommit fs).foldl
    (f := fun (t : State) (p : Nat) => t.commitTake p fs) (l := [Page.MOOR, Page.WBK, Page.SIG, Page.GRT])
    fun _ p _ ht => ht.commitTake p fs
  exact ((((((pages.layGate fs).sheetGate fs finished).insetGate fs finished).cartGate fs finished).wearGate
    fs).grtGate).gapGate

end Sys2Proof.Machine
end

section
/-! The rest of a gate (R225 steps 4 to 6), the gate as a whole, and FRAME_SEQ after it (R7). -/

namespace Sys2Proof.Machine

variable {s u : State}

/-! Ports, throttle, periods and tolerances. -/

/-- The status register of a tile port is not in the gate's record, whatever the port's number. -/
theorem tpStatus_not_mem_gateRecord (p : Nat) : Reg.TP_STATUS p ∉ gateRecord :=
  not_mem_gateRecord_of_page_ne (by simp only [Reg.TP_STATUS, Page.SEQ]; omega)

theorem GateKept.setTile (h : GateKept s u) (p : Nat) (x : TilePort) : GateKept s (u.setTile p x) := ⟨h.clk, h.rd⟩

theorem GateKept.setDriven (h : GateKept s u) {p : Nat} (b : Bool) : GateKept s (u.setDriven p b) :=
  (h.setBit _ _ _ (tpStatus_not_mem_gateRecord p)).setBit64 _ _ _ _ (by decide) (by decide)

theorem GateKept.posOverride (h : GateKept s u) : GateKept s u.posOverride := by
  refine h.foldl fun t p _ ht => ?_
  have port (phase : Nat) (b : Bool) :
      GateKept s (((t.setTile p { t.tile p with phase := phase }).setDriven p b).setTx p 1) :=
    ((ht.setTile p _).setDriven b).setFld _ _ _ _ (tpStatus_not_mem_gateRecord p)
  exact .ite (fun _ => ht) fun _ => .ite (fun _ => port 5 true) fun _ => .ite (fun _ => port 4 false) fun _ => ht

theorem GateKept.setThrottle (h : GateKept s u) (l : Nat) : GateKept s (u.setThrottle l) :=
  (((h.setFld _ _ _ _ (by decide)).wr _ _ (by decide)).raise _ _).with_hk _

theorem GateKept.throttleGate (h : GateKept s u) : GateKept s u.throttleGate :=
  .ite (fun _ => h.setThrottle _) fun _ =>
    .ite (fun _ => .ite (fun _ => .ite (fun _ => h.setThrottle _) fun _ => h) fun _ =>
      .ite (fun _ => h) fun _ => (h.with_hk _).raise _ _) fun _ =>
    .ite (fun _ => h.setThrottle _) fun _ => h

theorem GateKept.planGate (h : GateKept s u) : GateKept s u.planGate := by
  unfold State.planGate
  extract_lets shed
  split
  extract_lets floor s1 s2 s3 s4
  have h2 : GateKept s s2 := (((h.wr _ _ (by decide)).setBit _ _ _ (by decide)).wr _ _ (by decide)).wr _ _ (by decide)
  have h3 : GateKept s s3 := .ite (fun _ => h2.raise _ _) (fun _ => h2)
  have h4 : GateKept s s4 := .ite (fun _ => h3.raise _ _) (fun _ => h3)
  exact h4.with_grt _

theorem GateKept.setPeriods (h : GateKept s u) : GateKept s u.setPeriods :=
  ((h.wr _ _ (by decide)).wr _ _ (by decide)).with_seq _

theorem GateKept.setTolerance (h : GateKept s u) (grt plane : Nat) : GateKept s (u.setTolerance grt plane) := by
  refine GateKept.foldl (((h.wr _ _ (by decide)).wr _ _ (by decide)).wr _ _ (by decide)) fun t g _ ht =>
    ht.setBit _ _ _ ?_
  exact not_mem_gateRecord_of_page_ne (by simp only [Reg.DMG_STATUS, Page.SEQ]; omega)

theorem GateKept.tolCheck (h : GateKept s u) (tL : Nat) : GateKept s (u.tolCheck tL) :=
  .ite (fun _ => h.raise _ _) (fun _ => h)

/-! The copy to the standby Landing. -/

theorem GateKept.setSynced (h : GateKept s u) (l : Landing) (b : Bool) : GateKept s (u.setSynced l b) := by
  have hl : Reg.LND_STATUS l.idx ∉ gateRecord := by cases l <;> decide
  have ht : GateKept s (u.setBit (Reg.LND_STATUS l.idx) 3 b).revertWatch := (h.setBit _ _ _ hl).with_moor _
  exact .ite (fun _ => ht) (fun _ => ht.setBit _ _ _ (by decide))

theorem GateKept.syncCheck (h : GateKept s u) : GateKept s u.syncCheck := by
  unfold State.syncCheck
  split
  · exact h
  split
  · exact h
  split
  · exact .ite (fun _ => h) (fun _ => h.setSynced _ _)
  · exact h.setSynced _ _

theorem GateKept.endHold (h : GateKept s u) : GateKept s u.endHold :=
  .ite (fun _ => (h.with_moor _).flushWaiting) (fun _ => h)

theorem GateKept.copyAbort (h : GateKept s u) : GateKept s u.copyAbort := by
  have hu := fun x => (((h.with_moor x).setBit Reg.HAWS_STATUS 2 false (by decide)).inc Reg.HAWS_COPY_ABORT_COUNT
    (by decide)).raise Page.HAWS 0
  exact .ite (fun _ => h) fun _ => .ite (fun _ => (hu _).endHold) (fun _ => hu _)

theorem GateKept.copyStart (h : GateKept s u) : GateKept s u.copyStart := by
  unfold State.copyStart
  dsimp only
  split
  · exact h.copyAbort
  · exact .ite (fun _ => h.copyAbort) fun _ => (h.copyAbort.with_moor _).setBit _ _ _ (by decide)

theorem GateKept.swapStart (h : GateKept s u) : GateKept s u.swapStart := by
  unfold State.swapStart
  split
  · exact h
  · exact .ite (fun _ => h) (fun _ => h.with_moor _)

theorem GateKept.standbyCheck (h : GateKept s u) : GateKept s u.standbyCheck := by
  unfold State.standbyCheck
  split
  · exact h
  · exact GateKept.setBit (.ite (fun _ => h.raise _ _) (fun _ => h)) _ _ _ (by decide)

/-! Signatures, writeback and the new frame. -/

theorem GateKept.sigStart (h : GateKept s u) (fs : Nat) : GateKept s (u.sigStart fs) :=
  .ite (fun _ => h) (fun _ => h.with_lay _)

theorem GateKept.wbkGate (h : GateKept s u) (f : FrameSt) : GateKept s (u.wbkGate f) := by
  unfold State.wbkGate
  dsimp only
  split
  · exact h
  split
  · exact h
  split
  · exact h.inc _ (by decide)
  · exact h.with_lay _

theorem GateKept.gateBody (h : GateKept s u) (fs time late : Nat) : GateKept s (u.gateBody fs time late) := by
  unfold State.gateBody
  extract_lets finished s1 s2 k s3 s4 s5 f s6 _ s7
  have h2 : GateKept s s2 := ((h.wearGateFrames _).commitsGate _ _).posOverride.throttleGate
  have h3 : GateKept s s3 := ((h2.takeContent _ _ _).planGate.setPeriods).setTolerance _ _
  have h4 : GateKept s s4 := (h3.tolCheck _).armFrameSync _
  have h5 : GateKept s s5 := h4.syncCheck.copyStart.swapStart.standbyCheck.sigStart _
  have h7 : GateKept s s7 := (h5.wbkGate _).with_seq _
  exact (h7.setFrame _).with_seq _

/-! The gate as a whole. -/

/-- The record of a gate, written before its work begins. -/
def State.gateStamp (s : State) (cause : Nat) : State :=
  let s1 := (s.wr Reg.SEQ_FRAME_SEQ ((s.frameSeq + 1) % 2 ^ 32)).wr64 Reg.SEQ_GATE_TIME_LO Reg.SEQ_GATE_TIME_HI s.now
  (if s.seq.started then s1.wr Reg.SEQ_LAST_PERIOD (s.clk - s.seq.gateClk) else s1).wr Reg.SEQ_GATE_CAUSE cause

/-- After its record is written a gate lets no time pass and leaves the record alone. -/
theorem State.fireGate_kept (s : State) (cause late : Nat) : GateKept (s.gateStamp cause) (s.fireGate cause late) := by
  have h : GateKept (s.gateStamp cause) (s.gateStamp cause).stepAtGate := (GateKept.refl _).stepAtGate
  exact (((h.gateBody _ _ late).with_seq _).with_tel _).runStage

theorem State.gateStamp_frameSeq (s : State) (cause : Nat) :
    (s.gateStamp cause).rd Reg.SEQ_FRAME_SEQ = (s.rd Reg.SEQ_FRAME_SEQ + 1) % 2 ^ 32 := by
  have above {t : State} {a v : Nat} (ha : Reg.SEQ_FRAME_SEQ.blt a = true) :
      (t.wr a v).rd Reg.SEQ_FRAME_SEQ = t.rd Reg.SEQ_FRAME_SEQ := t.rd_wr_other v (Nat.blt_eq.mp ha).ne
  have counted : (s.wr Reg.SEQ_FRAME_SEQ ((s.frameSeq + 1) % 2 ^ 32)).rd Reg.SEQ_FRAME_SEQ =
      (s.rd Reg.SEQ_FRAME_SEQ + 1) % 2 ^ 32 := s.rd_wr_same _ (Nat.mod_lt _ (by positivity))
  unfold State.gateStamp State.wr64
  extract_lets s1
  rw [above rfl]
  split
  · rw [above rfl, above rfl, above rfl, counted]
  · rw [above rfl, above rfl, counted]

/-- Each Frame Gate increments FRAME_SEQ by 1, modulo 2^32 (R7). -/
theorem State.fireGate_frameSeq (s : State) (cause late : Nat) :
    (s.fireGate cause late).rd Reg.SEQ_FRAME_SEQ = (s.rd Reg.SEQ_FRAME_SEQ + 1) % 2 ^ 32 := by
  rw [(s.fireGate_kept cause late).rd _ List.mem_cons_self, s.gateStamp_frameSeq cause]

end Sys2Proof.Machine
end

section
/-! Wrapping counters compare by their signed difference (R7). -/

namespace Sys2Proof.Machine

/-- A signed reading is the number itself modulo 2^n. -/
theorem signedOf_emod (n v : Nat) : signedOf n v % 2 ^ n = (v : Int) % 2 ^ n := by
  unfold signedOf
  dsimp only
  split
  · push_cast; exact Int.emod_emod_of_dvd _ dvd_rfl
  · push_cast; rw [Int.sub_emod_right]; exact Int.emod_emod_of_dvd _ dvd_rfl

/-- A signed reading of `n` bits lies in the range of `n`-bit signed numbers. -/
theorem signedOf_bounds (n v : Nat) : -(2 ^ n : Int) ≤ 2 * signedOf n v ∧ 2 * signedOf n v < 2 ^ n := by
  have hv : v % 2 ^ n < 2 ^ n := Nat.mod_lt _ (by positivity)
  have cast : (2 ^ n : Int) = ((2 ^ n : Nat) : Int) := by push_cast; rfl
  unfold signedOf
  rw [cast]
  generalize v % 2 ^ n = m at hv ⊢
  dsimp only
  split
  · omega
  · omega

/-- The signed difference of two counters is their difference modulo 2^n. -/
theorem wrapDiff_emod (n a b : Nat) : wrapDiff n a b % 2 ^ n = ((a : Int) - b) % 2 ^ n := by
  have hb : b % 2 ^ n ≤ 2 ^ n := (Nat.mod_lt _ (by positivity)).le
  unfold wrapDiff
  rw [signedOf_emod]
  push_cast [hb]
  calc ((a : Int) % 2 ^ n + (2 ^ n - b % 2 ^ n)) % 2 ^ n
      = ((a : Int) % 2 ^ n - b % 2 ^ n + 2 ^ n) % 2 ^ n := by ring_nf
    _ = ((a : Int) - b) % 2 ^ n := by rw [Int.add_emod_right, ← Int.sub_emod]

end Sys2Proof.Machine
end

section
open Sys2Proof.Machine

/-- Settles O36: the gate writes the counter first and nothing it does afterwards touches it; the signed difference
agrees with the difference modulo 2^32 and stays in the signed range. -/
theorem frameCounterAndItsComparison : Obligations.FrameCounterAndItsComparison := by
  refine ⟨State.fireGate_frameSeq, fun s cause late hs => ?_, fun a b _ _ => ⟨wrapDiff_emod 32 a b, ?_⟩⟩
  · simp [State.fireGate_frameSeq, hs]
  · obtain ⟨lo, hi⟩ := signedOf_bounds 32 (a % 2 ^ 32 + (2 ^ 32 - b % 2 ^ 32))
    exact ⟨by unfold wrapDiff; omega, by unfold wrapDiff; omega⟩

end

section
/-! Which open context a datagram matches (R54). -/

namespace Sys2Proof.Machine

variable {s : State}

/-- A key that does not read as the default is listed. -/
theorem exists_mem_of_aget_ne {α : Type} {d : α} {k : Nat} {m : List (Nat × α)} (h : aget d k m ≠ d) :
    ∃ x ∈ m, x.1 = k := by
  induction m with
  | nil => exact absurd rfl h
  | cons x m ih =>
    by_cases hx : x.1 = k
    · exact ⟨x, List.mem_cons_self, hx⟩
    · obtain ⟨y, hy, e⟩ := ih (by rwa [aget, if_neg hx] at h)
      exact ⟨y, List.mem_cons_of_mem _ hy, e⟩

/-- The STATUS byte of an open context is not 0, which is what an unlisted byte reads as. -/
theorem State.statusByte_ne_zero {i : Nat} (h : s.ctxState i = 1) : aget (0 : Byte) (64 * i + 0x38) s.mem.ctxTab ≠ 0 := by
  intro h0
  have zero : (0 : Byte).toNat = 0 := rfl
  simp only [State.ctxState, State.ctxF, agetLe, agetMany, leNat, h0, zero, bits, Nat.shiftRight_zero] at h
  omega

/-- The list of open contexts holds exactly those whose STATUS reads OPEN. -/
@[simp] theorem State.mem_openCtxs {i : Nat} : i ∈ s.openCtxs ↔ s.ctxState i = 1 := by
  simp only [State.openCtxs, List.mem_filter, List.mem_map, decide_eq_true_eq]
  refine ⟨fun h => h.2, fun h => ⟨?_, h⟩⟩
  obtain ⟨x, hx, hk⟩ := exists_mem_of_aget_ne (State.statusByte_ne_zero h)
  exact ⟨x, ⟨hx, by omega⟩, by omega⟩

/-- A match is an open context that admits the port and has the datagram's UDP port and SSRC. -/
theorem State.matchCtx_some {i port udpPort ssrc : Nat} (h : s.matchCtx port udpPort ssrc = some i) :
    s.ctxState i = 1 ∧ s.ctxPortOk i port = true ∧ s.ctxF i 0x08 2 = udpPort ∧ s.ctxF i 0x0C 4 = ssrc := by
  have hopen := State.mem_openCtxs.mp (List.mem_of_find?_eq_some h)
  have hkey := List.find?_some h
  simp only [Bool.and_eq_true, decide_eq_true_eq] at hkey
  obtain ⟨⟨hport, hudp⟩, hssrc⟩ := hkey
  exact ⟨hopen, hport, hudp, hssrc⟩

/-- No match is made exactly when every open context differs in one part of the key. -/
theorem State.matchCtx_eq_none_iff {port udpPort ssrc : Nat} : s.matchCtx port udpPort ssrc = none ↔
    ∀ i, s.ctxState i = 1 → s.ctxPortOk i port = true → s.ctxF i 0x08 2 = udpPort → s.ctxF i 0x0C 4 ≠ ssrc := by
  simp [State.matchCtx, State.mem_openCtxs]

/-- The only open context with the datagram's key is the one that matches. -/
theorem State.matchCtx_eq_some_of_unique {i port udpPort ssrc : Nat} (hs : s.ctxState i = 1)
    (hp : s.ctxPortOk i port = true) (hu : s.ctxF i 0x08 2 = udpPort) (hr : s.ctxF i 0x0C 4 = ssrc)
    (only : ∀ j, j ≠ i → s.ctxState j = 1 → s.ctxPortOk j port = true → s.ctxF j 0x08 2 = udpPort →
      s.ctxF j 0x0C 4 ≠ ssrc) : s.matchCtx port udpPort ssrc = some i := by
  cases h : s.matchCtx port udpPort ssrc with
  | none => exact absurd hr (State.matchCtx_eq_none_iff.mp h i hs hp hu)
  | some j =>
    obtain ⟨js, jp, ju, jr⟩ := State.matchCtx_some h
    by_cases e : j = i
    · rw [e]
    · exact absurd jr (only j e js jp ju)

end Sys2Proof.Machine
end

section
/-! A UDP datagram that passes the classifier's checks: what is made of it, and what that changes (R51, R54). -/

namespace Sys2Proof.Machine

variable {s : State} {f : EthFrame}

/-- A frame received on a port is counted. -/
def State.rxCounted (s : State) (p : Nat) : State := s.wr (Reg.ETH_RX_FRAMES p) (s.rd (Reg.ETH_RX_FRAMES p) + 1)

/-- The context that a frame's datagram is for (R54, R55). -/
def State.rxTarget (s : State) (f : EthFrame) : Option Nat :=
  if f.rtcp then s.matchRtcp f.port f.dstPort f.ssrc else s.matchCtx f.port f.dstPort f.ssrc

/-- A datagram that is neither PTP nor turned away by R51 goes to its context, or is dropped as unmatched. -/
theorem exec_ethRxFrame_of_passesR51 (h : s.passesR51 f) (h319 : f.dstPort ≠ 319) (h320 : f.dstPort ≠ 320)
    (hctrl : s.bitAt Reg.ING_CTRL 0 = true) :
    exec (.ethRxFrame f) s = done s ((s.rxTarget f).elim (((s.rxCounted f.port).unmatched f.port f.ssrc).setRx .dropped)
      (fun i => (s.rxCounted f.port).setRx (.scene i))) := by
  obtain ⟨hen, hshut, hfcs, hlen, hpause, hmac, hvlan, htype, hip, hdst, hudp, hsum, hsum6⟩ := h
  show execEthRxFrame f s = _
  refine (if_neg ?ready).trans <| (if_neg ?whole).trans <| (if_neg ?pause).trans <| (if_neg ?mac).trans <|
    (if_neg ?vlan).trans <| (if_neg ?notPtp).trans <| (if_neg ?ip).trans <| (if_neg ?udp).trans <|
    (if_neg ?notPtpPort).trans <| (if_neg ?ingress).trans ?dispatch
  case ready => simp [hen, hshut]
  case whole => simp [hfcs, hlen]
  case pause => simp [hpause]
  case mac =>
    rcases hmac with e | ⟨e, e'⟩
    · simp [e]
    · simp [e, e']
  case vlan =>
    cases e : f.vlan with
    | none => simp
    | some v =>
      obtain ⟨hon, hid⟩ := hvlan v e
      simp [hon, hid]
  case notPtp => omega
  case ip => rcases htype with e | e <;> simp [e, hip, hdst]
  case udp => simpa [hudp, hsum] using hsum6
  case notPtpPort => simp [h319, h320]
  case ingress => simp [hctrl]
  case dispatch =>
    unfold State.rxTarget
    generalize (if f.rtcp = true then s.matchRtcp f.port f.dstPort f.ssrc else s.matchCtx f.port f.dstPort f.ssrc) = m
    cases m <;> rfl

theorem Quiet.setRx {P : Nat → Prop} {u : State} (h : Quiet P s u) (c : RxClass) : Quiet P s (u.setRx c) := h.with_ing _

@[simp] theorem State.rd_setRx (s : State) (c : RxClass) (a : Nat) : (s.setRx c).rd a = s.rd a := s.rd_with_ing _ a

@[simp] theorem finish_setRx_lastRx (b u : State) (c : RxClass) : (finish b (u.setRx c)).ing.lastRx = c := by
  rw [finish_ing]; rfl

/-- Counting a frame changes its port's counter only. -/
theorem State.rxCounted_quiet (s : State) (p : Nat) : Quiet (fun a => a = Reg.ETH_RX_FRAMES p) s (s.rxCounted p) :=
  (Quiet.refl _ s).wr _ _ rfl

/-- An unmatched datagram changes its port's counter and the three registers of its record. -/
theorem State.rxUnmatched_quiet (s : State) (p ssrc : Nat) :
    Quiet (fun a => a = Reg.ETH_RX_FRAMES p ∨ a = Reg.ING_UNMATCHED_COUNT ∨ a = Reg.ING_UNMATCHED_LAST ∨
      a = Reg.ING_UNMATCHED_SSRC) s ((s.rxCounted p).unmatched p ssrc) :=
  ((((s.rxCounted_quiet p).mono fun _ => .inl).inc _ (.inr (.inl rfl))).wr _ _ (.inr (.inr (.inl rfl)))).wr _ _
    (.inr (.inr (.inr rfl)))

/-- The record of an unmatched datagram: one more, and its port and SSRC over the previous values (R54). -/
theorem State.rxUnmatched_record (s : State) {p : Nat} (ssrc : Nat) (hp : p < 4) :
    let t := (s.rxCounted p).unmatched p ssrc
    t.rd Reg.ING_UNMATCHED_COUNT = min (s.rd Reg.ING_UNMATCHED_COUNT + 1) 0xFFFFFFFF ∧
      t.rd Reg.ING_UNMATCHED_LAST = p ∧ t.rd Reg.ING_UNMATCHED_SSRC = ssrc % 2 ^ 32 := by
  have hcl : Reg.ING_UNMATCHED_COUNT ≠ Reg.ING_UNMATCHED_LAST := by decide
  have hcs : Reg.ING_UNMATCHED_COUNT ≠ Reg.ING_UNMATCHED_SSRC := by decide
  have hls : Reg.ING_UNMATCHED_LAST ≠ Reg.ING_UNMATCHED_SSRC := by decide
  have hce : Reg.ING_UNMATCHED_COUNT ≠ Reg.ETH_RX_FRAMES p := by
    unfold Reg.ING_UNMATCHED_COUNT Reg.ETH_RX_FRAMES; omega
  refine ⟨?_, ?_, State.rd_wr_mod _ _ _⟩
  · rw [State.unmatched, State.rd_wr_other _ _ hcs, State.rd_wr_other _ _ hcl, State.rd_inc_same, State.rxCounted,
      State.rd_wr_other _ _ hce]
  · rw [State.unmatched, State.rd_wr_other _ _ hls, State.rd_wr_same _ _ (by omega)]

end Sys2Proof.Machine
end

section
/-! OPEN of a context that fails (R54, R56). -/

namespace Sys2Proof.Machine

variable {s : State}

theorem bits_and (v m hi lo : Nat) : bits (v &&& m) hi lo = bits v hi lo &&& bits m hi lo := by
  refine Nat.eq_of_testBit_eq fun i => ?_
  simp only [bits_testBit, Nat.testBit_and]
  cases decide (i < hi - lo + 1) <;> simp

/-- Every code of OPEN is one of R56's table. -/
theorem State.ctxOpenCode_le (s : State) (i : Nat) : s.ctxOpenCode i ≤ 6 := by
  unfold State.ctxOpenCode
  repeat' split
  all_goals decide

/-- A context that shares a port, UDP_PORT and SSRC with an open one is a duplicate. -/
theorem State.ctxDuplicate_of_shared {i j p : Nat} (hji : j ≠ i) (hj : s.ctxState j = 1) (hpi : s.ctxPortOk i p = true)
    (hpj : s.ctxPortOk j p = true) (hu : s.ctxF i 8 2 = s.ctxF j 8 2) (hr : s.ctxF i 0xC 4 = s.ctxF j 0xC 4) :
    s.ctxDuplicate i = true := by
  have hmask : bits (s.ctxF i 0 4) 8 5 &&& bits (s.ctxF j 0 4) 8 5 ≠ 0 := by
    intro h0
    have hbit : (bits (s.ctxF i 0 4) 8 5 &&& bits (s.ctxF j 0 4) 8 5).testBit p = true := by
      rw [Nat.testBit_and]; exact Bool.and_eq_true_iff.mpr ⟨hpi, hpj⟩
    rw [h0, Nat.zero_testBit] at hbit
    exact Bool.noConfusion hbit
  unfold State.ctxDuplicate
  rw [List.any_eq_true]
  exact ⟨j, State.mem_openCtxs.mpr hj, by simp [hji, hmask, hu, hr]⟩

/-- OPEN of a duplicate fails, if not for one of the earlier checks then with DUPLICATE_KEY. -/
theorem State.ctxOpenCode_ne_zero_of_duplicate {i : Nat} (h : s.ctxDuplicate i = true) : s.ctxOpenCode i ≠ 0 := by
  unfold State.ctxOpenCode
  rw [if_pos h]
  split
  · decide
  · split <;> decide

/-- A refused OPEN leaves its code and context in ING_CTX_STATUS, and nothing else. -/
theorem State.ctxCmd_open_refused {i v : Nat} (hi : bits v 9 0 = i) (hop : bits v 17 16 = 1) (hcode : s.ctxOpenCode i ≠ 0) :
    s.ctxCmd v = s.wr Reg.ING_CTX_STATUS (s.ctxOpenCode i * 16 + i * 0x10000) := by
  subst hi
  unfold State.ctxCmd
  simp only [hop, if_true, if_neg hcode]

/-- ING_CTX_CMD keeps the context and the operation that are written to it. -/
theorem ctxCmd_fields {c op : Nat} (hc : c < 1024) (hop : op < 4) :
    bits ((c + op * 0x10000) &&& 0x303FF) 9 0 = c ∧ bits ((c + op * 0x10000) &&& 0x303FF) 17 16 = op := by
  rw [bits_and, bits_and, show bits 0x303FF 9 0 = 2 ^ 10 - 1 from rfl, show bits 0x303FF 17 16 = 2 ^ 2 - 1 from rfl,
    Nat.and_two_pow_sub_one_eq_mod, Nat.and_two_pow_sub_one_eq_mod, bits, bits, Nat.shiftRight_eq_div_pow,
    Nat.shiftRight_eq_div_pow]
  omega

/-- A write of ING_CTX_CMD by its owner is the command of its fields. -/
theorem State.submit_ctxCmd {d : Dom} (h : s.writable d Page.ING) (v : W32) :
    s.submit (.write { dom := d, addr := Reg.ING_CTX_CMD, value := v, be := 15 }) = s.ctxCmd (v.toNat &&& 0x303FF) := by
  have hrow : rowAt Reg.ING_CTX_CMD = some ⟨0x044, 1, 0x0, 1, 0x0, .wo, 0x0, [⟨0, 10, .any⟩, ⟨16, 2, .any⟩], false, false⟩ := by
    decide
  have hkept : kept Reg.ING_CTX_CMD v = v.toNat &&& 0x303FF := by rw [kept, hrow]; rfl
  have unscoped : (scopedReg Reg.ING_CTX_CMD || commitControl Reg.ING_CTX_CMD v.toNat) = false := rfl
  have hcount : s.countScoped Reg.ING_CTX_CMD v.toNat = s := by rw [State.countScoped, unscoped]; rfl
  rw [State.submit_window h (.inl (by decide)) _ (by decide) (by decide) (by rw [hrow]; rfl), hcount,
    State.windowWrite_strobe s d hrow (.inl rfl), hkept]
  rfl

/-- OPEN that fails a check answers with the check's code (R56). -/
theorem exec_ctxOpen_refused {d : Dom} {c : Nat} (h : s.writable d Page.ING) (hc : c < 1024) (hcode : s.ctxOpenCode c ≠ 0) :
    exec (.ctxOpen d c) s = done s (s.wr Reg.ING_CTX_STATUS (s.ctxOpenCode c * 16 + c * 0x10000)) := by
  have hv : (BitVec.ofNat 32 (c % 1024 + 0x10000)).toNat = c + 1 * 0x10000 := by
    rw [BitVec.toNat_ofNat]; omega
  obtain ⟨hi, hop⟩ := ctxCmd_fields hc (show 1 < 4 by decide)
  refine congrArg (done s) ?_
  rw [State.submit_ctxCmd h, hv, State.ctxCmd_open_refused hi hop hcode]

end Sys2Proof.Machine
end

section
open Sys2Proof.Machine

/-- Settles O21: the list of open contexts holds each open context, so the classifier finds the one with the datagram's
key and none when there is none; and OPEN meets the same list when it looks for a duplicate key. -/
theorem datagramsMatchTheirContext : Obligations.DatagramsMatchTheirContext := by
  refine fun s => ⟨fun f hf h319 h320 hctrl hrtcp hport => ⟨fun i hs hp hu hr only => ?_, fun unlike => ?_⟩,
    fun d c j p hw hc hji hj hpc hpj hu hr => ?_⟩
  · have target : s.rxTarget f = some i := by
      rw [State.rxTarget, hrtcp]; exact State.matchCtx_eq_some_of_unique hs hp hu hr only
    have quiet := ((s.rxCounted_quiet f.port).setRx (.scene i)).finish s
    refine ⟨_, exec_ethRxFrame_of_passesR51 hf h319 h320 hctrl, ?_⟩
    rw [target, Option.elim_some]
    exact ⟨finish_setRx_lastRx _ _ _, quiet.onlyRegs, quiet.sameMemory⟩
  · have target : s.rxTarget f = none := by
      rw [State.rxTarget, hrtcp]; exact State.matchCtx_eq_none_iff.mpr unlike
    have quiet := ((s.rxUnmatched_quiet f.port f.ssrc).setRx .dropped).finish s
    obtain ⟨count, last, ssrc⟩ := s.rxUnmatched_record f.ssrc hport
    refine ⟨_, exec_ethRxFrame_of_passesR51 hf h319 h320 hctrl, ?_⟩
    rw [target, Option.elim_none]
    simp only [finish_setRx_lastRx, rd_finish, State.rd_setRx]
    exact ⟨trivial, count, last, ssrc, quiet.onlyRegs, quiet.sameMemory⟩
  · have hcode := State.ctxOpenCode_ne_zero_of_duplicate (State.ctxDuplicate_of_shared hji hj hpc hpj hu hr)
    have quiet := ((Quiet.refl (· = Reg.ING_CTX_STATUS) s).wr Reg.ING_CTX_STATUS
      (s.ctxOpenCode c * 16 + c * 0x10000) rfl).finish s
    refine ⟨_, exec_ctxOpen_refused hw hc hcode, ?_, quiet.onlyRegs, quiet.sameMemory⟩
    have hle := s.ctxOpenCode_le c
    rw [fld_finish, State.fld, State.rd_wr_mod, bits, Nat.shiftRight_eq_div_pow]
    omega

end

section
/-! Error capture: the first-error rule of the capture registers, and the write that rearms them (R424, R429). -/

namespace Sys2Proof.Machine

variable (s : State) {page code source detail : Nat}

/-- An error that meets VALID at 1 is not recorded: it sets LOST (R429). -/
theorem State.capture_of_valid (h : s.bitAt (Reg.ERR_CAPTURE0 page) 31 = true) :
    s.capture page code source detail = s.setPage page { s.page page with lost := true } := if_pos h

/-- An error that meets VALID at 0 is written to the four capture registers and raises INT_RAW bit 31 (R428, R429). -/
theorem State.capture_of_not_valid (h : s.bitAt (Reg.ERR_CAPTURE0 page) 31 = false) :
    s.capture page code source detail =
      ((((s.wr (Reg.ERR_CAPTURE0 page) (code + source * 0x10000 + 0x80000000)).wr (Reg.ERR_CAPTURE1 page) s.frameSeq).wr
        (Reg.ERR_CAPTURE2 page) (s.now % 2 ^ 32)).wr (Reg.ERR_CAPTURE3 page) detail).raise page 31 :=
  if_neg (Bool.eq_false_iff.mp h)

/-- The registers that a captured error writes. -/
def captureRegs (page a : Nat) : Prop := a = Reg.INT_RAW page ∨ ∃ j, j < 4 ∧ a = Reg.ERR_CAPTURE0 page + 4 * j

/-- Capturing an error changes those registers only. -/
theorem State.capture_quiet (h : s.bitAt (Reg.ERR_CAPTURE0 page) 31 = false) :
    Quiet (captureRegs page) s (s.capture page code source detail) := by
  rw [s.capture_of_not_valid h]
  exact (((((Quiet.refl _ s).wr _ _ (.inr ⟨0, by decide, rfl⟩)).wr _ _ (.inr ⟨1, by decide, rfl⟩)).wr _ _
    (.inr ⟨2, by decide, rfl⟩)).wr _ _ (.inr ⟨3, by decide, rfl⟩)).raise _ _ (.inl rfl)

/-- What a captured error leaves in the four capture registers and in INT_RAW (R424, R428, R429). -/
theorem State.capture_record (h : s.bitAt (Reg.ERR_CAPTURE0 page) 31 = false) (hc : code < 2 ^ 16) (hs : source < 8) :
    (s.capture page code source detail).rd (Reg.ERR_CAPTURE0 page) = code + source * 0x10000 + 0x80000000 ∧
    (s.capture page code source detail).rd (Reg.ERR_CAPTURE1 page) = s.frameSeq ∧
    (s.capture page code source detail).rd (Reg.ERR_CAPTURE2 page) = s.now % 2 ^ 32 ∧
    (s.capture page code source detail).rd (Reg.ERR_CAPTURE3 page) = detail % 2 ^ 32 ∧
    (s.capture page code source detail).bitAt (Reg.INT_RAW page) 31 = true := by
  rw [s.capture_of_not_valid h]
  refine ⟨?_, ?_, ?_, ?_, State.bitAt_raise_same _ _ _ (by decide)⟩
  -- The addresses differ by their offsets in the page, so the later writes leave each register alone.
  all_goals
    unfold Reg.ERR_CAPTURE0 Reg.ERR_CAPTURE1 Reg.ERR_CAPTURE2 Reg.ERR_CAPTURE3
    rw [State.rd_raise_other _ _ _ (by unfold Reg.INT_RAW; omega)]
    simp (disch := omega) only [State.rd_wr_other, State.rd_wr_mod, Nat.mod_mod]
  · exact Nat.mod_eq_of_lt (by omega)
  · exact Nat.mod_eq_of_lt (s.rd_lt _)

/-- An error meets the first-error rule: it is recorded while VALID is 0 and only sets LOST otherwise (R429). -/
theorem State.capture_captures (hc : code < 2 ^ 16) (hs : source < 8) :
    s.captures (s.capture page code source detail) page code source detail := by
  refine ⟨fun h => ?_, fun h => ?_, s.capture_mem _ _ _ _⟩
  · obtain ⟨word, frame, time, info, raised⟩ := s.capture_record (detail := detail) h hc hs
    exact ⟨word, frame, time, info, raised, (s.capture_quiet h).onlyRegs⟩
  · rw [s.capture_of_valid h]
    exact ⟨s.page_setPage_same _ _, fun q hq => s.page_setPage_other _ hq, fun a _ => s.reg_setPage _ _ a⟩

/-- The fields of ERR_CAPTURE0 after a captured error: CODE, SOURCE, reserved bits at 0, and VALID (R429). -/
theorem State.capture_fields (h : s.bitAt (Reg.ERR_CAPTURE0 page) 31 = false) (hc : code < 2 ^ 16) (hs : source < 8) :
    (s.capture page code source detail).fld (Reg.ERR_CAPTURE0 page) 15 0 = code ∧
    (s.capture page code source detail).fld (Reg.ERR_CAPTURE0 page) 18 16 = source ∧
    (s.capture page code source detail).fld (Reg.ERR_CAPTURE0 page) 30 19 = 0 ∧
    (s.capture page code source detail).bitAt (Reg.ERR_CAPTURE0 page) 31 = true := by
  obtain ⟨word, -⟩ := s.capture_record (detail := detail) h hc hs
  simp only [State.fld, State.bitAt, word, bits, Nat.shiftRight_eq_div_pow, Nat.testBit_eq_decide_div_mod_eq,
    decide_eq_true_eq]
  omega

/-! The clearing write. -/

theorem State.bitAt_clearValid {v : Nat} (hv : bit v 31 = true) :
    (s.clearValid page v).bitAt (Reg.ERR_CAPTURE0 page) 31 = false := by
  rw [State.clearValid, if_pos hv, State.bitAt_setPage, State.bitAt_setBit_same _ _ _ _ (by decide)]

theorem State.lost_clearValid {v : Nat} (hv : bit v 31 = true) : ((s.clearValid page v).page page).lost = false := by
  rw [State.clearValid, if_pos hv, State.page_setPage_same]

theorem State.reg_clearValid_other {a : Nat} (v : Nat) (ha : a ≠ Reg.ERR_CAPTURE0 page) :
    (s.clearValid page v).reg a = s.reg a := by
  unfold State.clearValid
  split
  · rw [State.reg_setPage, State.reg_setBit_other _ _ _ ha]
  · rfl

@[simp] theorem State.clearValid_mem (v : Nat) : (s.clearValid page v).mem = s.mem := by
  unfold State.clearValid
  split <;> rfl

/-- A header write at ERR_CAPTURE0 is the W1C of VALID (R424, R429). -/
theorem State.headerWrite_errCapture0 (d : Dom) (v : Nat) :
    s.headerWrite d (Reg.ERR_CAPTURE0 page) v = s.clearValid page v := by
  have hpage : Reg.ERR_CAPTURE0 page / 0x1000 = page := by unfold Reg.ERR_CAPTURE0; omega
  have hoff : Reg.ERR_CAPTURE0 page % 0x1000 = 0x020 := by unfold Reg.ERR_CAPTURE0; omega
  simp [State.headerWrite, hpage, hoff]

end Sys2Proof.Machine
end

section
open Sys2Proof.Machine

/-- Settles O11: an error is captured or lost by VALID alone, and after the clearing write VALID is 0, so an error that meets
that write stands behind it and is captured. -/
theorem firstErrorIsCaptured : Obligations.FirstErrorIsCaptured := by
  refine fun s page => ⟨fun _ _ _ hc hs => s.capture_captures hc hs, fun _ _ _ hc hs h => s.capture_fields h hc hs,
    fun d hw => answers_header hw (by decide) (by decide) rfl (State.headerWrite_errCapture0 _ d _) ?_⟩
  generalize ht : finish s (State.clearValid _ page _) = t
  have rearmed : t.bitAt (Reg.ERR_CAPTURE0 page) 31 = false := by
    rw [← ht, bitAt_finish, State.bitAt_clearValid _ (by decide)]
  have lost : (t.page page).lost = false := by rw [← ht, page_finish, State.lost_clearValid _ (by decide)]
  have frame {a : Nat} (ha : a ≠ Reg.ERR_CAPTURE0 page) : t.reg a = s.reg a := by
    rw [← ht, reg_finish, State.reg_clearValid_other _ _ ha, State.reg_countScoped]
  have memory : t.mem = s.mem := by rw [← ht, finish_mem, State.clearValid_mem, State.countScoped_mem]
  refine ⟨rearmed, lost, fun j hj _ => frame (by omega), fun code source detail hc hs => ?_, fun a => frame, memory⟩
  obtain ⟨hcode, -, -, hvalid⟩ := t.capture_fields (detail := detail) rearmed hc hs
  exact ⟨hvalid, hcode⟩

end
